-- ==== Sys2Proof/Word.lean ====
section
/-! DEFINITION. The K240's numbers: bytes, band IDs, timebase values, and the saturating counts of the manual's Conventions. -/

namespace Sys2Proof

/-- One byte of a Desk Link frame or of a lock-string frame. -/
abbrev Byte := BitVec 8

/-- A band ID, eight hexadecimal digits; 00000000 is not a valid band (R32). -/
abbrev BandId := BitVec 32

/-- A value of the millisecond timebase, which wraps at its top (R170). -/
abbrev Millis := BitVec 32

/-- One step of a count that stays at its largest value `top` once it has reached it (Conventions, Saturating counts). -/
def satInc (top n : Nat) : Nat := min top (n + 1)

end Sys2Proof
end

