-- ==== Sys2Proof/Config.lean ====
section
/-! DEFINITION. Figures that are fixed in the part. The spec leaves no value open to an implementation, so there is no free value here. -/

namespace Sys2Proof.Config

/-- The number of units (R1). -/
abbrev unitCount : Nat := 240

/-- The largest number of Directory entries (R33). -/
abbrev dirCapacity : Nat := 1024

/-- The largest number of records in the Actuation Queue (R81). -/
abbrev queueCapacity : Nat := 32

/-- The largest number of outstanding demands (R83). -/
abbrev demandCapacity : Nat := 8

/-- The largest number of notices in the Notice Queue (R200). -/
abbrev noticeCapacity : Nat := 64

/-- The score at which a string is OFF (R137). -/
abbrev scoreTop : Nat := 256

/-- The largest value of a live counter (R203). -/
abbrev counterTop : Nat := 4294967295

/-- The vendor, part and revision codes, high byte first, as IDENTIFY sends them (R194, R208). -/
def identity : List Byte := [0x1C#8, 0x4E#8, 0x02#8, 0x40#8, 0x03#8]

end Sys2Proof.Config
end

