-- ==== Sys2Proof/Syntax.lean ====
section
/-! DEFINITION. The commands: one constructor for each row of spec/opcode_table.json, in the table's order. -/

namespace Sys2Proof

/-- The four lock strings (R124). -/
inductive StringId where
  | a | b | c | d
deriving DecidableEq, Repr

/-- The two sweep slots (R152). -/
inductive SlotId where
  | evacuation | closing
deriving DecidableEq, Repr

/-- The commands. A host request carries its frame's tag and then the fields of its body, as R208 lays them out, each at its full size and
not yet checked. An event at a string names the string; an event of a presentation names the presenting node. -/
inductive Instr where
  /-- POWER_UP (R29): main power comes up. -/
  | powerUp
  /-- RESET_PULSE (R29): the RESET input goes low and returns high. -/
  | resetPulse
  /-- ALARM_LEVEL_CHANGE (R153): the ALARM line stands at this level from now on. -/
  | alarmLevelChange (asserted : Bool)
  /-- SUPPLY_LOW_CHANGE (R119): the SUPPLY_LOW line stands at this level from now on. -/
  | supplyLowChange (asserted : Bool)
  /-- CURRENT_LIMIT_CHANGE (R120): the CURRENT_LIMIT line stands at this level from now on. -/
  | currentLimitChange (asserted : Bool)
  /-- DRAIN_TICK (R114). -/
  | drainTick
  /-- SECOND_TICK (R172, R175). -/
  | secondTick
  /-- CLOSING_TIME (R175): the second tick that leaves the valid clock at the enabled closing second. -/
  | closingTime
  /-- MINUTE_TICK (R177, R178): the Tenancy Table's act of the minute tick. -/
  | minuteTick
  /-- VALIDITY_COUNTDOWN (R179): the Directory's act of the minute tick. -/
  | validityCountdown
  /-- BAND_EXPIRED (R36): the validity minutes of this band go from 1 to 0. -/
  | bandExpired (band : BandId)
  /-- FRAME_COMPLETE (R185): the complete frame that stands in the receiver is placed. -/
  | frameComplete
  /-- FRAME_GAP_TIMEOUT (R183): 20 ms have passed inside a frame being assembled. -/
  | frameGapTimeout
  /-- REPLY_END (R188): the last byte of the reply has been sent. -/
  | replyEnd
  /-- NOTICE_AGE_TIMER_EXPIRY (R196). -/
  | noticeAgeTimerExpiry
  /-- IDENTIFY (R194). -/
  | identify (tag : Byte)
  /-- SET_PARAMETERS naming the SUPPLY group (R116, R117): K_L, K_C, D, LW, HW, C. -/
  | setParametersSupply (tag : Byte) (kL kC : BitVec 16) (d : Byte) (lw hw c : BitVec 16)
  /-- SET_PARAMETERS naming the STRINGS group (R127). -/
  | setParametersStrings (tag base mult allowance : Byte) (settle gap : BitVec 16) (auto interval : Byte)
  /-- SET_PARAMETERS naming the TIME group (R176). -/
  | setParametersTime (tag : Byte) (closing : BitVec 24) (enable : Byte) (urgency : BitVec 16) (evacLockers : Byte)
      (guest child family staff : BitVec 16) (occupancy : Byte)
  /-- SET_PARAMETERS naming the LINK group (R192). -/
  | setParametersLink (tag age policy : Byte)
  /-- GET_PARAMETERS (R193). -/
  | getParameters (tag group : Byte)
  /-- CONFIGURE_UNIT (R21, R22). -/
  | configureUnit (tag unit kind string node zone mode interval : Byte)
  /-- REMOVE_UNIT (R23). -/
  | removeUnit (tag unit : Byte)
  /-- WITHDRAW_UNIT (R24). -/
  | withdrawUnit (tag unit : Byte)
  /-- RESTORE_UNIT (R25). -/
  | restoreUnit (tag unit : Byte)
  /-- MARK_CLEAN (R25). -/
  | markClean (tag unit : Byte)
  /-- QUERY_UNIT (R26). -/
  | queryUnit (tag unit : Byte)
  /-- LIST_UNITS (R27): the state set, the kind filter, the zone and the start unit. -/
  | listUnits (tag : Byte) (states : BitVec 16) (filter zone start : Byte)
  /-- REGISTER_BAND (R43, R44); 0xFF in an allowance means not given. -/
  | registerBand (tag : Byte) (band : BandId) (cls group : Byte) (validity : BitVec 16) (lockers cabins : Byte)
  /-- AMEND_BAND (R45, R46); the bits of `named` name the items. -/
  | amendBand (tag : Byte) (band : BandId) (named cls group lockers cabins : Byte) (validity : BitVec 16)
  /-- CHECK_OUT_BAND (R47, R48). -/
  | checkOutBand (tag : Byte) (band : BandId) (mode : Byte)
  /-- REPORT_LOST (R49). -/
  | reportLost (tag : Byte) (band : BandId)
  /-- TRANSFER_HOLDINGS (R50, R51). -/
  | transferHoldings (tag : Byte) (old new : BandId)
  /-- QUERY_BAND (R52). -/
  | queryBand (tag : Byte) (band : BandId)
  /-- LIST_BANDS (R53). -/
  | listBands (tag selection : Byte) (start : BandId)
  /-- CLEAR_DIRECTORY (R54). -/
  | clearDirectory (tag : Byte)
  /-- DEMAND (R84 to R87). -/
  | demand (tag unit action : Byte)
  /-- CANCEL_DEMAND (R89). -/
  | cancelDemand (tag demandTag : Byte)
  /-- QUIESCE (R103). -/
  | quiesce (tag : Byte)
  /-- RESUME (R105). -/
  | resume (tag : Byte)
  /-- QUERY_DISPATCH (R106). -/
  | queryDispatch (tag start : Byte)
  /-- QUERY_SUPPLY (R122). -/
  | querySupply (tag clear : Byte)
  /-- RESTART_STRING (R140). -/
  | restartString (tag string : Byte)
  /-- RESET_STRING (R149). -/
  | resetString (tag string : Byte)
  /-- QUERY_STRING (R150). -/
  | queryString (tag string start clear : Byte)
  /-- RELEASE_ZONE (R155). -/
  | releaseZone (tag zone filter : Byte)
  /-- STOP_SWEEP (R165). -/
  | stopSweep (tag : Byte)
  /-- QUERY_SWEEP (R168). -/
  | querySweep (tag slot : Byte)
  /-- SET_CLOCK (R174). -/
  | setClock (tag : Byte) (second : BitVec 24)
  /-- QUERY_CLOCK (R180). -/
  | queryClock (tag : Byte)
  /-- FETCH_NOTICES (R201). -/
  | fetchNotices (tag count : Byte)
  /-- SET_NOTICE_ENABLES (R202): bit k names kind k. -/
  | setNoticeEnables (tag : Byte) (marks : BitVec 24)
  /-- CENSUS (R204). -/
  | census (tag : Byte)
  /-- READ_CENSUS (R204). -/
  | readCensus (tag sect : Byte)
  /-- CLEAR_COUNTERS (R205). -/
  | clearCounters (tag selection : Byte)
  /-- ROUND_TIMER_EXPIRY (R129). -/
  | roundTimerExpiry (str : StringId)
  /-- NODE_REPLY_GOOD (R133): these bytes came back within the reply window of the exchange on the line. -/
  | nodeReplyGood (str : StringId) (frame : List Byte)
  /-- NODE_MISS (R134): the exchange on the line ended without a good reply; these bytes, perhaps none, came back. -/
  | nodeMiss (str : StringId) (received : List Byte)
  /-- RECOVERY_TIMER_EXPIRY (R139). -/
  | recoveryTimerExpiry (str : StringId)
  /-- SETTLE_TIMER_EXPIRY (R144). -/
  | settleTimerExpiry (str : StringId)
  /-- GAP_TIMER_EXPIRY (R147). -/
  | gapTimerExpiry (str : StringId)
  /-- PRESENTATION_LOOKUP (R60) of the decision in progress at this node. -/
  | presentationLookup (str : StringId) (node : Nat)
  /-- STANDALONE_ADMISSION (R38) for the decision in progress at this node. -/
  | standaloneAdmission (str : StringId) (node : Nat)
  /-- PRESENTATION_UNIT_ACT (R60) of the decision in progress at this node. -/
  | presentationUnitAct (str : StringId) (node : Nat)
  /-- GRANT_RECORD (R100): one look of the grant pass, where it finds a queued record. -/
  | grantRecord
  /-- GRANT_SWEEP_CANDIDATE (R101): one look of the grant pass, where it finds a sweep candidate. -/
  | grantSweepCandidate
  /-- CLOSING_URGENCY_TIMER_EXPIRY (R96). -/
  | closingUrgencyTimerExpiry
  /-- SWEEP_WALK (R157): one walk of one string for one slot. -/
  | sweepWalk (slot : SlotId) (str : StringId)
  /-- PAUSE_TIMER_EXPIRY (R164). -/
  | pauseTimerExpiry (slot : SlotId)
  /-- CHARACTER_RECEIVED (R183): a byte, and whether its stop bit was found low. -/
  | characterReceived (byte : Byte) (framingFault : Bool)
  /-- MAIN_POWER_LOSS (R28): main power fails; `codeStale` says that a change had been written and its code not yet. -/
  | mainPowerLoss (codeStale : Bool)
  /-- RET_LOSS (R28): the RET supply is lost while main power is absent. -/
  | retLoss
deriving DecidableEq, Repr

end Sys2Proof
end

