-- ==== Sys2Proof/Machine/State.lean ====
section
/-! DEFINITION. The state of the K240, block by block as the manual's chapters own it, the reasons a step can stop, and the state after a cold start. -/

namespace Sys2Proof.Machine

/-! ## Names of the manual -/

/-- The kind of a unit (R1). -/
inductive UnitKind where
  | locker | cabin
deriving DecidableEq, Repr

/-- The mode of a unit (R1). -/
inductive UnitMode where
  | single | day | freeUse
deriving DecidableEq, Repr

/-- The twelve unit states, in the order of R3. -/
inductive UnitState where
  | unconfigured | vacant | locking | held | unlocking | openHeld | occupied | cleaning | forfeited | jammed | verify | withdrawn
deriving DecidableEq, Repr

/-- The causes of an intent, in the order of R2. -/
inductive Cause where
  | guestLock | guestUnlock | staffOpen | staffLock | staffFree | evacuation | closing
deriving DecidableEq, Repr

/-- The direction of a bolt movement (R2). -/
inductive Direction where
  | lock | unlock
deriving DecidableEq, Repr

/-- A completion, a late resolution or a verdict, as last completion records it (R1). -/
inductive Completion where
  | done | doneLate | refusedByNode | jammed | uncertain
deriving DecidableEq, Repr

/-- A door as a node reports it (R17). -/
inductive Door where
  | opened | closed
deriving DecidableEq, Repr

/-- A bolt as a node reports it (R17). -/
inductive Bolt where
  | locked | unlocked | moving
deriving DecidableEq, Repr

/-- An inside bolt as a node reports it (R17). -/
inductive InsideBolt where
  | engaged | free
deriving DecidableEq, Repr

/-- The class of a band (R32). -/
inductive BandClass where
  | guest | child | family | staff
deriving DecidableEq, Repr

/-- The origin of a candidate, coded in this order by R207. -/
inductive Origin where
  | staff | guestUnlock | guestLock | evacuation | closing
deriving DecidableEq, Repr

/-- The action of a demand, and the semantics of a STAFF record (R80, R83). -/
inductive StaffAction where
  | openUnit | lockUnit | freeUnit
deriving DecidableEq, Repr

/-- The service state of the Dispatch Arbiter (R103). -/
inductive Service where
  | running | quiescing | quiesced
deriving DecidableEq, Repr

/-- The state of a string (R124). -/
inductive StringState where
  | idle | active | warned | degraded | off
deriving DecidableEq, Repr

/-- The presence of a node, coded in this order by R209 (R126). -/
inductive Presence where
  | absent | present | silent
deriving DecidableEq, Repr

/-- An indicator code (R74). -/
inductive Indicator where
  | dark | green | red | amber
deriving DecidableEq, Repr

/-- The phase of an in-flight actuation (R141). -/
inductive Phase where
  | commanding | settling
deriving DecidableEq, Repr

/-- The state of a sweep slot (R152). -/
inductive SlotState where
  | inactive | walking | paused
deriving DecidableEq, Repr

/-- A kind filter, coded in this order by R207 (R152). -/
inductive KindFilter where
  | cabins | lockers | both
deriving DecidableEq, Repr

/-- The endings of a sweep, in the order of R165. -/
inductive Ending where
  | evacuationComplete | evacuationPassLimit | closingComplete | closingPassLimit | closingStopped
deriving DecidableEq, Repr

/-- The state of the link (R196). -/
inductive LinkState where
  | linked | standalone
deriving DecidableEq, Repr

/-- The seventeen outcomes of a presentation, in the order of R73. -/
inductive PresentationOutcome where
  | acceptedLock | acceptedOpen | staffRelease | cleaned | serviceSuspended | unitBusy | queueFull | unknownBand | directoryFull
  | bandLost | outOfService | notBookable | bandExpired | doorOpen | allowanceUsed | notHolder | staffNoHold
deriving DecidableEq, Repr

/-- Why a guest record was removed, in the order of R199. -/
inductive WithdrawReason where
  | nodeLost | stringOff | stringReset | superseded
deriving DecidableEq, Repr

/-- How a demand closed, in the order of R199. -/
inductive DemandEnd where
  | done | refusedByNode | jammed | uncertain | cancelled
deriving DecidableEq, Repr

/-- The two faults a node reports (R135). -/
inductive NodeFault where
  | reader | actuator
deriving DecidableEq, Repr

/-- The notice kinds, in the order of R199. -/
inductive NoticeKind where
  | presentation | actuationDone | guestWithdrawn | demandDone | unitVerified | tamper | overstay | occupancyLong | cleaningDue
  | bandExpired | lostBandSeen | nodeLost | nodeFound | nodeFault | stringState | supplyLow | supplyRestored | sweepDone
  | unitReleased | closingStarted | clockRollover | linkState | quiesced | start
deriving DecidableEq, Repr

/-- The code of a notice (R199): an outcome, reason or state of its kind, or NONE. -/
inductive NoticeCode where
  | none
  | outcome (o : PresentationOutcome)
  | completion (c : Completion)
  | withdrawn (r : WithdrawReason)
  | demand (d : DemandEnd)
  /-- The verdict of a VERIFY resolution: DONE or REFUSED_BY_NODE. -/
  | verdict (refused : Bool)
  /-- The state of a tampered unit: HELD or FORFEITED. -/
  | tampered (forfeited : Bool)
  | bandClass (c : BandClass)
  | mode (m : UnitMode)
  | fault (f : NodeFault)
  | string (st : StringState)
  /-- THROTTLED or NOT_THROTTLED. -/
  | throttled (set : Bool)
  | ending (e : Ending)
  /-- UNLOCKED or WAS_OPEN. -/
  | released (wasOpen : Bool)
  /-- REQUEST or CLOCK. -/
  | closingBy (clock : Bool)
  | link (l : LinkState)
  /-- COLD or WARM. -/
  | start (warm : Bool)
deriving DecidableEq, Repr

/-! ## The Tenancy Table -/

/-- The configuration fields of a unit (R1). -/
structure UnitConfig where
  kind : UnitKind
  string : StringId
  node : Nat
  zone : Nat
  mode : UnitMode
  interval : Nat
deriving DecidableEq, Repr

/-- An intent record without an underlying intent (R2). The direction is read from the cause. -/
structure BaseIntent where
  cause : Cause
  ret : UnitState
deriving DecidableEq, Repr

/-- An intent record (R2). The direction is read from the cause. -/
structure Intent where
  cause : Cause
  ret : UnitState
  under : Option BaseIntent
deriving DecidableEq, Repr

/-- A unit record (R1); its unit number is its place in the table. A door of `none` is UNKNOWN, a last completion of `none` is none. -/
structure UnitRecord where
  config : Option UnitConfig
  state : UnitState
  holder : Option BandId
  intent : Option Intent
  dwell : Nat
  overstayReported : Bool
  occupied : Bool
  occupancy : Nat
  occupancyReported : Bool
  uses : Nat
  tamper : Bool
  door : Option Door
  last : Option Completion
deriving DecidableEq, Repr

/-- The values of a unit record at a cold start (R30). -/
def UnitRecord.cold : UnitRecord where
  config := none
  state := .unconfigured
  holder := none
  intent := none
  dwell := 0
  overstayReported := false
  occupied := false
  occupancy := 0
  occupancyReported := false
  uses := 0
  tamper := false
  door := none
  last := none

/-! ## The Band Directory -/

/-- A band entry (R32). -/
structure Band where
  id : BandId
  cls : BandClass
  group : Nat
  lockers : Nat
  cabins : Nat
  validity : Nat
  expired : Bool
  lost : Bool
  provisional : Bool
  holdings : List Nat
deriving DecidableEq, Repr

/-! ## The Presentation Handler -/

/-- The next act of a decision in progress (R60). -/
inductive Stage where
  | lookup | admission | unitAct
deriving DecidableEq, Repr

/-- A decision in progress (R57, R60): the presenting node, the unit it served when the reply that carried the read was taken, the read, the act that
comes next, whether the lookup found class STAFF, and whether the presentation admitted its band. The decision stays about that unit where the node's
address passes to another unit between its acts (DESIGN CHOICE, log entry 33). -/
structure Decision where
  str : StringId
  node : Nat
  unit : Nat
  band : BandId
  seq : Nat
  stage : Stage
  staff : Bool
  admitted : Bool
deriving DecidableEq, Repr

/-! ## The Dispatch Arbiter -/

/-- An actuation record (R80). -/
structure ActRecord where
  unit : Nat
  direction : Direction
  origin : Origin
  semantics : Option StaffAction
  band : Option BandId
  tag : Option Nat
  enqueuedAt : Millis
deriving DecidableEq, Repr

/-- An outstanding demand (R83). -/
structure Demand where
  tag : Nat
  unit : Nat
  action : StaffAction
  inFlight : Bool
deriving DecidableEq, Repr

/-- The Arbiter's state. `grantPass` says that a grant pass of R99 has started and has not yet found that no eligible candidate remains. -/
structure Arbiter where
  queue : List ActRecord
  demands : List Demand
  nextTag : Nat
  service : Service
  urgent : Bool
  urgencyTimer : Option Nat
  grantPass : Bool
deriving DecidableEq, Repr

/-! ## The Supply Account -/

/-- The state of R108; the six figures stand among the parameters. -/
structure Supply where
  account : Nat
  throttled : Bool
  lowLevel : Bool
  limitLevel : Bool
  lowSeen : Bool
  limitSeen : Bool
  lowSince : Millis
deriving DecidableEq, Repr

/-! ## The String Controllers -/

/-- A node record (R126). A door, bolt or inside bolt of `none` is UNKNOWN. -/
structure NodeRecord where
  addr : Nat
  presence : Presence
  misses : Nat
  door : Option Door
  bolt : Option Bolt
  inside : Option InsideBolt
  readerMark : Bool
  actuatorMark : Bool
  readerLatch : Bool
  actuatorLatch : Bool
  lastSeq : Option Nat
  pending : Indicator
deriving DecidableEq, Repr

/-- The record of a node just added (R126). -/
def NodeRecord.added (addr : Nat) : NodeRecord where
  addr := addr
  presence := .absent
  misses := 0
  door := none
  bolt := none
  inside := none
  readerMark := false
  actuatorMark := false
  readerLatch := false
  actuatorLatch := false
  lastSeq := none
  pending := .dark

/-- An in-flight record (R141). `slot` is the sweep slot it is still attached to. -/
structure InFlight where
  unit : Nat
  node : Nat
  direction : Direction
  origin : Origin
  semantics : Option StaffAction
  band : Option BandId
  tag : Option Nat
  phase : Phase
  limited : Bool
  slot : Option SlotId
deriving DecidableEq, Repr

/-- A command to a node (R131). -/
inductive NodeCommand where
  | poll
  | actuate (d : Direction)
deriving DecidableEq, Repr

/-- The exchange on the line (R131): the frame that was sent. `replaced` says that the node's pending code was written anew since (R148);
`stale` says that the reply or the miss is to be discarded when it comes (R125, R149). -/
structure Exchange where
  node : Nat
  command : NodeCommand
  ack : Option Nat
  code : Indicator
  stale : Bool
  replaced : Bool
deriving DecidableEq, Repr

/-- The state of one String Controller (R124). The roster is the addresses of `nodes`, ascending. `inRound` says whether a round is in
progress, `lastSettle` whether the last exchange was a settle poll (R130), `held` whether the line waits for the grant pass that follows a completion
with a gap of 0 ms (R147), and `lineOut` holds the bytes of the last frame sent. -/
structure StringCtl where
  state : StringState
  score : Nat
  nodes : List NodeRecord
  roundCount : Nat
  cursor : Option Nat
  inRound : Bool
  roundTimer : Option Nat
  inFlight : Option InFlight
  settleTimer : Option Nat
  gapTimer : Option Nat
  recoveryTimer : Option Nat
  exchange : Option Exchange
  lastSettle : Bool
  held : Bool
  lineOut : List Byte
deriving DecidableEq, Repr

/-- A string with an empty roster after a start (R30, R151). -/
def StringCtl.idle : StringCtl where
  state := .idle
  score := 0
  nodes := []
  roundCount := 0
  cursor := none
  inRound := false
  roundTimer := none
  inFlight := none
  settleTimer := none
  gapTimer := none
  recoveryTimer := none
  exchange := none
  lastSettle := false
  held := false
  lineOut := []

/-- One value for each of the four strings. -/
structure PerString (α : Type) where
  a : α
  b : α
  c : α
  d : α
deriving DecidableEq, Repr

/-! ## The Sweep Generator -/

/-- A sweep candidate (R94, R152). -/
structure Offer where
  unit : Nat
  offeredAt : Millis
deriving DecidableEq, Repr

/-- The ending and final counts of a sweep (R152). -/
structure SweepResult where
  ending : Ending
  issued : Nat
  done : Nat
  missed : Nat
deriving DecidableEq, Repr

/-- A sweep slot (R152). A cursor of `none` stands at END. The visit set and the repeat marks are kept ascending. -/
structure SweepSlot where
  state : SlotState
  zone : Nat
  filter : KindFilter
  pass : Nat
  cursors : PerString (Option Nat)
  offers : PerString (Option Offer)
  visit : List Nat
  marks : List Nat
  inFlight : Nat
  pause : Option Nat
  issued : Nat
  done : Nat
  missed : Nat
  result : Option SweepResult
deriving DecidableEq, Repr

/-- A slot after a start (R169). The pass number of a slot that never swept is given as 1, the least of its range. -/
def SweepSlot.cold : SweepSlot where
  state := .inactive
  zone := 0
  filter := .cabins
  pass := 1
  cursors := ⟨none, none, none, none⟩
  offers := ⟨none, none, none, none⟩
  visit := []
  marks := []
  inFlight := 0
  pause := none
  issued := 0
  done := 0
  missed := 0
  result := none

/-- The two slots and the ALARM level as last taken (R152, R153). -/
structure Sweeps where
  evacuation : SweepSlot
  closing : SweepSlot
  alarm : Bool
deriving DecidableEq, Repr

/-! ## The Time block -/

/-- The timebase, the milliseconds left to each tick, the minute count and the Baths Clock (R170 to R172). -/
structure TimeBlock where
  timebase : Millis
  toDrain : Nat
  toSecond : Nat
  toMinute : Nat
  minuteCount : Nat
  second : Nat
  valid : Bool
deriving DecidableEq, Repr

/-! ## The Desk Link -/

/-- A Desk Link frame without its start mark and its body length, which is the length of the body (R183). -/
structure Frame where
  tag : Byte
  type : Byte
  body : List Byte
  crc : BitVec 16
deriving DecidableEq, Repr

/-- The receiver (R183): hunting, or assembling a frame, with the bytes after the start mark and the milliseconds left of the 20 ms within
which the next byte must come. -/
inductive Receiver where
  | hunting
  | assembling (bytes : List Byte) (gapLeft : Nat)
deriving DecidableEq, Repr

/-- The conditions of the notice age timer (R195). -/
inductive AgeTimer where
  | preset
  | running (left : Nat)
  | held
deriving DecidableEq, Repr

/-- The state of the Desk Link (R198). `completed` holds frames whose last CRC byte has arrived and that FRAME_COMPLETE has not yet placed;
`reply` is the reply frame being sent. -/
structure DeskLink where
  receiver : Receiver
  completed : List Frame
  inHand : Option Frame
  waiting : Option Frame
  reply : Option Frame
  overrun : Bool
  state : LinkState
  ageTimer : AgeTimer
deriving DecidableEq, Repr

/-! ## Notices and Census -/

/-- What a block posts (R199): every field but the seq and the stamp. -/
structure NoticeData where
  kind : NoticeKind
  unit : Option Nat := none
  band : Option BandId := none
  string : Option StringId := none
  node : Option Nat := none
  code : NoticeCode := .none
  value : Option Nat := none
deriving DecidableEq, Repr

/-- A stored notice (R199). -/
structure Notice where
  seq : BitVec 16
  stamp : Option Nat
  data : NoticeData
deriving DecidableEq, Repr

/-- The Notice Queue and the ATTN output (R200). -/
structure NoticeQueue where
  stored : List Notice
  nextSeq : BitVec 16
  dropped : Nat
  attn : Bool
deriving DecidableEq, Repr

/-- The counters of one string (R203). -/
structure StringCounters where
  good : Nat
  misses : Nat
  clashes : Nat
  overruns : Nat
deriving DecidableEq, Repr

/-- The 29 live counters (R203). -/
structure Counters where
  accepted : Nat
  refused : Nat
  repeats : Nat
  dispatched : Nat
  done : Nat
  doneLate : Nat
  jammed : Nat
  uncertain : Nat
  refusedByNode : Nat
  limited : Nat
  strings : PerString StringCounters
  framesBad : Nat
  overruns : Nat
  noticesDropped : Nat
deriving DecidableEq, Repr

/-- All counters at 0 (R206). -/
def Counters.zero : Counters :=
  ⟨0, 0, 0, 0, 0, 0, 0, 0, 0, 0, ⟨⟨0, 0, 0, 0⟩, ⟨0, 0, 0, 0⟩, ⟨0, 0, 0, 0⟩, ⟨0, 0, 0, 0⟩⟩, 0, 0, 0⟩

/-- The census summary (R204); `unitCounts` is in the order of the unit states. -/
structure Summary where
  unitCounts : List Nat
  fill : Nat
  provisional : Nat
  queueFill : Nat
  demands : Nat
  account : Nat
  throttled : Bool
  strings : PerString (StringState × Nat)
  service : Service
  link : LinkState
  evacuationActive : Bool
  closingActive : Bool
  notices : Nat
  dropped : Nat
  timebase : Millis
  second : Nat
  valid : Bool
deriving DecidableEq, Repr

/-- The census number and the snapshot, if one has been taken (R204). -/
structure CensusStore where
  number : Nat
  snapshot : Option (Counters × Summary)
deriving DecidableEq, Repr

/-! ## Parameters -/

/-- The SUPPLY group (R109). -/
structure SupplyParams where
  kL : Nat
  kC : Nat
  d : Nat
  lw : Nat
  hw : Nat
  c : Nat
deriving DecidableEq, Repr

/-- The STRINGS group (R127); the recovery interval is in seconds. -/
structure StringParams where
  base : Nat
  mult : Nat
  allowance : Nat
  settle : Nat
  gap : Nat
  auto : Bool
  interval : Nat
deriving DecidableEq, Repr

/-- The TIME group (R176). -/
structure TimeParams where
  closing : Nat
  closingEnabled : Bool
  urgency : Nat
  evacLockers : Bool
  guest : Nat
  child : Nat
  family : Nat
  staff : Nat
  occupancy : Nat
deriving DecidableEq, Repr

/-- The LINK group (R192); the age limit is in seconds. -/
structure LinkParams where
  ageLimit : Nat
  admitUnknown : Bool
deriving DecidableEq, Repr

/-- The four groups. -/
structure Params where
  supply : SupplyParams
  strings : StringParams
  time : TimeParams
  link : LinkParams
deriving DecidableEq, Repr

/-- The values of all figures after a cold start (R193). -/
def Params.default : Params where
  supply := ⟨300, 500, 4, 600, 1500, 2400⟩
  strings := ⟨1, 9, 2, 400, 40, true, 10⟩
  time := ⟨79200, false, 2000, false, 240, 240, 300, 0, 30⟩
  link := ⟨15, false⟩

/-! ## Power, retention and the input lines -/

/-- The levels that stand on the three input lines; the blocks hold the level they last took (R119, R120, R153). -/
structure Pins where
  alarm : Bool
  supplyLow : Bool
  currentLimit : Bool
deriving DecidableEq, Repr

/-- Whether main power is up, and whether the integrity code matches the retained content (R28). -/
structure Power where
  on : Bool
  codeMatches : Bool
deriving DecidableEq, Repr

/-! ## The whole state -/

/-- The state of the K240, and the commands that wait, first in, first out. -/
structure State where
  units : Vector UnitRecord 240
  dir : List Band
  decisions : List Decision
  arb : Arbiter
  supply : Supply
  strings : PerString StringCtl
  sweeps : Sweeps
  time : TimeBlock
  link : DeskLink
  notices : NoticeQueue
  enables : BitVec 24
  counters : Counters
  census : CensusStore
  params : Params
  pins : Pins
  power : Power
  pending : List Instr
deriving DecidableEq, Repr

/-- The ways a step can stop with a fault: none. The spec gives every command an effect, so nothing raises a fault (safe). -/
inductive Fault where
deriving DecidableEq, Repr

/-- The ways a step can be refused. -/
inductive Refusal where
  /-- Raised by an arm of exec whose command has no meaning yet, with the command's mnemonic; no arm does (safe). -/
  | notModelled (mnemonic : String)
deriving DecidableEq, Repr

/-- The machine right after a cold start with the three input lines deasserted: the values of R30, R55, R79, R107, R123, R151, R169, R181,
R198 and R206, with the START notice stored and the notice age timer running from the default age limit. -/
def State.reset : State where
  units := Vector.replicate 240 UnitRecord.cold
  dir := []
  decisions := []
  arb := { queue := [], demands := [], nextTag := 1, service := .running, urgent := false, urgencyTimer := none, grantPass := false }
  supply := { account := 0, throttled := false, lowLevel := false, limitLevel := false, lowSeen := false, limitSeen := false, lowSince := 0 }
  strings := ⟨.idle, .idle, .idle, .idle⟩
  sweeps := { evacuation := .cold, closing := .cold, alarm := false }
  time := { timebase := 0, toDrain := 10, toSecond := 1000, toMinute := 60000, minuteCount := 0, second := 0, valid := false }
  link := { receiver := .hunting, completed := [], inHand := none, waiting := none, reply := none, overrun := false, state := .linked,
            ageTimer := .running 15000 }
  notices := { stored := [{ seq := 0, stamp := none, data := { kind := .start, code := .start false } }], nextSeq := 1, dropped := 0, attn := true }
  enables := 0xFFFFFF#24
  counters := .zero
  census := { number := 0, snapshot := none }
  params := .default
  pins := { alarm := false, supplyLow := false, currentLimit := false }
  power := { on := true, codeMatches := true }
  pending := []

end Sys2Proof.Machine
end

