-- ==== Sys2Proof/Machine/Operands.lean ====
section
/-! DEFINITION. The encodings of R207 to R210: how each name of the manual stands in a byte, how numbers stand in bytes (high byte first), and
how a layout marks what is absent. -/

namespace Sys2Proof.Machine

/-! ## Numbers in bytes (chapter 11: every field of two or more bytes goes high byte first) -/

/-- A number as one byte. -/
def u8 (n : Nat) : List Byte := [BitVec.ofNat 8 n]

/-- A number as two bytes. -/
def u16 (n : Nat) : List Byte := u8 (n / 256) ++ u8 n

/-- A number as three bytes. -/
def u24 (n : Nat) : List Byte := u8 (n / 65536) ++ u16 n

/-- A number as four bytes. -/
def u32 (n : Nat) : List Byte := u16 (n / 65536) ++ u16 n

/-- A yes/no item: no 0, yes 1 (R207). -/
def flag (b : Bool) : List Byte := u8 b.toNat

/-- An item that may be absent: a presence byte, then the item, or zeros of the item's full size (R208). -/
def optional {α : Type} (size : Nat) (enc : α → List Byte) : Option α → List Byte
  | some x => u8 1 ++ enc x
  | none => u8 0 ++ List.replicate size 0#8

/-- An absent item inside an entry, whose presence stands in the entry's presence byte: the item or zeros (R208). -/
def sized {α : Type} (size : Nat) (enc : α → List Byte) : Option α → List Byte
  | some x => enc x
  | none => List.replicate size 0#8

/-- Bits of a byte, bit 0 first. -/
def bits : List Bool → Nat
  | [] => 0
  | b :: rest => b.toNat + 2 * bits rest

/-- A list of entries, preceded by their number (R208). -/
def entries {α : Type} (enc : α → List Byte) (xs : List α) : List Byte := u8 xs.length ++ (xs.map enc).flatten

/-- The value of bytes read high byte first. -/
def ofBytes (w : Nat) (bs : List Byte) : BitVec w := BitVec.ofNat w (bs.foldl (fun n b => 256 * n + b.toNat) 0)

/-! ## Codes of names (R207, R209, R210) -/

/-- A yes/no item as received; any other value is outside its range. -/
def yesNo? (b : Byte) : Option Bool := if b = 0 then some false else if b = 1 then some true else none

/-- The string a byte names. -/
def string? (b : Byte) : Option StringId :=
  match b.toNat with | 0 => some .a | 1 => some .b | 2 => some .c | 3 => some .d | _ => none

def stringCode : StringId → Nat | .a => 0 | .b => 1 | .c => 2 | .d => 3

def kind? (b : Byte) : Option UnitKind := match b.toNat with | 0 => some .locker | 1 => some .cabin | _ => none

def kindCode : UnitKind → Nat | .locker => 0 | .cabin => 1

def filter? (b : Byte) : Option KindFilter :=
  match b.toNat with | 0 => some .cabins | 1 => some .lockers | 2 => some .both | _ => none

def filterCode : KindFilter → Nat | .cabins => 0 | .lockers => 1 | .both => 2

/-- Whether a kind passes a kind filter. -/
def KindFilter.passes : KindFilter → UnitKind → Bool
  | .both, _ => true
  | .cabins, k => k == .cabin
  | .lockers, k => k == .locker

def mode? (b : Byte) : Option UnitMode := match b.toNat with | 0 => some .single | 1 => some .day | 2 => some .freeUse | _ => none

def modeCode : UnitMode → Nat | .single => 0 | .day => 1 | .freeUse => 2

def class? (b : Byte) : Option BandClass :=
  match b.toNat with | 0 => some .guest | 1 => some .child | 2 => some .family | 3 => some .staff | _ => none

def classCode : BandClass → Nat | .guest => 0 | .child => 1 | .family => 2 | .staff => 3

/-- The position of a state in the table of R3. -/
def stateCode : UnitState → Nat
  | .unconfigured => 0 | .vacant => 1 | .locking => 2 | .held => 3 | .unlocking => 4 | .openHeld => 5
  | .occupied => 6 | .cleaning => 7 | .forfeited => 8 | .jammed => 9 | .verify => 10 | .withdrawn => 11

/-- The position of a cause in the list of R2. -/
def causeCode : Cause → Nat
  | .guestLock => 0 | .guestUnlock => 1 | .staffOpen => 2 | .staffLock => 3 | .staffFree => 4 | .evacuation => 5 | .closing => 6

def directionCode : Direction → Nat | .lock => 0 | .unlock => 1

def originCode : Origin → Nat | .staff => 0 | .guestUnlock => 1 | .guestLock => 2 | .evacuation => 3 | .closing => 4

def action? (b : Byte) : Option StaffAction :=
  match b.toNat with | 0 => some .openUnit | 1 => some .lockUnit | 2 => some .freeUnit | _ => none

def actionCode : StaffAction → Nat | .openUnit => 0 | .lockUnit => 1 | .freeUnit => 2

def slot? (b : Byte) : Option SlotId := match b.toNat with | 0 => some .evacuation | 1 => some .closing | _ => none

def doorCode : Option Door → Nat | some .opened => 0 | some .closed => 1 | none => 2

/-- The bolt of a node record; UNKNOWN has no code in R210 and takes the next one (DESIGN CHOICE, log entry 14). -/
def boltCode : Option Bolt → Nat | some .locked => 0 | some .unlocked => 1 | some .moving => 2 | none => 3

/-- The inside bolt of a node record, with R210's codes and UNKNOWN next (DESIGN CHOICE, log entry 14). -/
def insideCode : Option InsideBolt → Nat | some .free => 0 | some .engaged => 1 | none => 2

def lastCode : Option Completion → Nat
  | none => 0 | some .done => 1 | some .doneLate => 2 | some .refusedByNode => 3 | some .jammed => 4 | some .uncertain => 5

def presenceCode : Presence → Nat | .absent => 0 | .present => 1 | .silent => 2

def indicatorCode : Indicator → Nat | .dark => 0 | .green => 1 | .red => 2 | .amber => 3

/-- The phase of an in-flight actuation in the order of R141; no table of the manual codes it (DESIGN CHOICE, log entry 13). -/
def phaseCode : Phase → Nat | .commanding => 0 | .settling => 1

def serviceCode : Service → Nat | .running => 0 | .quiescing => 1 | .quiesced => 2

def stringStateCode : StringState → Nat | .idle => 0 | .active => 1 | .warned => 2 | .degraded => 3 | .off => 4

def slotStateCode : SlotState → Nat | .inactive => 0 | .walking => 1 | .paused => 2

def endingCode : Ending → Nat
  | .evacuationComplete => 0 | .evacuationPassLimit => 1 | .closingComplete => 2 | .closingPassLimit => 3 | .closingStopped => 4

/-- The position of an outcome in the table of R73. -/
def outcomeCode : PresentationOutcome → Nat
  | .acceptedLock => 0 | .acceptedOpen => 1 | .staffRelease => 2 | .cleaned => 3 | .serviceSuspended => 4 | .unitBusy => 5
  | .queueFull => 6 | .unknownBand => 7 | .directoryFull => 8 | .bandLost => 9 | .outOfService => 10 | .notBookable => 11
  | .bandExpired => 12 | .doorOpen => 13 | .allowanceUsed => 14 | .notHolder => 15 | .staffNoHold => 16

/-- The position of a kind in the table of R199. -/
def noticeKindCode : NoticeKind → Nat
  | .presentation => 0 | .actuationDone => 1 | .guestWithdrawn => 2 | .demandDone => 3 | .unitVerified => 4 | .tamper => 5
  | .overstay => 6 | .occupancyLong => 7 | .cleaningDue => 8 | .bandExpired => 9 | .lostBandSeen => 10 | .nodeLost => 11
  | .nodeFound => 12 | .nodeFault => 13 | .stringState => 14 | .supplyLow => 15 | .supplyRestored => 16 | .sweepDone => 17
  | .unitReleased => 18 | .closingStarted => 19 | .clockRollover => 20 | .linkState => 21 | .quiesced => 22 | .start => 23

/-- The position of a code in its kind's list in R199 (R209). -/
def noticeCodeCode : NoticeCode → Nat
  | .none => 0
  | .outcome o => outcomeCode o
  | .completion .done => 0 | .completion .doneLate => 1 | .completion .refusedByNode => 2
  | .completion .jammed => 3 | .completion .uncertain => 4
  | .withdrawn .nodeLost => 0 | .withdrawn .stringOff => 1 | .withdrawn .stringReset => 2 | .withdrawn .superseded => 3
  | .demand .done => 0 | .demand .refusedByNode => 1 | .demand .jammed => 2 | .demand .uncertain => 3 | .demand .cancelled => 4
  | .verdict b => b.toNat
  | .tampered b => b.toNat
  | .bandClass c => classCode c
  | .mode m => modeCode m
  | .fault .reader => 0 | .fault .actuator => 1
  | .string st => stringStateCode st
  | .throttled set => (!set).toNat
  | .ending e => endingCode e
  | .released b => b.toNat
  | .closingBy b => b.toNat
  | .link .standalone => 0 | .link .linked => 1
  | .start b => b.toNat

/-- The 15 bytes of a notice record (R209). -/
def noticeBytes (n : Notice) : List Byte :=
  u16 n.seq.toNat
    ++ u8 (noticeKindCode n.data.kind + 32 * n.data.band.isSome.toNat + 64 * n.data.value.isSome.toNat)
    ++ u24 (n.stamp.getD 0xFFFFFF)
    ++ u8 (n.data.unit.getD 0)
    ++ u32 ((n.data.band.getD 0).toNat)
    ++ u8 ((n.data.string.elim 0 stringCode) * 64 + n.data.node.getD 0)
    ++ u8 (noticeCodeCode n.data.code)
    ++ u16 (n.data.value.getD 0)

/-! ## Reply status codes (R190) -/

/-- The 24 status codes. -/
inductive Status where
  | ok | unknownRequest | badLength | badValue | badState
  | noSuchBand | alreadyRegistered | directoryFull | holdingsRemain | allowanceExceeded | bandLost | bandExpired
  | noSuchUnit | unitBusy | unitInUse | notQuiesced | addressTaken
  | queueFull | demandLimit | noSuchDemand | inFlight
  | notOff | sweepActive | noSweep
deriving DecidableEq, Repr

def Status.code : Status → Nat
  | .ok => 0x00 | .unknownRequest => 0x01 | .badLength => 0x02 | .badValue => 0x03 | .badState => 0x04
  | .noSuchBand => 0x10 | .alreadyRegistered => 0x11 | .directoryFull => 0x12 | .holdingsRemain => 0x13
  | .allowanceExceeded => 0x14 | .bandLost => 0x15 | .bandExpired => 0x16
  | .noSuchUnit => 0x20 | .unitBusy => 0x21 | .unitInUse => 0x22 | .notQuiesced => 0x23 | .addressTaken => 0x24
  | .queueFull => 0x30 | .demandLimit => 0x31 | .noSuchDemand => 0x32 | .inFlight => 0x33
  | .notOff => 0x40 | .sweepActive => 0x41 | .noSweep => 0x42

/-! ## The two CRCs (R207, R211) -/

/-- One bit of the CRC-16: polynomial 0x1021, most significant bit first. -/
def crc16Bit (r : BitVec 16) : BitVec 16 := if r.msb then (r <<< 1) ^^^ 0x1021#16 else r <<< 1

/-- One byte of the CRC-16. -/
def crc16Byte (r : BitVec 16) (b : Byte) : BitVec 16 :=
  Nat.repeat crc16Bit 8 (r ^^^ ((b.zeroExtend 16) <<< 8))

/-- The CRC-16 of a Desk Link frame: the register starts at 0xFFFF, nothing is reflected or added (R207). -/
def crc16 (bs : List Byte) : BitVec 16 := bs.foldl crc16Byte 0xFFFF#16

/-- One bit of the CRC-8: polynomial 0x07, most significant bit first. -/
def crc8Bit (r : Byte) : Byte := if r.msb then (r <<< 1) ^^^ 0x07#8 else r <<< 1

/-- The CRC-8 of a lock-string frame: the register starts at 0x00, nothing is reflected or added (R211). -/
def crc8 (bs : List Byte) : Byte := bs.foldl (fun r b => Nat.repeat crc8Bit 8 (r ^^^ b)) 0#8

/-! ## Desk Link frames (R183, R208) -/

/-- The bytes that the CRC-16 covers: body length, tag, type and body. -/
def Frame.covered (tag type : Byte) (body : List Byte) : List Byte := u16 body.length ++ [tag, type] ++ body

/-- A frame with the CRC that its fields call for. -/
def Frame.make (tag type : Byte) (body : List Byte) : Frame :=
  { tag := tag, type := type, body := body, crc := crc16 (Frame.covered tag type body) }

/-- Whether a frame's CRC matches (R184, R207). -/
def Frame.good (f : Frame) : Bool := f.crc == crc16 (Frame.covered f.tag f.type f.body)

/-- The bytes of a frame on the line, from the start mark (R183). -/
def Frame.wire (f : Frame) : List Byte := [0xC3#8] ++ Frame.covered f.tag f.type f.body ++ u16 f.crc.toNat

/-! ## Lock-string frames (R210) -/

/-- The 6 bytes of a command frame. -/
def commandFrame (node : Nat) (cmd : NodeCommand) (ack : Option Nat) (code : Indicator) : List Byte :=
  let covered := u8 node ++ u8 3
    ++ u8 (match cmd with | .poll => 0 | .actuate .lock => 1 | .actuate .unlock => 2)
    ++ u8 (ack.getD 0xFF) ++ u8 (indicatorCode code)
  covered ++ [crc8 covered]

/-- A node's verdict on an ACTUATE (R132). -/
inductive Verdict where
  | accept | refuse
deriving DecidableEq, Repr

/-- What a good reply says (R132). -/
structure NodeReply where
  door : Door
  bolt : Bolt
  inside : InsideBolt
  readerFault : Bool
  actuatorFault : Bool
  presentation : Option (Nat × BandId)
  verdict : Option Verdict
deriving DecidableEq, Repr

/-- The bytes of a reply frame (R210), as a node forms it; a refusal gives DOOR_OPEN or ACTUATOR_FAULT as its status shows (R132). -/
def replyFrame (node : Nat) (r : NodeReply) : List Byte :=
  let status := u8 (bits [r.door == .opened, r.bolt == .unlocked, r.bolt == .moving, r.inside == .engaged, r.readerFault,
      r.actuatorFault, r.presentation.isSome])
    ++ u8 (r.presentation.elim 0 (·.1)) ++ u32 (r.presentation.elim 0 (·.2.toNat))
  let rest := match r.verdict with
    | none => u8 7 ++ u8 0 ++ status
    | some .accept => u8 9 ++ u8 1 ++ status ++ u8 0 ++ u8 0
    | some .refuse => u8 9 ++ u8 1 ++ status ++ u8 1 ++ u8 (if r.door = .opened then 1 else 2)
  let covered := u8 node ++ rest
  covered ++ [crc8 covered]

/-- The bolt in bits 1 and 2 of the status byte; 3 makes the reply a miss (R211). -/
def replyBolt? (b : Byte) : Option Bolt :=
  match (b >>> 1).toNat % 4 with | 0 => some .locked | 1 => some .unlocked | 2 => some .moving | _ => none

/-- The status of a reply: the byte of flags, the seq byte and the band ID (R210). A seq above 15, which no node sends, is read as its low
four bits (DESIGN CHOICE, log entry 15). -/
def replyStatus? (flags seq : Byte) (band : List Byte) (v : Option Verdict) : Option NodeReply :=
  (replyBolt? flags).map fun bolt =>
    { door := if flags.getLsbD 0 then .opened else .closed
      bolt := bolt
      inside := if flags.getLsbD 3 then .engaged else .free
      readerFault := flags.getLsbD 4
      actuatorFault := flags.getLsbD 5
      presentation := if flags.getLsbD 6 then some (seq.toNat % 16, ofBytes 32 band) else none
      verdict := v }

/-- The verdict and reason bytes; values outside their codes make the reply a miss (R211). A reason within the codes that does not fit its verdict, a
REFUSE with none or an ACCEPT with one, is ignored, and the verdict alone counts (DESIGN CHOICE, log entry 34). -/
def replyVerdict? (v reason : Byte) : Option Verdict :=
  if 2 < reason.toNat then none else match v.toNat with | 0 => some .accept | 1 => some .refuse | _ => none

/-- What stands between a frame's address and its CRC, judged by R211: the length field, the kind and the codes. -/
def replyContent? : List Byte → Option NodeReply
  | [len, kind, flags, seq, b3, b2, b1, b0] =>
    if len = 7 ∧ kind = 0 then replyStatus? flags seq [b3, b2, b1, b0] none else none
  | [len, kind, flags, seq, b3, b2, b1, b0, v, reason] =>
    if len = 9 ∧ kind = 1 then
      (replyVerdict? v reason).bind fun verdict => replyStatus? flags seq [b3, b2, b1, b0] (some verdict)
    else none
  | _ => none

/-- How an exchange is judged from what came back (R131, R211). -/
inductive Judgement where
  | good (r : NodeReply)
  | clash
  | miss
deriving DecidableEq, Repr

/-- Whether a reply is of the kind that answers the command (R131). -/
def answers (cmd : NodeCommand) (r : NodeReply) : Bool :=
  match cmd with
  | .poll => r.verdict.isNone
  | .actuate _ => r.verdict.isSome

/-- Judges what came back within the reply window in answer to a command to a node (R131, R211): a frame that is short, fails its CRC-8 or
is malformed is a miss; one that carries another address is an address clash; one of the wrong kind is a miss. The CRC-8 is the last byte that came
back, so a sound frame with bytes after the end that its length field declares is a miss (DESIGN CHOICE, log entry 32). -/
def judgeReply (node : Nat) (cmd : NodeCommand) (frame : List Byte) : Judgement :=
  match frame.getLast?, frame.dropLast with
  | some crc, addr :: content =>
    if crc ≠ crc8 (addr :: content) then .miss
    else match replyContent? content with
      | none => .miss
      | some r => if addr.toNat ≠ node then .clash else if answers cmd r then .good r else .miss
  | _, _ => .miss

end Sys2Proof.Machine
end

