-- ==== Sys2Proof/Machine/Ops.lean ====
section
/-! DEFINITION. The named operations over the state: the update of each block, the per-string and per-slot accessors, unit and band records,
counters, and the posting of a notice. -/

namespace Sys2Proof.Machine

/-! ## Block updates -/

def State.setUnits (s : State) (x : Vector UnitRecord 240) : State := { s with units := x }
def State.setDir (s : State) (x : List Band) : State := { s with dir := x }
def State.setDecisions (s : State) (x : List Decision) : State := { s with decisions := x }
def State.setArb (s : State) (x : Arbiter) : State := { s with arb := x }
def State.setSupply (s : State) (x : Supply) : State := { s with supply := x }
def State.setStrings (s : State) (x : PerString StringCtl) : State := { s with strings := x }
def State.setSweeps (s : State) (x : Sweeps) : State := { s with sweeps := x }
def State.setTime (s : State) (x : TimeBlock) : State := { s with time := x }
def State.setLink (s : State) (x : DeskLink) : State := { s with link := x }
def State.setNotices (s : State) (x : NoticeQueue) : State := { s with notices := x }
def State.setEnables (s : State) (x : BitVec 24) : State := { s with enables := x }
def State.setCounters (s : State) (x : Counters) : State := { s with counters := x }
def State.setCensus (s : State) (x : CensusStore) : State := { s with census := x }
def State.setParams (s : State) (x : Params) : State := { s with params := x }
def State.setPins (s : State) (x : Pins) : State := { s with pins := x }
def State.setPower (s : State) (x : Power) : State := { s with power := x }
def State.setPending (s : State) (x : List Instr) : State := { s with pending := x }

/-! ## Strings and slots -/

/-- The four strings in the order in which the manual takes them. -/
def allStrings : List StringId := [.a, .b, .c, .d]

def PerString.get {α : Type} (p : PerString α) : StringId → α
  | .a => p.a | .b => p.b | .c => p.c | .d => p.d

def PerString.set {α : Type} (p : PerString α) (i : StringId) (x : α) : PerString α :=
  match i with
  | .a => { p with a := x } | .b => { p with b := x } | .c => { p with c := x } | .d => { p with d := x }

def PerString.toList {α : Type} (p : PerString α) : List α := [p.a, p.b, p.c, p.d]

def PerString.map {α β : Type} (f : α → β) (p : PerString α) : PerString β := ⟨f p.a, f p.b, f p.c, f p.d⟩

/-- The String Controller of a string. -/
def State.str (s : State) (i : StringId) : StringCtl := s.strings.get i

def State.setStr (s : State) (i : StringId) (c : StringCtl) : State := s.setStrings (s.strings.set i c)

/-- The sweep slot of a kind. -/
def State.slot (s : State) : SlotId → SweepSlot
  | .evacuation => s.sweeps.evacuation | .closing => s.sweeps.closing

def State.setSlot (s : State) (k : SlotId) (x : SweepSlot) : State :=
  match k with
  | .evacuation => s.setSweeps { s.sweeps with evacuation := x }
  | .closing => s.setSweeps { s.sweeps with closing := x }

/-- A sweep is active while its slot is WALKING or PAUSED (R152). -/
def State.sweepActive (s : State) (k : SlotId) : Bool := (s.slot k).state != .inactive

/-- The record of a node, where the string's roster holds its address. -/
def State.node? (s : State) (i : StringId) (addr : Nat) : Option NodeRecord := (s.str i).nodes.find? (·.addr == addr)

/-- A node's presence; an address off the roster counts as ABSENT. -/
def State.presence (s : State) (i : StringId) (addr : Nat) : Presence := (s.node? i addr).elim .absent (·.presence)

/-- The records of a string with one of them changed. -/
def updateNode (nodes : List NodeRecord) (addr : Nat) (f : NodeRecord → NodeRecord) : List NodeRecord :=
  nodes.map fun n => if n.addr = addr then f n else n

def State.modNode (s : State) (i : StringId) (addr : Nat) (f : NodeRecord → NodeRecord) : State :=
  s.setStr i { s.str i with nodes := updateNode (s.str i).nodes addr f }

/-! ## Units -/

/-- The unit numbers, ascending (R1). -/
def unitNumbers : List Nat := (List.range Config.unitCount).map (· + 1)

/-- Whether a number is a unit number, 1..240. -/
abbrev isUnit (u : Nat) : Prop := 1 ≤ u ∧ u ≤ 240

/-- The record of a unit; a number that is no unit reads as an UNCONFIGURED record. -/
def State.unit (s : State) (u : Nat) : UnitRecord :=
  if h : isUnit u then s.units[u - 1]'(by have := h; omega) else UnitRecord.cold

def State.setUnit (s : State) (u : Nat) (r : UnitRecord) : State :=
  if h : isUnit u then s.setUnits (s.units.set (u - 1) r (by have := h; omega)) else s

def State.modUnit (s : State) (u : Nat) (f : UnitRecord → UnitRecord) : State := s.setUnit u (f (s.unit u))

/-- The string and node address of a unit's node. -/
def State.unitNode (s : State) (u : Nat) : Option (StringId × Nat) := (s.unit u).config.map fun c => (c.string, c.node)

/-- The kind of a configured unit. -/
def State.unitKind (s : State) (u : Nat) : Option UnitKind := (s.unit u).config.map (·.kind)

/-- The unit that a node serves: no two configured units share both string and address (R21). -/
def State.unitAt (s : State) (i : StringId) (addr : Nat) : Option Nat :=
  unitNumbers.find? fun u => s.unitNode u == some (i, addr)

/-- Whether a unit is a FREE_USE cabin. -/
def UnitRecord.freeUse (r : UnitRecord) : Bool := r.config.elim false (·.mode == .freeUse)

/-- Whether a unit is a cabin. -/
def UnitRecord.isCabin (r : UnitRecord) : Bool := r.config.elim false (·.kind == .cabin)

/-! ## Bands -/

def State.band? (s : State) (b : BandId) : Option Band := s.dir.find? (·.id == b)

def State.modBand (s : State) (b : BandId) (f : Band → Band) : State :=
  s.setDir (s.dir.map fun e => if e.id = b then f e else e)

/-- Inserts an entry at its place in ascending band ID order (R33). -/
def insertBand (e : Band) : List Band → List Band
  | [] => [e]
  | x :: rest => if e.id < x.id then e :: x :: rest else x :: insertBand e rest

/-- The number of units of a kind in a holdings list. -/
def State.kindCount (s : State) (k : UnitKind) (holdings : List Nat) : Nat := holdings.countP fun u => s.unitKind u == some k

/-- The allowance of a band for a kind (R32). -/
def Band.allowance (e : Band) : UnitKind → Nat | .locker => e.lockers | .cabin => e.cabins

/-- The number of entries whose provisional mark is set (R38). -/
def State.provisionalCount (s : State) : Nat := s.dir.countP (·.provisional)

/-- Two bands are group-mates when both entries have the same nonzero group; no band is its own group-mate (R35). -/
def State.groupMates (s : State) (b h : BandId) : Bool :=
  match s.band? b, s.band? h with
  | some x, some y => b != h && x.group != 0 && x.group == y.group
  | _, _ => false

/-! ## Counters -/

def State.count (s : State) (f : Counters → Counters) : State := s.setCounters (f s.counters)

/-- One more on a live counter (R203). -/
def tally (n : Nat) : Nat := satInc Config.counterTop n

def State.countString (s : State) (i : StringId) (f : StringCounters → StringCounters) : State :=
  s.count fun c => { c with strings := c.strings.set i (f (c.strings.get i)) }

/-! ## Notices -/

/-- The stamp of a notice posted now: the clock second, where the clock is valid (R173). -/
def State.stamp (s : State) : Option Nat := if s.time.valid then some s.time.second else none

/-- Whether a kind is enabled; START always is (R202). -/
def State.kindEnabled (s : State) (k : NoticeKind) : Bool := k == .start || s.enables.getLsbD (noticeKindCode k)

/-- A notice dropped at a full queue (R200). -/
def State.dropNotice (s : State) : State :=
  (s.setNotices { s.notices with dropped := satInc 255 s.notices.dropped }).count
    fun c => { c with noticesDropped := tally c.noticesDropped }

/-- A notice stored at the end of the queue with the next seq; into an empty queue it asserts ATTN and starts a PRESET age timer (R195, R200). -/
def State.storeNotice (s : State) (d : NoticeData) : State :=
  let n : Notice := { seq := s.notices.nextSeq, stamp := s.stamp, data := d }
  let timer := if s.notices.stored.isEmpty ∧ s.link.ageTimer = .preset then .running (s.params.link.ageLimit * 1000) else s.link.ageTimer
  (s.setNotices { s.notices with stored := s.notices.stored ++ [n], nextSeq := s.notices.nextSeq + 1, attn := true }).setLink
    { s.link with ageTimer := timer }

/-- A notice reaches the queue in the posting act (R200). -/
def State.post (s : State) (d : NoticeData) : State :=
  if !s.kindEnabled d.kind then s
  else if Config.noticeCapacity ≤ s.notices.stored.length then s.dropNotice
  else s.storeNotice d

/-- A notice that names a unit and its node. -/
def State.postUnit (s : State) (kind : NoticeKind) (u : Nat) (band : Option BandId) (code : NoticeCode) (value : Option Nat) : State :=
  s.post { kind := kind, unit := some u, band := band, string := (s.unitNode u).map (·.1), node := (s.unitNode u).map (·.2),
           code := code, value := value }

/-! ## Grant passes -/

/-- Starts a grant pass (R99). -/
def State.startPass (s : State) : State := s.setArb { s.arb with grantPass := true }

/-! ## Sets of unit numbers -/

/-- Adds a unit number to an ascending list without duplicates. -/
def insertUnit (u : Nat) : List Nat → List Nat
  | [] => [u]
  | x :: rest => if u < x then u :: x :: rest else if u = x then x :: rest else x :: insertUnit u rest

/-! ## Waiting while the part is stopped -/

/-- An event or a request is taken only while main power is up; a part without power has stopped (R28). -/
def State.whenOn (s : State) (act : State → State) : State := if s.power.on then act s else s

end Sys2Proof.Machine
end

