-- ==== Sys2Proof/Machine/Flags.lean ====
section
/-! DEFINITION. The flags and states that the K240 computes from other state: THROTTLED (R115), the string state (R137), guest suspension
(R61), the conditions of eligibility (R97), and the link flags of a reply (R187). -/

namespace Sys2Proof.Machine

/-- THROTTLED after a charge has left the account at this value (R112, R115). -/
def throttledAfterGrant (p : SupplyParams) (account : Nat) (was : Bool) : Bool := was || p.hw ≤ account

/-- THROTTLED after a drain has left the account at this value (R114, R115). -/
def throttledAfterDrain (p : SupplyParams) (account : Nat) (was : Bool) : Bool := was && !decide (account ≤ p.lw)

/-- THROTTLED after new figures have been accepted (R117). -/
def throttledAfterSet (p : SupplyParams) (account : Nat) (was : Bool) : Bool :=
  if p.hw ≤ account then true else if account ≤ p.lw then false else was

/-- The state of a string with a nonempty roster (R137). -/
def stateOfScore (score : Nat) : StringState :=
  if score ≤ 95 then .active else if score ≤ 127 then .warned else if score ≤ 255 then .degraded else .off

/-- The cost of an actuation of a unit of this kind (R110). -/
def costOf (p : SupplyParams) : UnitKind → Nat | .locker => p.kL | .cabin => p.kC

/-- Whether a cost fits under the ceiling, and for every origin but EVACUATION whether THROTTLED is clear (R111). -/
def State.fits (s : State) (origin : Origin) (cost : Nat) : Bool :=
  s.supply.account + cost ≤ s.params.supply.c && (origin == .evacuation || !s.supply.throttled)

/-- The alarm holds guest work back: the ALARM line is asserted or an EVACUATION sweep is active (R97, R167). -/
def State.alarmHolds (s : State) : Bool := s.sweeps.alarm || s.sweepActive .evacuation

/-- The conditions 2, 3 and 7 of R97 on the candidate's string and node. -/
def State.stringAllows (s : State) (i : StringId) (addr : Nat) (origin : Origin) : Bool :=
  let c := s.str i
  c.state != .off && c.inFlight.isNone && c.gapTimer.isNone
    && (match s.node? i addr with | some n => n.presence != .absent && !n.actuatorMark | none => false)
    && (c.state != .degraded || origin == .evacuation || origin == .staff)

/-- The seven conditions of R97 for a candidate of this origin. A unit without a node is never eligible. -/
def State.eligible (s : State) (u : Nat) (origin : Origin) : Bool :=
  match (s.unit u).config with
  | none => false
  | some c =>
    !s.supply.lowLevel
      && s.stringAllows c.string c.node origin
      && s.fits origin (costOf s.params.supply c.kind)
      && (s.arb.service == .running || origin == .evacuation)
      && (!s.alarmHolds || origin == .evacuation || origin == .staff)

/-- Guest service is suspended at a node (R61), the exception for cleaning staff apart. -/
def State.suspended (s : State) (i : StringId) (addr : Nat) : Bool :=
  s.alarmHolds || s.arb.service != .running || (s.str i).state == .degraded || s.presence i addr == .absent

/-- Whether a queued record exists for a unit. -/
def State.queued (s : State) (u : Nat) : Bool := s.arb.queue.any (·.unit == u)

/-- Whether a queued GUEST_LOCK or GUEST_UNLOCK record exists for a unit. -/
def State.guestQueued (s : State) (u : Nat) : Bool := s.arb.queue.any fun r => r.unit == u && r.origin != .staff

/-- Whether an actuation is in flight for a unit. -/
def State.unitInFlight (s : State) (u : Nat) : Bool :=
  s.strings.toList.any fun c => c.inFlight.elim false (·.unit == u)

/-- The number of actuations in flight over the four strings. -/
def State.inFlightCount (s : State) : Nat := s.strings.toList.countP (·.inFlight.isSome)

/-- The number of ticks that a drain of `d` needs to take away `n` charge units, rounded up (Reading the Drain in Advance). -/
def ticksFor (d n : Nat) : Nat := (n + d - 1) / d

/-- The link flags: OVERRUN in bit 0, NOTICES_WAITING in bit 1, RELINKED in bit 2 (R187, R208). -/
def State.linkFlags (s : State) (relinked : Bool) : Nat := bits [s.link.overrun, !s.notices.stored.isEmpty, relinked]

end Sys2Proof.Machine
end

