-- ==== Sys2Proof/Machine/Holdings.lean ====
section
/-! DEFINITION. Shared operations of the Tenancy Table and the Band Directory: binding and removing a holder (R4, R40, R41), taking and
withdrawing an intent (R5, R7), entering a state (R8), completions (R9 to R13), and node reports (R14 to R20). -/

namespace Sys2Proof.Machine

/-! ## Holder and holdings -/

/-- The refusals of an append (R40). -/
inductive AppendRefusal where
  | noSuchBand | bandLost | bandExpired | allowanceUsed
deriving DecidableEq, Repr

/-- The Directory's check of an append, in the order of R40. -/
def State.appendRefusal (s : State) (b : BandId) (k : UnitKind) : Option AppendRefusal :=
  match s.band? b with
  | none => some .noSuchBand
  | some e =>
    if e.lost then some .bandLost
    else if e.expired then some .bandExpired
    else if e.allowance k ≤ s.kindCount k e.holdings then some .allowanceUsed
    else none

/-- Binds a unit without a holder to a band: both sides, and dwell minutes 0 (R4, R6). -/
def State.bind (s : State) (u : Nat) (b : BandId) : State :=
  (s.modBand b fun e => { e with holdings := e.holdings ++ [u] }).modUnit u
    fun r => { r with holder := some b, dwell := 0 }

/-- Removes a unit's holder from both sides and clears overstay reported (R4, R41). -/
def State.removeHolder (s : State) (u : Nat) : State :=
  match (s.unit u).holder with
  | none => s
  | some b =>
    (s.modBand b fun e => { e with holdings := e.holdings.filter (· != u) }).modUnit u
      fun r => { r with holder := none, overstayReported := false }

/-! ## Entering a state -/

/-- The state a unit enters for a target (R8): first the holder, then the inside bolt. -/
def adjust (r : UnitRecord) (target : UnitState) : UnitState :=
  let t := if target = .held ∧ r.holder = none then .forfeited
    else if target = .openHeld ∧ r.holder = none then .vacant else target
  if t = .vacant ∧ r.freeUse = true ∧ r.occupied = true then .occupied else t

/-- Sends a unit to a target as adjusted by R8; every entry to CLEANING posts CLEANING_DUE (R20). -/
def State.enter (s : State) (u : Nat) (target : UnitState) : State :=
  let t := adjust (s.unit u) target
  let s := s.modUnit u fun r => { r with state := t }
  if t = .cleaning then s.post { kind := .cleaningDue, unit := some u, value := some (s.unit u).uses } else s

/-! ## Intents -/

/-- LOCK for GUEST_LOCK and STAFF_LOCK, UNLOCK for the other five causes (R2). -/
def Cause.direction : Cause → Direction
  | .guestLock => .lock | .staffLock => .lock
  | .guestUnlock => .unlock | .staffOpen => .unlock | .staffFree => .unlock | .evacuation => .unlock | .closing => .unlock

/-- The underlying intent that a new intent takes over in JAMMED or VERIFY: the carried intent, or its own underlying one (R5). -/
def Intent.base (i : Intent) : BaseIntent := i.under.getD ⟨i.cause, i.ret⟩

/-- Accepts an intent of a cause (R5). -/
def State.takeIntent (s : State) (u : Nat) (cause : Cause) : State :=
  s.modUnit u fun r =>
    { r with
      intent := some
        { cause := cause, ret := r.state
          under := if r.state = .jammed ∨ r.state = .verify then r.intent.map Intent.base else none }
      state := match cause.direction with | .lock => .locking | .unlock => .unlocking }

/-- The return state tested where an underlying intent may stand behind JAMMED or VERIFY (R11, R20). -/
def Intent.origin (i : Intent) : UnitState :=
  if i.ret = .jammed ∨ i.ret = .verify then i.under.elim i.ret (·.ret) else i.ret

/-- Withdraws a unit's intent (R7). -/
def State.withdrawIntent (s : State) (u : Nat) : State :=
  match (s.unit u).intent with
  | none => s
  | some i =>
    if i.cause = .guestLock ∧ i.ret = .vacant then
      ((s.removeHolder u).modUnit u fun r => { r with intent := none }).enter u .vacant
    else if i.ret = .jammed ∨ i.ret = .verify then
      (s.modUnit u fun r => { r with intent := i.under.map fun b => ⟨b.cause, b.ret, none⟩ }).enter u i.ret
    else (s.modUnit u fun r => { r with intent := none }).enter u i.ret

/-- Releases a unit that a closing intent or a closing visit frees: UNIT_RELEASED where a holder is removed (R163), then the removal. -/
def State.releaseByClosing (s : State) (u : Nat) (wasOpen : Bool) : State :=
  match (s.unit u).holder with
  | none => s
  | some b => (s.postUnit .unitReleased u (some b) (.released wasOpen) (some (s.unit u).dwell)).removeHolder u

/-- The target of an opening that keeps the holder (STAFF_OPEN and EVACUATION in R11). -/
def openTarget (r : UnitRecord) (i : Intent) : UnitState :=
  if r.holder.isSome then .openHeld
  else match i.origin with
    | .withdrawn => .withdrawn
    | .cleaning => .cleaning
    | _ => .vacant

/-- The effect of DONE on a unit's intent (R10, R11). -/
def State.applyDone (s : State) (u : Nat) : State :=
  match (s.unit u).intent with
  | none => s
  | some i =>
    let s := s.modUnit u fun r => { r with intent := none }
    match i.cause with
    | .guestLock =>
      let s := s.enter u .held
      if i.ret = .vacant ∧ (s.unit u).state = .held then s.modUnit u fun r => { r with dwell := 0 } else s
    | .staffLock => s.enter u .held
    | .guestUnlock =>
      if (s.unit u).config.elim false (·.mode == .day) then s.enter u .openHeld else (s.removeHolder u).enter u .vacant
    | .staffOpen => s.enter u (openTarget (s.unit u) i)
    | .evacuation => s.enter u (openTarget (s.unit u) i)
    | .staffFree => (s.removeHolder u).enter u .vacant
    | .closing => (s.releaseByClosing u false).enter u .vacant

/-- The effect of an outcome on a unit (R10 to R13). DONE_LATE is no outcome of an actuation; it has the effect of DONE (R15). -/
def State.applyOutcome (s : State) (u : Nat) (o : Completion) : State :=
  match o with
  | .done => s.applyDone u
  | .doneLate => s.applyDone u
  | .refusedByNode => s.withdrawIntent u
  | .jammed => s.modUnit u fun r => { r with state := .jammed }
  | .uncertain => s.modUnit u fun r => { r with state := .verify }

/-- The value of an ACTUATION_DONE notice: the cause, and the LIMITED mark in bit 8 (R209). -/
def actuationValue (r : UnitRecord) (limited : Bool) : Option Nat := r.intent.map fun i => causeCode i.cause + 256 * limited.toNat

/-- The Tenancy Table takes an outcome: last completion, ACTUATION_DONE with the holder as it stood, then the effect (R9, R15). -/
def State.takeOutcome (s : State) (u : Nat) (o : Completion) (limited : Bool) : State :=
  let r := s.unit u
  ((s.modUnit u fun r => { r with last := some o }).postUnit .actuationDone u r.holder (.completion o)
    (actuationValue r limited)).applyOutcome u o

/-! ## Node reports -/

/-- Tamper (R18). -/
def State.reportTamper (s : State) (u : Nat) (door : Door) (bolt : Bolt) : State :=
  let r := s.unit u
  if door = .closed then s.modUnit u fun r => { r with tamper := false }
  else if (r.state = .held ∨ r.state = .forfeited) ∧ bolt = .locked ∧ r.tamper = false then
    (s.modUnit u fun r => { r with tamper := true }).postUnit .tamper u r.holder (.tampered (r.state == .forfeited)) none
  else s

/-- A FREE_USE cabin that stands in OCCUPIED, or is owed an opening that it took there (R19). With the occupied flag clear, it stood in OCCUPIED at
the last start and has sent no report since (DEDUCED, log entry 23). -/
def UnitRecord.keepsCount (r : UnitRecord) : Bool :=
  r.freeUse && (r.state == .occupied || (r.state == .unlocking && r.intent.elim false (·.ret == .occupied)))

/-- The occupied flag of a cabin (R19). -/
def reportInside (r : UnitRecord) (inside : InsideBolt) : UnitRecord :=
  if r.isCabin = true then
    match inside with
    | .engaged =>
      if r.occupied = true then r
      else if r.keepsCount = true then { r with occupied := true }
      else { r with occupied := true, occupancy := 0, occupancyReported := false }
    | .free => if r.occupied = true then { r with occupied := false, occupancyReported := false } else r
  else r

/-- Where a use ends: CLEANING when the cleaning interval is nonzero and reached, otherwise VACANT (R20). -/
def afterUse (r : UnitRecord) : UnitState :=
  match r.config with
  | some c => if c.interval ≠ 0 ∧ c.interval ≤ r.uses then .cleaning else .vacant
  | none => .vacant

/-- An intent whose OCCUPIED return state is rewritten (R20). -/
def Intent.rewriteOccupied (i : Intent) (t : UnitState) : Intent :=
  if i.ret = .occupied then { i with ret := t }
  else { i with under := i.under.map fun b => if b.ret = .occupied then { b with ret := t } else b }

/-- A FREE_USE cabin follows its inside bolt (R20), after the flag update of R19. -/
def State.followInside (s : State) (u : Nat) (inside : InsideBolt) : State :=
  let r := s.unit u
  if r.freeUse = true then
    match r.state, inside with
    | .vacant, .engaged => s.enter u .occupied
    | .occupied, .free =>
      let s := s.modUnit u fun r => { r with uses := satInc 255 r.uses }
      s.enter u (afterUse (s.unit u))
    | .unlocking, .free | .jammed, .free | .verify, .free =>
      match r.intent with
      | some i =>
        if i.origin = .occupied then
          let s := s.modUnit u fun r => { r with uses := satInc 255 r.uses }
          s.modUnit u fun r => { r with intent := some (i.rewriteOccupied (afterUse r)) }
        else s
      | none => s
    | _, _ => s
  else s

/-- The settled position that a direction calls for. -/
def Direction.bolt : Direction → Bolt | .lock => .locked | .unlock => .unlocked

/-- A VERIFY unit is resolved (R14), a JAMMED one completed late (R15), from the reported bolt. UNIT_VERIFIED and ACTUATION_DONE are stored ahead of a
CLEANING_DUE that the effect posts (DESIGN CHOICE, log entry 17), and a report that has brought a verdict is not examined again where the verdict withdraws
the unit to JAMMED or VERIFY: the restored intent waits for the next report (DESIGN CHOICE, log entry 29). -/
def State.resolveBolt (s : State) (u : Nat) (bolt : Bolt) : State :=
  let r := s.unit u
  match r.intent with
  | none => s
  | some i =>
    if r.state = .verify ∧ bolt ≠ .moving then
      let refused := bolt != i.cause.direction.bolt
      let o := if refused then Completion.refusedByNode else .done
      ((s.modUnit u fun r => { r with last := some o }).postUnit .unitVerified u r.holder (.verdict refused)
        (some (causeCode i.cause))).applyOutcome u o
    else if r.state = .jammed ∧ bolt = i.cause.direction.bolt then
      (s.count fun c => { c with doneLate := tally c.doneLate }).takeOutcome u .doneLate false
    else s

/-- A node report of a configured unit (R17). -/
def State.nodeReport (s : State) (u : Nat) (door : Door) (bolt : Bolt) (inside : InsideBolt) : State :=
  let s := s.modUnit u fun r => { r with door := some door }
  let s := s.reportTamper u door bolt
  let s := s.modUnit u fun r => reportInside r inside
  (s.followInside u inside).resolveBolt u bolt

end Sys2Proof.Machine
end

