-- ==== Sys2Proof/Machine/Queue.lean ====
section
/-! DEFINITION. Shared operations of the Dispatch Arbiter: the Actuation Queue and its removals (R81, R90 to R93), demands (R83, R88), closing
urgency (R96), and the test for QUIESCED (R104). -/

namespace Sys2Proof.Machine

/-- The intent cause that a record's origin and semantics correspond to (R80). -/
def recordCause : Origin → Option StaffAction → Cause
  | .guestLock, _ => .guestLock
  | .guestUnlock, _ => .guestUnlock
  | .evacuation, _ => .evacuation
  | .closing, _ => .closing
  | .staff, some .openUnit => .staffOpen
  | .staff, some .lockUnit => .staffLock
  | .staff, some .freeUnit => .staffFree
  | .staff, none => .staffFree

/-- Whether the queue holds 32 records (R82). -/
def State.queueFull (s : State) : Bool := Config.queueCapacity ≤ s.arb.queue.length

/-- Admits a record in the act that takes the unit's intent (R5, R82), and starts a grant pass (R99). -/
def State.admitRecord (s : State) (u : Nat) (origin : Origin) (semantics : Option StaffAction) (band : Option BandId)
    (tag : Option Nat) : State :=
  let cause := recordCause origin semantics
  let r : ActRecord := { unit := u, direction := cause.direction, origin := origin, semantics := semantics, band := band, tag := tag,
                         enqueuedAt := s.time.timebase }
  let s := s.takeIntent u cause
  (s.setArb { s.arb with queue := s.arb.queue ++ [r] }).startPass

/-- Takes a unit's record out of the queue; there is at most one (R81). -/
def State.removeRecord (s : State) (u : Nat) : State :=
  s.setArb { s.arb with queue := s.arb.queue.filter (·.unit != u) }

/-- Removes and withdraws a unit's queued guest record, and posts GUEST_WITHDRAWN (R90). -/
def State.withdrawGuest (s : State) (u : Nat) (reason : WithdrawReason) : State :=
  match s.arb.queue.find? fun r => r.unit == u && r.origin != .staff with
  | none => s
  | some r =>
    ((s.removeRecord u).withdrawIntent u).postUnit .guestWithdrawn u r.band (.withdrawn reason) (some (originCode r.origin))

/-- The next tag: advanced by 1, from 255 to 1, and past every value that an outstanding demand holds (R83). -/
def advanceTag (tag : Nat) (demands : List Demand) : Nat :=
  (((List.range 255).map fun k => (tag + k) % 255 + 1).find? fun t => !demands.any (·.tag == t)).getD 1

/-- Takes a demand off the outstanding list (R83). -/
def State.dropDemand (s : State) (tag : Nat) : State :=
  s.setArb { s.arb with demands := s.arb.demands.filter (·.tag != tag) }

/-- Posts DEMAND_DONE (R88); `holder` is the holder before the effect. -/
def State.postDemandDone (s : State) (u tag : Nat) (holder : Option BandId) (e : DemandEnd) : State :=
  s.postUnit .demandDone u holder (.demand e) (some tag)

/-- Closes the demand that a completed actuation served, if it is outstanding (R88). -/
def State.closeDemand (s : State) (tag : Option Nat) (holder : Option BandId) (e : DemandEnd) : State :=
  match tag with
  | none => s
  | some t =>
    match s.arb.demands.find? (·.tag == t) with
    | none => s
    | some d => (s.dropDemand t).postDemandDone d.unit t holder e

/-- The code with which a demand closes at an outcome (R88). -/
def demandEnd : Completion → DemandEnd
  | .done => .done | .doneLate => .done | .refusedByNode => .refusedByNode | .jammed => .jammed | .uncertain => .uncertain

/-- One record removed by a string reset (R92). A CLEANING_DUE of the withdrawal is stored ahead of DEMAND_DONE (DESIGN CHOICE, log entry 17). -/
def State.resetRecord (s : State) (r : ActRecord) : State :=
  match r.origin, r.tag with
  | .staff, some t =>
    let holder := (s.unit r.unit).holder
    (((s.removeRecord r.unit).withdrawIntent r.unit).dropDemand t).postDemandDone r.unit t holder .cancelled
  | .staff, none => (s.removeRecord r.unit).withdrawIntent r.unit
  | _, _ => s.withdrawGuest r.unit .stringReset

/-- The queued records of a string's units, oldest first. -/
def State.recordsOf (s : State) (i : StringId) : List ActRecord :=
  s.arb.queue.filter fun r => (s.unitNode r.unit).elim false (·.1 == i)

/-- Removes every queued record of a string's units (R92), in queue order. -/
def State.resetRecords (s : State) (i : StringId) : State := (s.recordsOf i).foldl State.resetRecord s

/-! ## Closing urgency (R96) -/

/-- Whether a CLOSING candidate is on offer. -/
def State.closingOffered (s : State) : Bool := s.sweeps.closing.offers.toList.any (·.isSome)

/-- The flag and the timer just before a CLOSING candidate is offered. -/
def State.urgencyAtOffer (s : State) : State :=
  if s.closingOffered = false ∧ s.arb.urgent = false then
    s.setArb { s.arb with urgencyTimer := some s.params.time.urgency }
  else s

/-- The flag and the timer after a CLOSING candidate has been granted and has left the slot. -/
def State.urgencyAtGrant (s : State) : State :=
  s.setArb { s.arb with urgent := false, urgencyTimer := if s.closingOffered then some s.params.time.urgency else none }

/-- The flag cleared and the timer stopped. -/
def State.urgencyStop (s : State) : State := s.setArb { s.arb with urgent := false, urgencyTimer := none }

/-- The flag and the timer after a CLOSING candidate has been dropped or handed back. -/
def State.urgencyAtDrop (s : State) : State := if s.closingOffered then s else s.urgencyStop

/-! ## QUIESCED -/

/-- Enters QUIESCED and posts the notice with the number of records queued (R104). -/
def State.enterQuiesced (s : State) : State :=
  let s := s.setArb { s.arb with service := .quiesced }
  s.post { kind := .quiesced, value := some s.arb.queue.length }

/-- The test at each completion (R104). -/
def State.testQuiesced (s : State) : State :=
  if s.arb.service = .quiescing ∧ s.inFlightCount = 0 then s.enterQuiesced else s

end Sys2Proof.Machine
end

