-- ==== Sys2Proof/Machine/Walks.lean ====
section
/-! DEFINITION. Shared operations of the Sweep Generator: judging a unit (R158, R159), walking a string (R157), offers and drops (R160, R162),
counting completions (R163), and the end of a pass and of a sweep (R164, R165). -/

namespace Sys2Proof.Machine

/-- The four results of a judgement (R157). -/
inductive SweepJudgement where
  | passBy | releaseAtOnce | markForRepeat | offer
deriving DecidableEq, Repr

/-- The origin of a slot's candidates (R94). -/
def slotOrigin : SlotId → Origin | .evacuation => .evacuation | .closing => .closing

/-- The cause of the intent that a slot's candidate takes at its grant (R101). -/
def slotCause : SlotId → Cause | .evacuation => .evacuation | .closing => .closing

/-- A unit's bolt can be commanded: its node is PRESENT or SILENT without an actuator fault, and its string is not OFF (R158, R159). -/
def State.reachable (s : State) (u : Nat) : Bool :=
  match s.unitNode u with
  | none => false
  | some (i, addr) =>
    (s.str i).state != .off
      && (match s.node? i addr with | some n => n.presence != .absent && !n.actuatorMark | none => false)

/-- Offer a unit whose bolt can be commanded, and mark any other for repeat. -/
def State.offerOrRepeat (s : State) (u : Nat) : SweepJudgement := if s.reachable u then .offer else .markForRepeat

/-- The tables of R158 and R159, for a unit whose guest record an evacuation has already superseded. -/
def State.judge (s : State) (k : SlotId) (u : Nat) : SweepJudgement :=
  let r := s.unit u
  match k, r.state with
  | _, .held | _, .forfeited => s.offerOrRepeat u
  | _, .locking | _, .unlocking | _, .jammed | _, .verify => .markForRepeat
  | .closing, .openHeld => .releaseAtOnce
  | .closing, .vacant | .closing, .occupied | .closing, .cleaning => .passBy
  | .evacuation, .occupied => s.offerOrRepeat u
  | .evacuation, .vacant | .evacuation, .openHeld =>
    if r.isCabin = true ∧ r.occupied = true then s.offerOrRepeat u else .passBy
  | .evacuation, .cleaning => .passBy
  | _, .unconfigured | _, .withdrawn => .passBy

/-- Whether a slot visits a unit (R157). -/
def State.visits (s : State) (k : SlotId) (u : Nat) : Bool :=
  let x := s.slot k
  match (s.unit u).config with
  | none => false
  | some c =>
    (s.unit u).state != .withdrawn && (x.zone == 0 || c.zone == x.zone) && x.filter.passes c.kind
      && (x.pass ≤ 1 || x.visit.contains u)

/-- The supersede that an evacuation makes before it judges (R93, R159). -/
def State.supersede (s : State) (k : SlotId) (u : Nat) : State :=
  match k with
  | .evacuation => s.withdrawGuest u .superseded
  | .closing => s

/-- Marks a unit for repeat. -/
def State.markRepeat (s : State) (k : SlotId) (u : Nat) : State :=
  s.setSlot k { s.slot k with marks := insertUnit u (s.slot k).marks }

/-- A release made without actuation, counted done (R157, R163). -/
def State.releaseAtOnce (s : State) (k : SlotId) (u : Nat) : State :=
  let s := (s.releaseByClosing u true).enter u .vacant
  s.setSlot k { s.slot k with done := (s.slot k).done + 1 }

/-- Puts a unit on offer for a string (R160): closing urgency, the offer, and a grant pass. -/
def State.putOffer (s : State) (k : SlotId) (i : StringId) (u : Nat) : State :=
  let s := match k with | .closing => s.urgencyAtOffer | .evacuation => s
  let o : Offer := { unit := u, offeredAt := s.time.timebase }
  (s.setSlot k { s.slot k with offers := (s.slot k).offers.set i (some o) }).startPass

def State.setCursor (s : State) (k : SlotId) (i : StringId) (c : Option Nat) : State :=
  s.setSlot k { s.slot k with cursors := (s.slot k).cursors.set i c }

/-- A walk over the roster addresses that remain, ascending (R157). -/
def walkOver (k : SlotId) (i : StringId) : List Nat → State → State
  | [], s => s.setCursor k i none
  | addr :: rest, s =>
    match s.unitAt i addr with
    | none => walkOver k i rest s
    | some u =>
      if s.visits k u then
        let s := s.supersede k u
        match s.judge k u with
        | .passBy => walkOver k i rest s
        | .releaseAtOnce => walkOver k i rest (s.releaseAtOnce k u)
        | .markForRepeat => walkOver k i rest (s.markRepeat k u)
        | .offer => (s.putOffer k i u).setCursor k i rest.head?
      else walkOver k i rest s

/-- The roster addresses of a string at or above an address. -/
def State.rosterFrom (s : State) (i : StringId) (c : Nat) : List Nat := ((s.str i).nodes.map (·.addr)).filter (c ≤ ·)

/-! ## The end of a sweep and of a pass -/

/-- The pass limit of a slot (R164). -/
def passLimit : SlotId → Nat | .closing => 3 | .evacuation => 8

/-- Ends a sweep (R165). -/
def State.endSweep (s : State) (k : SlotId) (e : Ending) : State :=
  let x := s.slot k
  let s := s.setSlot k { x with
    state := .inactive, cursors := ⟨none, none, none, none⟩, offers := ⟨none, none, none, none⟩, visit := [], marks := [],
    inFlight := 0, pause := none, result := some ⟨e, x.issued, x.done, x.missed⟩ }
  let s := s.post { kind := .sweepDone, code := .ending e, value := some x.missed }
  match k with
  | .closing => s.urgencyStop
  | .evacuation => s.startPass

/-- The pass has ended: every cursor at END, nothing on offer, nothing in flight (R164). -/
def SweepSlot.passDone (x : SweepSlot) : Bool :=
  x.state == .walking && x.cursors.toList.all (·.isNone) && x.offers.toList.all (·.isNone) && x.inFlight == 0

/-- The test of R164, and what follows where it holds. -/
def State.testPass (s : State) (k : SlotId) : State :=
  let x := s.slot k
  if x.passDone then
    if x.marks.isEmpty then s.endSweep k (match k with | .evacuation => .evacuationComplete | .closing => .closingComplete)
    else if passLimit k ≤ x.pass then
      (s.setSlot k { x with missed := x.missed + x.marks.length }).endSweep k
        (match k with | .evacuation => .evacuationPassLimit | .closing => .closingPassLimit)
    else s.setSlot k { x with state := .paused, pause := some 2000 }
  else s

/-- One walk of a string for a slot (R157): nothing is visited while the string has a candidate on offer or its cursor is at END. -/
def State.walk (s : State) (k : SlotId) (i : StringId) : State :=
  let x := s.slot k
  match x.state, x.offers.get i, x.cursors.get i with
  | .walking, none, some c => (walkOver k i (s.rosterFrom i c) s).testPass k
  | _, _, _ => s.testPass k

/-- A walk of each string in turn (R154, R164). -/
def State.walkAll (s : State) (k : SlotId) : State := allStrings.foldl (fun s i => s.walk k i) s

/-! ## Drops -/

/-- Takes a slot's candidate for a string off offer, with or without a repeat mark, and adjusts closing urgency (R96, R162). -/
def State.withdrawOffer (s : State) (k : SlotId) (i : StringId) (mark : Bool) : State :=
  match (s.slot k).offers.get i with
  | none => s
  | some o =>
    let s := s.setSlot k { s.slot k with offers := (s.slot k).offers.set i none }
    let s := if mark then s.markRepeat k o.unit else s
    match k with
    | .closing => s.urgencyAtDrop
    | .evacuation => s

/-- Drops a slot's candidate for a string where it is this unit, marks it, and resumes the walk (R162). -/
def State.dropOffer (s : State) (k : SlotId) (i : StringId) (u : Nat) : State :=
  if ((s.slot k).offers.get i).elim false (·.unit == u) then (s.withdrawOffer k i true).walk k i else s

/-- Drops the candidates of both slots for a unit of a string (R162), EVACUATION before CLOSING (DESIGN CHOICE, log entry 16). -/
def State.dropOffers (s : State) (i : StringId) (u : Nat) : State := (s.dropOffer .evacuation i u).dropOffer .closing i u

/-- Whether a slot has a candidate on offer for a string. -/
def State.offered (s : State) (k : SlotId) (i : StringId) : Bool := ((s.slot k).offers.get i).isSome

/-- Drops both slots' candidates for a string, marked for repeat (R162), does what the act does to the string, and then resumes the walks, EVACUATION
before CLOSING (DESIGN CHOICE, log entry 16). -/
def State.dropString (s : State) (i : StringId) (act : State → State) : State :=
  let evac := s.offered .evacuation i
  let closing := s.offered .closing i
  let s := act ((s.withdrawOffer .evacuation i true).withdrawOffer .closing i true)
  let s := if evac then s.walk .evacuation i else s
  if closing then s.walk .closing i else s

/-! ## Completions of a sweep's actuations -/

/-- Counts a completion that is still attached to its slot (R163), and tests for the end of the pass (R164). -/
def State.countSweep (s : State) (slot : Option SlotId) (o : Completion) : State :=
  match slot with
  | none => s
  | some k =>
    let x := s.slot k
    let x := { x with inFlight := x.inFlight - 1 }
    (s.setSlot k (if o = .done then { x with done := x.done + 1 } else { x with missed := x.missed + 1 })).testPass k

/-! ## Starting -/

/-- The lowest roster address of a string, or END for an empty roster. -/
def State.lowest (s : State) (i : StringId) : Option Nat := ((s.str i).nodes.map (·.addr)).head?

/-- Steps 2 and 3 of R154, with the zone and filter of the start. -/
def State.initSweep (s : State) (k : SlotId) (zone : Nat) (filter : KindFilter) : State :=
  s.setSlot k
    { state := .walking, zone := zone, filter := filter, pass := 1
      cursors := ⟨s.lowest .a, s.lowest .b, s.lowest .c, s.lowest .d⟩
      offers := ⟨none, none, none, none⟩, visit := [], marks := [], inFlight := 0, pause := none
      issued := 0, done := 0, missed := 0, result := none }

/-- Starts an evacuation (R154). -/
def State.startEvacuation (s : State) : State :=
  (s.initSweep .evacuation 0 (if s.params.time.evacLockers then .both else .cabins)).walkAll .evacuation

/-- Starts a closing sweep, by request or by the clock (R155, R156). CLOSING_STARTED is stored ahead of the notices of the walks that the start begins
(DESIGN CHOICE, log entry 17). -/
def State.startClosing (s : State) (zone : Nat) (filter : KindFilter) (byClock : Bool) : State :=
  ((s.initSweep .closing zone filter).post
    { kind := .closingStarted, code := .closingBy byClock, value := some zone }).walkAll .closing

/-- The next pass (R164): the marks become the visit set, and each string with a unit in it is walked from its lowest address. -/
def State.nextPass (s : State) (k : SlotId) : State :=
  let x := s.slot k
  let cursor := fun i => if x.marks.any fun u => (s.unitNode u).elim false (·.1 == i) then s.lowest i else none
  (s.setSlot k { x with
    state := .walking, pass := x.pass + 1, visit := x.marks, marks := [], pause := none
    cursors := ⟨cursor .a, cursor .b, cursor .c, cursor .d⟩ }).walkAll k

end Sys2Proof.Machine
end

