-- ==== Sys2Proof/Machine/Exchanges.lean ====
section
/-! DEFINITION. Shared operations of the String Controllers: rounds and the choice of the next exchange (R128 to R131), completions (R146), the
score and the string state (R137), lost nodes and strings that go OFF (R136, R138), restarts (R139), and what a good reply and a miss do
(R133, R134). -/

namespace Sys2Proof.Machine

/-! ## Rounds -/

/-- The round period in ms (R128). -/
def StringParams.period (p : StringParams) : Nat :=
  match p.base with
  | 0 => max 8 p.mult * 2
  | 1 => 128 + p.mult * 8
  | _ => 640 + p.mult * 32

/-- The next roster address above the cursor that the round visits (R129): of a PRESENT or SILENT node, or in a probe round of any node. An address that
joins the roster above the cursor while a probe round is in progress is among them (DESIGN CHOICE, log entry 31). -/
def StringCtl.nextVisit (c : StringCtl) : Option Nat :=
  (c.nodes.find? fun n => c.cursor.elim true (· < n.addr) && (c.roundCount == 0 || n.presence != .absent)).map (·.addr)

/-- Ends the round in progress: the round count advances, from 3 to 0 (R129). -/
def StringCtl.closeRound (c : StringCtl) : StringCtl := { c with inRound := false, roundCount := (c.roundCount + 1) % 4 }

/-- Starts a round (R129); one with no node to visit ends at its start. -/
def StringCtl.openRound (c : StringCtl) (period : Nat) : StringCtl :=
  let c := { c with roundTimer := some period, cursor := none, inRound := true }
  if c.nextVisit.isNone then c.closeRound else c

/-- A string that runs rounds: neither IDLE nor OFF (R129). -/
def StringCtl.running (c : StringCtl) : Bool := c.state != .idle && c.state != .off

/-- Whether the round in progress has no address left. -/
def StringCtl.roundOver (c : StringCtl) : Bool := c.inRound && c.nextVisit.isNone

/-- Ends a round that is over; one whose timer has run out counts an overrun and is followed at once by the next (R129). -/
def State.settleRound (s : State) (i : StringId) : State :=
  let c := s.str i
  if c.roundOver then
    if c.roundTimer.isNone then
      (s.setStr i (c.closeRound.openRound s.params.strings.period)).countString i fun n => { n with overruns := tally n.overruns }
    else s.setStr i c.closeRound
  else s

/-! ## The next exchange -/

/-- Sends a command frame (R131): acknowledgement and code are read from the node record now; a probe carries neither. -/
def State.send (s : State) (i : StringId) (addr : Nat) (cmd : NodeCommand) (isSettle : Bool) : State :=
  let live := s.presence i addr != .absent
  let n := (s.node? i addr).getD (NodeRecord.added addr)
  let ack := if live then n.lastSeq else none
  let code := if live then n.pending else .dark
  s.setStr i { s.str i with
    exchange := some { node := addr, command := cmd, ack := ack, code := code, stale := false, replaced := false }
    lastSettle := isSettle
    lineOut := commandFrame addr cmd ack code }

/-- The round's next POLL; the cursor moves to the address visited (R129). -/
def State.sendRoundPoll (s : State) (i : StringId) (addr : Nat) : State :=
  (s.setStr i { s.str i with cursor := some addr }).send i addr .poll false

/-- The next exchange of the round, if one is in progress with an address left. -/
def StringCtl.roundVisit (c : StringCtl) : Option Nat := if c.inRound then c.nextVisit else none

/-- Whether the next exchange may be chosen: none is under way, and no grant pass comes first (R130, R147). -/
def StringCtl.lineFree (c : StringCtl) : Bool := c.exchange.isNone && !c.held

/-- Chooses and sends the next exchange when the line is free (R130). -/
def State.chooseNext (s : State) (i : StringId) : State :=
  let c := s.str i
  if c.lineFree = false then s
  else
    match c.inFlight with
    | some f =>
      match f.phase with
      | .commanding => s.send i f.node (.actuate f.direction) false
      | .settling =>
        if c.lastSettle then
          match c.roundVisit with
          | some addr => s.sendRoundPoll i addr
          | none => s.send i f.node .poll true
        else s.send i f.node .poll true
    | none =>
      match c.roundVisit with
      | some addr => s.sendRoundPoll i addr
      | none => s

/-- What follows the end of an exchange: a round that is over ends in this act, with its overrun (R129, R203), whether or not the line is held for a
grant pass, and the next exchange is sent when the line is free. -/
def State.sendNext (s : State) (i : StringId) : State :=
  if (s.str i).exchange.isSome then s else (s.settleRound i).chooseNext i

/-- A line that waited for a grant pass waits no longer, and its next exchange is chosen (R147). -/
def State.release (s : State) (i : StringId) : State :=
  if (s.str i).held then (s.setStr i { s.str i with held := false }).sendNext i else s

/-- Starts a round and sends its first frame when the line is free (R129). -/
def State.beginRound (s : State) (i : StringId) : State :=
  (s.setStr i ((s.str i).openRound s.params.strings.period)).sendNext i

/-! ## Completions -/

/-- The ACTUATE counter of an outcome, and the limited counter (R121, R146). -/
def Counters.completed (c : Counters) (o : Completion) (limited : Bool) : Counters :=
  let c := match o with
    | .done => { c with done := tally c.done }
    | .doneLate => { c with doneLate := tally c.doneLate }
    | .refusedByNode => { c with refusedByNode := tally c.refusedByNode }
    | .jammed => { c with jammed := tally c.jammed }
    | .uncertain => { c with uncertain := tally c.uncertain }
  if limited then { c with limited := tally c.limited } else c

/-- The gap timer after a completion (R146, R147): a gap of 0 ms elapses in the act, and the line then waits for the grant pass that follows; a
completion made in the act of going OFF or of a reset leaves the gap timer clear. -/
def State.startGap (s : State) (i : StringId) (cleared : Bool) : State :=
  if cleared then s.setStr i { s.str i with gapTimer := none, held := false }
  else if s.params.strings.gap = 0 then (s.setStr i { s.str i with gapTimer := none, held := true }).startPass
  else s.setStr i { s.str i with gapTimer := some s.params.strings.gap, held := false }

/-- Completes a string's in-flight actuation (R146), with its effects at the Tenancy Table (R9), the Arbiter (R88, R102, R104) and the Sweep
Generator (R163). -/
def State.complete (s : State) (i : StringId) (o : Completion) (cleared : Bool) : State :=
  match (s.str i).inFlight with
  | none => s
  | some f =>
    let holder := (s.unit f.unit).holder
    let s := s.count fun c => c.completed o f.limited
    let s := s.setStr i { s.str i with inFlight := none, settleTimer := none }
    let s := s.startGap i cleared
    let s := s.takeOutcome f.unit o f.limited
    let s := s.closeDemand f.tag holder (demandEnd o)
    (s.countSweep f.slot o).testQuiesced

/-! ## Score and string state -/

/-- Enters a string state, posting STRING_STATE where it changes (R137); leaving DEGRADED or OFF starts a grant pass (R99). -/
def State.enterString (s : State) (i : StringId) (st : StringState) : State :=
  let old := (s.str i).state
  if old = st then s
  else
    let s := s.setStr i { s.str i with state := st }
    let s := s.post { kind := .stringState, string := some i, code := .string st, value := some (s.str i).score }
    if old = .degraded ∨ old = .off then s.startPass else s

/-- What becomes of a node record when its node becomes ABSENT (R134, R136). -/
def NodeRecord.lost (n : NodeRecord) : NodeRecord :=
  { n with presence := .absent, misses := 0, readerMark := false, actuatorMark := false, pending := .dark }

/-- The effects of a node becoming ABSENT by its third miss (R136), in the order of that rule. -/
def State.loseNode (s : State) (i : StringId) (addr : Nat) : State :=
  let s := s.modNode i addr NodeRecord.lost
  let s := if ((s.str i).inFlight).elim false (·.node == addr) then s.complete i .uncertain false else s
  match s.unitAt i addr with
  | none => s
  | some u => (s.withdrawGuest u .nodeLost).dropOffers i u

/-- The units of a string's nodes, in address order. -/
def State.unitsOf (s : State) (i : StringId) : List Nat := (s.str i).nodes.filterMap fun n => s.unitAt i n.addr

/-- Every node of a string becomes ABSENT with it (R91, R136, R138): all the nodes first, then the guest records of all its units, and the candidates
last, so that no walk that resumes meets a guest record of the string (DESIGN CHOICE, log entry 18). -/
def State.loseNodes (s : State) (i : StringId) : State :=
  let s := s.setStr i { s.str i with nodes := (s.str i).nodes.map NodeRecord.lost }
  ((s.unitsOf i).foldl (fun s u => s.withdrawGuest u .stringOff) s).dropString i id

/-- A string goes OFF (R138). The round it ends leaves the round count as it stands, and counts no overrun where its period has run out (DESIGN CHOICE, log
entry 25). -/
def State.goOff (s : State) (i : StringId) : State :=
  let s := s.setStr i { s.str i with
    score := Config.scoreTop, roundTimer := none, settleTimer := none, gapTimer := none, inRound := false, held := false }
  let s := s.enterString i .off
  let s := s.complete i .uncertain true
  let s := s.loseNodes i
  s.setStr i { s.str i with
    recoveryTimer := if s.params.strings.auto then some (s.params.strings.interval * 1000) else none }

/-- A node record at a restart or a reset of its string (R58, R126): the reported positions and the latches are kept. -/
def NodeRecord.restarted (n : NodeRecord) : NodeRecord := { n.lost with lastSeq := none }

/-- An OFF string restarts (R139). -/
def State.restart (s : State) (i : StringId) : State :=
  let c := s.str i
  let s := s.setStr i { c with
    recoveryTimer := none, score := 0, roundCount := 0, held := false, nodes := c.nodes.map NodeRecord.restarted }
  (s.enterString i .active).beginRound i

/-! ## A good reply (R133) -/

/-- Step 1: the score falls by 1, or stays at 0. -/
def State.replyScore (s : State) (i : StringId) : State :=
  let n := (s.str i).score - 1
  (s.setStr i { s.str i with score := n }).enterString i (stateOfScore n)

/-- Step 2: presence. -/
def State.replyPresence (s : State) (i : StringId) (addr : Nat) : State :=
  match s.presence i addr with
  | .present => s.modNode i addr fun n => { n with misses := 0 }
  | .silent => (s.modNode i addr fun n => { n with misses := 0, presence := .present }).startPass
  | .absent =>
    (((s.modNode i addr fun n => { n with misses := 0, presence := .present, lastSeq := none }).post
      { kind := .nodeFound, unit := s.unitAt i addr, string := some i, node := some addr })).startPass

/-- One fault mark that goes from clear to set: its latch and NODE_FAULT (R135). -/
def State.postFault (s : State) (i : StringId) (addr : Nat) (f : NodeFault) : State :=
  s.post { kind := .nodeFault, unit := s.unitAt i addr, string := some i, node := some addr, code := .fault f }

/-- Step 3: the reader fault mark. -/
def State.replyReader (s : State) (i : StringId) (addr : Nat) (fault : Bool) : State :=
  let was := (s.node? i addr).elim false (·.readerMark)
  let s := s.modNode i addr fun n => { n with readerMark := fault, readerLatch := n.readerLatch || (fault && !was) }
  if fault = true ∧ was = false then s.postFault i addr .reader else s

/-- Step 3: the actuator fault mark; set, it drops the node's candidates (R162), cleared, it starts a grant pass (R135). NODE_FAULT is stored ahead of
the notices of the walks that the drops resume (DESIGN CHOICE, log entry 17). -/
def State.replyActuator (s : State) (i : StringId) (addr : Nat) (fault : Bool) : State :=
  let was := (s.node? i addr).elim false (·.actuatorMark)
  let s := s.modNode i addr fun n => { n with actuatorMark := fault, actuatorLatch := n.actuatorLatch || (fault && !was) }
  if fault = true ∧ was = false then
    let s := s.postFault i addr .actuator
    match s.unitAt i addr with
    | none => s
    | some u => s.dropOffers i u
  else if fault = false ∧ was = true then s.startPass
  else s

/-- Step 4: a pending code that the answered frame carried returns to DARK, unless it was written anew since (R148). -/
def State.replyIndicator (s : State) (i : StringId) (addr : Nat) (x : Exchange) : State :=
  if x.replaced then s else s.modNode i addr fun n => { n with pending := .dark }

/-- Step 5: the in-flight actuation on this node is tested (R142, R143). -/
def State.replyActuation (s : State) (i : StringId) (addr : Nat) (r : NodeReply) : State :=
  match (s.str i).inFlight with
  | none => s
  | some f =>
    if f.node ≠ addr then s
    else match f.phase, r.verdict with
      | .commanding, some .refuse => s.complete i .refusedByNode false
      | .commanding, some .accept =>
        if r.bolt = f.direction.bolt then s.complete i .done false
        else s.setStr i { s.str i with
          inFlight := some { f with phase := .settling }, settleTimer := some s.params.strings.settle }
      | .commanding, none => s
      | .settling, _ => if r.bolt = f.direction.bolt then s.complete i .done false else s

/-- Step 6: the node record and the node report (R17). -/
def State.replyReport (s : State) (i : StringId) (addr : Nat) (r : NodeReply) : State :=
  let s := s.modNode i addr fun n => { n with door := some r.door, bolt := some r.bolt, inside := some r.inside }
  match s.unitAt i addr with
  | none => s
  | some u => s.nodeReport u r.door r.bolt r.inside

/-- Whether a decision is in progress at a node (R57). -/
def State.deciding (s : State) (i : StringId) (addr : Nat) : Bool := s.decisions.any fun d => d.str == i && d.node == addr

/-- Step 7: a presentation is a repeat, or new, or new while the node's previous decision has not ended (R57). The decision of a new one is about the
unit that the node serves in this act, also where the node's address passes to another unit before the unit act (DESIGN CHOICE, log entry 33). -/
def State.replyPresentation (s : State) (i : StringId) (addr : Nat) (p : Option (Nat × BandId)) : State :=
  match p, s.node? i addr, s.unitAt i addr with
  | some (seq, band), some n, some u =>
    if n.lastSeq = some seq then s.count fun c => { c with repeats := tally c.repeats }
    else if s.deciding i addr then s
    else
      let s := s.modNode i addr fun n => { n with lastSeq := some seq }
      s.setDecisions (s.decisions ++
        [{ str := i, node := addr, unit := u, band := band, seq := seq, stage := .lookup, staff := false, admitted := false }])
  | _, _, _ => s

/-- A good reply is taken (R133). Where it sets both fault marks, NODE_FAULT for READER comes first (DESIGN CHOICE, log entry 17). A unit that its
REFUSE withdraws to VERIFY is resolved by its own node report, the first that the table takes while the unit stands there (DESIGN CHOICE, log entry
26). -/
def State.goodReply (s : State) (i : StringId) (x : Exchange) (r : NodeReply) : State :=
  let s := s.countString i fun n => { n with good := tally n.good }
  let s := s.replyScore i
  let s := s.replyPresence i x.node
  let s := s.replyReader i x.node r.readerFault
  let s := s.replyActuator i x.node r.actuatorFault
  let s := s.replyIndicator i x.node x
  let s := s.replyActuation i x.node r
  let s := s.replyReport i x.node r
  s.replyPresentation i x.node r.presentation

/-! ## A miss (R134) -/

/-- Steps 1 and 2: the miss count and presence; a third miss makes the node ABSENT. -/
def State.missNode (s : State) (i : StringId) (addr : Nat) : State :=
  match s.node? i addr with
  | none => s
  | some n =>
    if n.misses + 1 < 3 then s.modNode i addr fun n => { n with misses := n.misses + 1, presence := .silent }
    else
      let s := s.modNode i addr fun n => { n with misses := 0, presence := .absent }
      let s := s.post { kind := .nodeLost, unit := s.unitAt i addr, string := some i, node := some addr }
      s.loseNode i addr

/-- Step 3: the score rises by 8, to 256 at most; at 256 the string goes OFF. -/
def State.missScore (s : State) (i : StringId) : State :=
  let n := min Config.scoreTop ((s.str i).score + 8)
  if n = Config.scoreTop then s.goOff i
  else (s.setStr i { s.str i with score := n }).enterString i (stateOfScore n)

/-- A miss is taken (R131, R134); one of an ABSENT node moves the misses counter alone, and an address clash its own counter too. -/
def State.takeMiss (s : State) (i : StringId) (x : Exchange) (clash : Bool) : State :=
  let s := s.countString i fun n =>
    { n with misses := tally n.misses, clashes := if clash then tally n.clashes else n.clashes }
  if s.presence i x.node = .absent then s else (s.missNode i x.node).missScore i

/-- Whether the end of an exchange counts: its frame is not stale (R125, R149), its string runs rounds, and its node is on the roster. -/
def State.counts (s : State) (i : StringId) (x : Exchange) : Bool :=
  !x.stale && (s.str i).running && (s.node? i x.node).isSome

/-- The exchange on the line ends (R130): its effect, where it counts, then the next exchange. -/
def State.endExchange (s : State) (i : StringId) (act : Exchange → State → State) : State :=
  match (s.str i).exchange with
  | none => s
  | some x =>
    let s := s.setStr i { s.str i with exchange := none }
    (if s.counts i x then act x s else s).sendNext i

/-- What came back within the window, judged by R131 and taken. -/
def takeReply (i : StringId) (frame : List Byte) (x : Exchange) (s : State) : State :=
  match judgeReply x.node x.command frame with
  | .good r => s.goodReply i x r
  | .clash => s.takeMiss i x true
  | .miss => s.takeMiss i x false

/-- Whether what came back in a missed exchange is a sound frame that carries another address (R131). -/
def isClash (x : Exchange) (received : List Byte) : Bool := judgeReply x.node x.command received == .clash

/-! ## The roster (R125) -/

/-- Adds a node record at its place in the roster. -/
def insertNode (n : NodeRecord) : List NodeRecord → List NodeRecord
  | [] => [n]
  | x :: rest => if n.addr < x.addr then n :: x :: rest else x :: insertNode n rest

/-- An address joins the roster; an IDLE string becomes ACTIVE and starts its first round. -/
def State.addNode (s : State) (i : StringId) (addr : Nat) : State :=
  let c := s.str i
  let s := s.setStr i { c with nodes := insertNode (NodeRecord.added addr) c.nodes }
  if c.state = .idle then
    let s := s.setStr i { s.str i with score := 0, roundCount := 0 }
    (s.enterString i .active).beginRound i
  else s

/-- An exchange to a node whose address leaves the roster is stale. -/
def Exchange.staleIf (addr : Nat) (x : Exchange) : Exchange := if x.node = addr then { x with stale := true } else x

/-- An address leaves the roster. A string whose roster is then empty becomes IDLE: its round count stands, and a round cut short counts no overrun
(DESIGN CHOICE, log entry 25). A round that the removal leaves with no address ends in the act if no exchange is under way (R129). -/
def State.removeNode (s : State) (i : StringId) (addr : Nat) : State :=
  let c := s.str i
  let c := { c with nodes := c.nodes.filter (·.addr != addr), exchange := c.exchange.map (Exchange.staleIf addr) }
  let s := s.setStr i c
  if c.nodes.isEmpty then
    let s := s.setStr i { c with score := 0, roundTimer := none, gapTimer := none, recoveryTimer := none, inRound := false, held := false }
    s.enterString i .idle
  else s.sendNext i

end Sys2Proof.Machine
end

