-- ==== Sys2Proof/Machine/Grants.lean ====
section
/-! DEFINITION. Grant passes (R94 to R101): the candidates in rank order, the look that finds the first eligible one, and the two grants. -/

namespace Sys2Proof.Machine

/-- A candidate for a grant (R94): a queued record, or a slot's offer on a string. -/
inductive Candidate where
  | record (r : ActRecord)
  | offer (k : SlotId) (i : StringId) (o : Offer)
deriving DecidableEq, Repr

def Candidate.unit : Candidate → Nat | .record r => r.unit | .offer _ _ o => o.unit

def Candidate.origin : Candidate → Origin | .record r => r.origin | .offer k _ _ => slotOrigin k

/-- The age of a timebase value, reckoned across the wrap (R170). -/
def State.ageOf (s : State) (t : Millis) : Nat := (s.time.timebase - t).toNat

/-- Puts an offer ahead of the first one that is no older (R95). -/
def insertOffer (s : State) (x : StringId × Offer) : List (StringId × Offer) → List (StringId × Offer)
  | [] => [x]
  | y :: rest => if s.ageOf y.2.offeredAt ≤ s.ageOf x.2.offeredAt then x :: y :: rest else y :: insertOffer s x rest

/-- The offers of a slot, oldest first, those of one millisecond by string (R95). -/
def State.offersOf (s : State) (k : SlotId) : List Candidate :=
  ((allStrings.filterMap fun i => ((s.slot k).offers.get i).map fun o => (i, o)).foldr (insertOffer s) []).map
    fun x => .offer k x.1 x.2

/-- The queued records of an origin, in queue order. -/
def State.queuedOf (s : State) (o : Origin) : List Candidate := (s.arb.queue.filter (·.origin == o)).map .record

/-- All candidates in rank order (R95, R96). -/
def State.candidates (s : State) : List Candidate :=
  s.offersOf .evacuation ++ s.queuedOf .staff ++ (if s.arb.urgent then s.offersOf .closing else [])
    ++ s.queuedOf .guestUnlock ++ s.queuedOf .guestLock ++ (if s.arb.urgent then [] else s.offersOf .closing)

/-- The first eligible candidate in rank order (R99). -/
def State.firstEligible (s : State) : Option Candidate := s.candidates.find? fun c => s.eligible c.unit c.origin

/-- Charges a cost and re-evaluates THROTTLED (R112). -/
def State.charge (s : State) (cost : Nat) : State :=
  let a := s.supply.account + cost
  s.setSupply { s.supply with account := a, throttled := throttledAfterGrant s.params.supply a s.supply.throttled }

/-- Steps 1, 4 and 5 of R100: the charge, the dispatched counter, and the actuation in flight on its string (R141), LIMITED where CURRENT_LIMIT
stands asserted (R120); its command is the string's next exchange (R130, R147). -/
def State.dispatch (s : State) (u : Nat) (direction : Direction) (origin : Origin) (semantics : Option StaffAction)
    (band : Option BandId) (tag : Option Nat) (slot : Option SlotId) : State :=
  match (s.unit u).config with
  | none => s
  | some c =>
    let s := s.charge (costOf s.params.supply c.kind)
    let s := s.count fun n => { n with dispatched := tally n.dispatched }
    let s := s.setStr c.string { s.str c.string with
      inFlight := some
        { unit := u, node := c.node, direction := direction, origin := origin, semantics := semantics, band := band, tag := tag
          phase := .commanding, limited := s.supply.limitLevel, slot := slot }
      held := false }
    s.sendNext c.string

/-- Marks the demand of a tag IN_FLIGHT (R83, R100). -/
def State.demandInFlight (s : State) (tag : Option Nat) : State :=
  s.setArb { s.arb with demands := s.arb.demands.map fun d => if some d.tag = tag then { d with inFlight := true } else d }

/-- The grant of a queued record (R100). -/
def State.grant (s : State) (r : ActRecord) : State :=
  ((s.removeRecord r.unit).demandInFlight r.tag).dispatch r.unit r.direction r.origin r.semantics r.band r.tag none

/-- Takes a candidate off its slot's offer. -/
def State.clearOffer (s : State) (k : SlotId) (i : StringId) : State :=
  s.setSlot k { s.slot k with offers := (s.slot k).offers.set i none }

/-- The Tenancy Table accepts a sweep's intent: the unit stands in a state for which the sweep's table gives offer, and has no queued record
and no actuation in flight (R101, R161). -/
def State.acceptsSweep (s : State) (k : SlotId) (u : Nat) : Bool :=
  s.judge k u == .offer && !s.queued u && !s.unitInFlight u

/-- The grant of a sweep candidate (R101, R161). The walk that follows it is the next act. -/
def State.grantOffer (s : State) (k : SlotId) (i : StringId) (u : Nat) : State :=
  let s := s.takeIntent u (slotCause k)
  let s := s.clearOffer k i
  let s := s.setSlot k { s.slot k with issued := (s.slot k).issued + 1, inFlight := (s.slot k).inFlight + 1 }
  let s := match k with | .closing => s.urgencyAtGrant | .evacuation => s
  s.dispatch u .unlock (slotOrigin k) none none none (some k)

/-- A stale candidate is judged again, as at a visit, but marked for repeat where it would be offered (R161). -/
def State.rejudge (s : State) (k : SlotId) (u : Nat) : State :=
  if s.visits k u then
    let s := s.supersede k u
    match s.judge k u with
    | .passBy => s
    | .releaseAtOnce => s.releaseAtOnce k u
    | .markForRepeat => s.markRepeat k u
    | .offer => s.markRepeat k u
  else s

/-- A sweep candidate refused at its grant is handed back, and the walk resumes (R101, R161). -/
def State.handBack (s : State) (k : SlotId) (i : StringId) (u : Nat) : State :=
  let s := s.clearOffer k i
  let s := match k with | .closing => s.urgencyAtDrop | .evacuation => s
  (s.rejudge k u).walk k i

/-- Ends the grant pass in progress (R99); the lines that waited for it choose their next exchange (R147). -/
def State.endPass (s : State) : State := allStrings.foldl State.release (s.setArb { s.arb with grantPass := false })

/-- One look of a grant pass that takes queued records (R99, R100). A look that finds no candidate ends the pass; one that finds a sweep
candidate leaves it to GRANT_SWEEP_CANDIDATE. -/
def State.lookRecord (s : State) : State :=
  if s.arb.grantPass then
    match s.firstEligible with
    | none => s.endPass
    | some (.record r) => s.grant r
    | some (.offer _ _ _) => s
  else s

/-- One look of a grant pass that takes sweep candidates (R99, R101). A look that finds no candidate ends the pass; one that finds a queued
record leaves it to GRANT_RECORD. -/
def State.lookOffer (s : State) : State :=
  if s.arb.grantPass then
    match s.firstEligible with
    | none => s.endPass
    | some (.record _) => s
    | some (.offer k i o) => if s.acceptsSweep k o.unit then s.grantOffer k i o.unit else s.handBack k i o.unit
  else s

end Sys2Proof.Machine
end

