-- ==== Sys2Proof/Machine/Decisions.lean ====
section
/-! DEFINITION. The acts of the Presentation Handler (R60 to R78): the lookup, the standalone admission, the unit act, and the end of a decision. -/

namespace Sys2Proof.Machine

/-- The indicator code of an outcome (R73). -/
def PresentationOutcome.indicator : PresentationOutcome → Indicator
  | .acceptedLock => .green | .acceptedOpen => .green | .staffRelease => .green | .cleaned => .green
  | .serviceSuspended => .amber | .unitBusy => .amber | .queueFull => .amber
  | .unknownBand => .red | .directoryFull => .red | .bandLost => .red | .outOfService => .red | .notBookable => .red
  | .bandExpired => .red | .doorOpen => .red | .allowanceUsed => .red | .notHolder => .red | .staffNoHold => .red

/-- The outcomes counted accepted (R73, R78). -/
def PresentationOutcome.accepted : PresentationOutcome → Bool
  | .acceptedLock => true | .acceptedOpen => true | .staffRelease => true | .cleaned => true
  | _ => false

/-- The decision in progress at a node whose next act is this one. -/
def State.decision? (s : State) (i : StringId) (addr : Nat) (stage : Stage) : Option Decision :=
  s.decisions.find? fun d => d.str == i && d.node == addr && d.stage == stage

/-- Takes a node's decision off the list. -/
def State.dropDecision (s : State) (i : StringId) (addr : Nat) : State :=
  s.setDecisions (s.decisions.filter fun d => !(d.str == i && d.node == addr))

/-- Writes a node's decision anew. -/
def State.setDecision (s : State) (d : Decision) : State :=
  s.setDecisions (s.decisions.map fun e => if e.str = d.str ∧ e.node = d.node then d else e)

/-- Marks the exchange on the line as carrying a code that has been replaced since (R148). -/
def Exchange.replaceIf (addr : Nat) (x : Exchange) : Exchange := if x.node = addr then { x with replaced := true } else x

/-- The outcome's code becomes the node's pending code, unless the node stands ABSENT (R74). -/
def State.writePending (s : State) (i : StringId) (addr : Nat) (code : Indicator) : State :=
  if s.presence i addr = .absent then s
  else
    let s := s.modNode i addr fun n => { n with pending := code }
    s.setStr i { s.str i with exchange := (s.str i).exchange.map (Exchange.replaceIf addr) }

/-- LOST_BAND_SEEN, ahead of the PRESENTATION of a decision that ends BAND_LOST (R77). -/
def State.postSighting (s : State) (d : Decision) (o : PresentationOutcome) : State :=
  if o = .bandLost then
    s.post { kind := .lostBandSeen, unit := some d.unit, band := some d.band, string := some d.str, node := some d.node }
  else s

/-- The PRESENTATION notice (R76). -/
def State.postPresentation (s : State) (d : Decision) (o : PresentationOutcome) : State :=
  s.post { kind := .presentation, unit := some d.unit, band := some d.band, string := some d.str, node := some d.node
           code := .outcome o, value := some (if d.admitted then d.seq + 256 else d.seq) }

/-- The act that ends a decision (R60): the pending code, the notices, and the counter. -/
def State.endDecision (s : State) (d : Decision) (o : PresentationOutcome) : State :=
  let s := s.writePending d.str d.node o.indicator
  let s := (s.postSighting d o).postPresentation d o
  let s := s.count fun c =>
    if o.accepted then { c with accepted := tally c.accepted } else { c with refused := tally c.refused }
  s.dropDecision d.str d.node

/-- Step 1 (R61): suspended, unless a STAFF band is presented at a CLEANING unit. -/
def State.step1 (s : State) (d : Decision) (staff : Bool) : Bool :=
  s.suspended d.str d.node && !(staff && (s.unit d.unit).state == .cleaning)

/-- Steps 3 and 4 (R63, R70), from the entry that the lookup found. -/
def State.afterLookup (s : State) (d : Decision) (e : Band) (admitted : Bool) : State :=
  if e.lost then s.endDecision { d with admitted := admitted } .bandLost
  else s.setDecision { d with stage := .unitAct, staff := e.cls == .staff, admitted := admitted }

/-- The lookup act: steps 1 to 4 (R60 to R63). -/
def State.lookupAct (s : State) (d : Decision) : State :=
  let e := s.band? d.band
  let staff := e.elim false fun e => e.cls == .staff && !e.lost
  if s.step1 d staff then s.endDecision d .serviceSuspended
  else match e with
    | some e => s.afterLookup d e false
    | none =>
      if d.band = 0 ∨ s.link.state = .linked ∨ s.params.link.admitUnknown = false then s.endDecision d .unknownBand
      else s.setDecision { d with stage := .admission }

/-- The entry that standalone admission makes (R38). -/
def Band.provisionalEntry (b : BandId) : Band :=
  { id := b, cls := .guest, group := 0, lockers := 1, cabins := 0, validity := 0, expired := false, lost := false, provisional := true
    holdings := [] }

/-- The admission act (R38, R62). A band that has gained an entry since its lookup is not admitted; the decision goes on at step 3 with that
entry (DESIGN CHOICE, log entry 9). -/
def State.admissionAct (s : State) (d : Decision) : State :=
  match s.band? d.band with
  | some e => s.afterLookup d e false
  | none =>
    if Config.dirCapacity ≤ s.dir.length then s.endDecision d .directoryFull
    else
      let e := Band.provisionalEntry d.band
      (s.setDir (insertBand e s.dir)).afterLookup d e true

/-- The outcome of a refused append (R65). -/
def AppendRefusal.outcome : AppendRefusal → PresentationOutcome
  | .noSuchBand => .unknownBand | .bandLost => .bandLost | .bandExpired => .bandExpired | .allowanceUsed => .allowanceUsed

/-- Step 8: a guest lock at a VACANT unit (R6, R65). The door is the unit's door field as it stands in this act, also where a later reply than the one
that carried the read has written it (DESIGN CHOICE, log entry 30). -/
def State.stepVacant (s : State) (d : Decision) (e : Band) : State :=
  let r := s.unit d.unit
  if e.expired then s.endDecision d .bandExpired
  else if r.door = some .opened then s.endDecision d .doorOpen
  else match s.appendRefusal d.band ((s.unitKind d.unit).getD .locker) with
    | some x => s.endDecision d x.outcome
    | none =>
      if s.queueFull then s.endDecision d .queueFull
      else ((s.bind d.unit d.band).admitRecord d.unit .guestLock none (some d.band) none).endDecision d .acceptedLock

/-- Step 9: the holder or a group-mate at a HELD unit (R66). -/
def State.stepHeld (s : State) (d : Decision) : State :=
  if s.queueFull then s.endDecision d .queueFull
  else (s.admitRecord d.unit .guestUnlock none (some d.band) none).endDecision d .acceptedOpen

/-- Step 10: the holder or a group-mate at an OPEN_HELD unit (R67), with the door field as it stands in this act (DESIGN CHOICE, log entry 30). -/
def State.stepOpenHeld (s : State) (d : Decision) : State :=
  if (s.unit d.unit).door = some .opened then s.endDecision d .doorOpen
  else if s.queueFull then s.endDecision d .queueFull
  else (s.admitRecord d.unit .guestLock none (some d.band) none).endDecision d .acceptedLock

/-- Whether the presenting band is the unit's holder or a group-mate of it (R35). -/
def State.ownsUnit (s : State) (d : Decision) : Bool :=
  match (s.unit d.unit).holder with
  | none => false
  | some h => h == d.band || s.groupMates d.band h

/-- Steps 5 to 11 (R64 to R68). -/
def State.guestSteps (s : State) (d : Decision) (e : Band) : State :=
  let r := s.unit d.unit
  match r.state with
  | .unconfigured | .withdrawn | .jammed | .forfeited | .cleaning => s.endDecision d .outOfService
  | st =>
    if r.freeUse then s.endDecision d .notBookable
    else match st with
      | .locking | .unlocking | .verify => s.endDecision d .unitBusy
      | .vacant => s.stepVacant d e
      | .held => if s.ownsUnit d then s.stepHeld d else s.endDecision d .notHolder
      | .openHeld => if s.ownsUnit d then s.stepOpenHeld d else s.endDecision d .notHolder
      | _ => s.endDecision d .notBookable

/-- A CLEANING unit is cleaned (R25, R72): uses since cleaning 0, and VACANT as adjusted by R8. -/
def State.cleanUnit (s : State) (u : Nat) : State := (s.modUnit u fun r => { r with uses := 0 }).enter u .vacant

/-- Staff handling (R70 to R72). -/
def State.staffSteps (s : State) (d : Decision) : State :=
  match (s.unit d.unit).state with
  | .jammed | .forfeited =>
    if s.queueFull then s.endDecision d .queueFull
    else (s.admitRecord d.unit .staff (some .freeUnit) (some d.band) none).endDecision d .staffRelease
  | .cleaning => (s.cleanUnit d.unit).endDecision d .cleaned
  | .vacant | .occupied => s.endDecision d .staffNoHold
  | .held | .openHeld => s.endDecision d .notHolder
  | .locking | .unlocking | .verify => s.endDecision d .unitBusy
  | .unconfigured | .withdrawn => s.endDecision d .outOfService

/-- The unit act, in the order of R69: step 1 again, the entry, then the staff handling or steps 5 to 11. It is taken at the unit that the node served
when its read was handed over, whichever unit the node serves now (DESIGN CHOICE, log entry 33). -/
def State.unitAct (s : State) (d : Decision) : State :=
  if s.step1 d d.staff then s.endDecision d .serviceSuspended
  else match s.band? d.band with
    | none => s.endDecision d .unknownBand
    | some e => if d.staff then s.staffSteps d else s.guestSteps d e

/-- Takes the act of the decision in progress at a node, where that act is the next one. -/
def State.decide (s : State) (i : StringId) (addr : Nat) (stage : Stage) (act : State → Decision → State) : State :=
  match s.decision? i addr stage with
  | none => s
  | some d => act s d

end Sys2Proof.Machine
end

