-- ==== Sys2Proof/Machine/UnitRequests.lean ====
section
/-! DEFINITION. The owner's acts of the unit requests (R21 to R27), and what every owner's act answers. -/

namespace Sys2Proof.Machine

/-- What an owner's act answers: a status and the content after the link flags (R187). -/
structure Answer where
  status : Status
  content : List Byte
deriving DecidableEq, Repr

/-- The request is accepted, with content. -/
def State.ok (s : State) (content : List Byte) : State × Answer := (s, { status := .ok, content := content })

/-- The request is refused and changes nothing (R190). -/
def State.refuse (s : State) (status : Status) : State × Answer := (s, { status := status, content := [] })

/-- A refusal that carries content (R190). -/
def State.refuseWith (s : State) (status : Status) (content : List Byte) : State × Answer := (s, { status := status, content := content })

/-! ## CONFIGURE_UNIT and REMOVE_UNIT -/

/-- The configuration that six fields give, where each is in its range and the mode suits the kind (R21, check 2). -/
def unitConfig? (kind string node zone mode interval : Byte) : Option UnitConfig :=
  match kind? kind, string? string, mode? mode with
  | some k, some i, some m =>
    if 1 ≤ node.toNat ∧ node.toNat ≤ 60 ∧ 1 ≤ zone.toNat ∧ zone.toNat ≤ 15 ∧ ¬(m = .freeUse ∧ k = .locker) then
      some { kind := k, string := i, node := node.toNat, zone := zone.toNat, mode := m, interval := interval.toNat }
    else none
  | _, _, _ => none

/-- Whether another configured unit has a string and node address (R21, check 5). -/
def State.addressTaken (s : State) (u : Nat) (i : StringId) (addr : Nat) : Bool :=
  unitNumbers.any fun v => v != u && s.unitNode v == some (i, addr)

/-- Withdraws a slot's candidate for a unit, on whichever string it stands, and resumes the walk there (R162). -/
def State.dropUnit (s : State) (k : SlotId) (u : Nat) (mark : Bool) : State :=
  match allStrings.find? fun i => ((s.slot k).offers.get i).elim false (·.unit == u) with
  | none => s
  | some i => (s.withdrawOffer k i mark).walk k i

/-- A removed unit leaves the repeat marks and the visit set of a slot (R162). -/
def State.forgetUnit (s : State) (k : SlotId) (u : Nat) : State :=
  s.setSlot k { s.slot k with marks := (s.slot k).marks.filter (· != u), visit := (s.slot k).visit.filter (· != u) }

/-- The record that an accepted CONFIGURE_UNIT writes, before R8 is applied (R22). -/
def UnitRecord.configured (r : UnitRecord) (c : UnitConfig) : UnitRecord :=
  let moved := r.config.map (fun o => (o.string, o.node)) != some (c.string, c.node)
  { r with
    config := some c
    state := if r.state = .unconfigured then .vacant else r.state
    dwell := 0, overstayReported := false, occupancy := 0, occupancyReported := false, uses := 0, tamper := false, last := none
    occupied := r.occupied && c.kind == .cabin && !moved
    door := if moved then none else r.door }

/-- The roster changes of a reconfiguration: the new address joins before the old one leaves (R22, R125). -/
def State.moveNode (s : State) (old : Option (StringId × Nat)) (i : StringId) (addr : Nat) : State :=
  if old = some (i, addr) then s
  else
    let s := s.addNode i addr
    match old with
    | none => s
    | some (j, a) => s.removeNode j a

/-- An accepted CONFIGURE_UNIT (R22, R162). The unit and the rosters change first, with their STRING_STATE, and then the unit's candidates are dropped and
the walks resume with their notices (DESIGN CHOICE, log entry 18), EVACUATION before CLOSING (DESIGN CHOICE, log entry 16). -/
def State.applyConfig (s : State) (u : Nat) (c : UnitConfig) : State :=
  let old := s.unitNode u
  let s := s.modUnit u fun r => r.configured c
  let s := if (s.unit u).state = .vacant then s.enter u .vacant else s
  let s := s.moveNode old c.string c.node
  (s.dropUnit .evacuation u true).dropUnit .closing u true

/-- CONFIGURE_UNIT (R21, R22). -/
def configureUnit (unit kind string node zone mode interval : Byte) (s : State) : State × Answer :=
  let u := unit.toNat
  if ¬isUnit u then s.refuse .noSuchUnit
  else match unitConfig? kind string node zone mode interval with
    | none => s.refuse .badValue
    | some c =>
      if s.arb.service ≠ .quiesced then s.refuse .notQuiesced
      else if ¬((s.unit u).state = .unconfigured ∨ (s.unit u).state = .vacant ∨ (s.unit u).state = .withdrawn) then
        s.refuse .unitInUse
      else if s.addressTaken u c.string c.node then s.refuse .addressTaken
      else (s.applyConfig u c).ok []

/-- An accepted REMOVE_UNIT (R23, R162). The unit, the roster, with its STRING_STATE, and the marks and visit sets change first, and then the unit's
candidates are dropped and the walks resume with their notices (DESIGN CHOICE, log entry 18), EVACUATION before CLOSING (DESIGN CHOICE, log entry 16). -/
def State.removeConfig (s : State) (u : Nat) : State :=
  let old := s.unitNode u
  let s := s.setUnit u UnitRecord.cold
  let s := match old with | none => s | some (i, addr) => s.removeNode i addr
  let s := (s.forgetUnit .evacuation u).forgetUnit .closing u
  (s.dropUnit .evacuation u false).dropUnit .closing u false

/-- REMOVE_UNIT (R23). -/
def removeUnit (unit : Byte) (s : State) : State × Answer :=
  let u := unit.toNat
  if ¬isUnit u then s.refuse .noSuchUnit
  else if s.arb.service ≠ .quiesced then s.refuse .notQuiesced
  else if (s.unit u).state = .unconfigured then s.refuse .badState
  else if ¬((s.unit u).state = .vacant ∨ (s.unit u).state = .withdrawn) then s.refuse .unitInUse
  else (s.removeConfig u).ok []

/-! ## Service -/

/-- WITHDRAW_UNIT (R24). -/
def withdrawUnit (unit : Byte) (s : State) : State × Answer :=
  let u := unit.toNat
  if ¬isUnit u then s.refuse .noSuchUnit
  else match (s.unit u).state with
    | .vacant => (s.enter u .withdrawn).ok []
    | .withdrawn => s.ok []
    | .unconfigured => s.refuse .badState
    | _ => s.refuse .unitInUse

/-- RESTORE_UNIT (R25). -/
def restoreUnit (unit : Byte) (s : State) : State × Answer :=
  let u := unit.toNat
  if ¬isUnit u then s.refuse .noSuchUnit
  else if (s.unit u).state = .withdrawn then (s.enter u .vacant).ok []
  else s.refuse .badState

/-- MARK_CLEAN (R25). -/
def markClean (unit : Byte) (s : State) : State × Answer :=
  let u := unit.toNat
  if ¬isUnit u then s.refuse .noSuchUnit
  else if (s.unit u).state = .cleaning then (s.cleanUnit u).ok []
  else s.refuse .badState

/-! ## QUERY_UNIT and LIST_UNITS -/

def configBytes (c : UnitConfig) : List Byte :=
  u8 (kindCode c.kind) ++ u8 (stringCode c.string) ++ u8 c.node ++ u8 c.zone ++ u8 (modeCode c.mode) ++ u8 c.interval

def intentBytes (i : BaseIntent) : List Byte :=
  u8 (causeCode i.cause) ++ u8 (directionCode i.cause.direction) ++ u8 (stateCode i.ret)

/-- The movement of a unit: none, queued, or in flight (R26, R209). -/
def State.movement (s : State) (u : Nat) : Nat := if s.unitInFlight u then 2 else if s.queued u then 1 else 0

/-- The 30 bytes of a unit report (R26, R209). -/
def State.unitReport (s : State) (u : Nat) : List Byte :=
  let r := s.unit u
  let head := u8 u ++ u8 (stateCode r.state)
  match r.config with
  | none => head ++ List.replicate 28 0#8
  | some c =>
    let under := r.intent.bind (·.under)
    let n := (s.node? c.string c.node).getD (NodeRecord.added c.node)
    head ++ u8 (bits [true, r.holder.isSome, r.intent.isSome, under.isSome])
      ++ configBytes c
      ++ sized 4 (fun b : BandId => u32 b.toNat) r.holder
      ++ sized 3 intentBytes (r.intent.map fun i => ⟨i.cause, i.ret⟩)
      ++ sized 3 intentBytes under
      ++ u16 r.dwell
      ++ u8 (bits [r.overstayReported, r.occupied, r.occupancyReported, r.tamper])
      ++ u16 r.occupancy
      ++ u8 r.uses
      ++ u8 (doorCode r.door)
      ++ u8 (lastCode r.last)
      ++ u8 (presenceCode n.presence)
      ++ u8 (bits [n.readerMark, n.actuatorMark])
      ++ u8 (s.movement u)

/-- QUERY_UNIT (R26). -/
def queryUnit (unit : Byte) (s : State) : State × Answer :=
  let u := unit.toNat
  if ¬isUnit u then s.refuse .noSuchUnit else s.ok (s.unitReport u)

/-- Whether a unit matches the filter of LIST_UNITS (R27). -/
def State.unitMatches (s : State) (states : BitVec 16) (filter : KindFilter) (zone u : Nat) : Bool :=
  let r := s.unit u
  states.getLsbD (stateCode r.state) &&
    match r.config with
    | none => zone == 0
    | some c => filter.passes c.kind && (zone == 0 || c.zone == zone)

/-- One entry of a LIST_UNITS reply: kind, zone and holder may be absent (R27, R208). -/
def State.unitEntry (s : State) (u : Nat) : List Byte :=
  let r := s.unit u
  u8 (bits [r.config.isSome, r.config.isSome, r.holder.isSome]) ++ u8 u ++ u8 (stateCode r.state)
    ++ sized 1 (fun c : UnitConfig => u8 (kindCode c.kind)) r.config
    ++ sized 1 (fun c : UnitConfig => u8 c.zone) r.config
    ++ sized 4 (fun b : BandId => u32 b.toNat) r.holder

/-- LIST_UNITS (R27). -/
def listUnits (states : BitVec 16) (filter zone start : Byte) (s : State) : State × Answer :=
  if ¬isUnit start.toNat then s.refuse .noSuchUnit
  else match filter? filter with
    | none => s.refuse .badValue
    | some f =>
      if states.toNat % 4096 = 0 ∨ 15 < zone.toNat then s.refuse .badValue
      else
        let found := unitNumbers.filter fun u => start.toNat ≤ u && s.unitMatches states f zone.toNat u
        s.ok (entries s.unitEntry (found.take 24) ++ u8 ((found.drop 24).head?.getD 0))

end Sys2Proof.Machine
end

