-- ==== Sys2Proof/Machine/BandRequests.lean ====
section
/-! DEFINITION. The owner's acts of the band requests (R42 to R54). -/

namespace Sys2Proof.Machine

/-- The default allowance of a class for a kind (R34). -/
def BandClass.default : BandClass → UnitKind → Nat
  | .guest, .locker => 1 | .guest, .cabin => 0
  | .child, .locker => 1 | .child, .cabin => 0
  | .family, .locker => 3 | .family, .cabin => 1
  | .staff, _ => 0

/-- A unit of a holdings list with its kind and state, as every reply with holdings gives it (R39). -/
def State.holdingBytes (s : State) (u : Nat) : List Byte :=
  u8 u ++ u8 ((s.unitKind u).elim 0 kindCode) ++ u8 (stateCode (s.unit u).state)

def State.holdingsBytes (s : State) (holdings : List Nat) : List Byte := entries s.holdingBytes holdings

/-- The marks of a band report: expired, lost, provisional (R209). -/
def Band.marks (e : Band) : List Byte := u8 (bits [e.expired, e.lost, e.provisional])

/-- The 14 + 3n bytes of a band report (R52, R209). -/
def State.bandReport (s : State) (e : Band) : List Byte :=
  u32 e.id.toNat ++ u8 (classCode e.cls) ++ u8 e.group ++ u8 e.lockers ++ u8 e.cabins ++ u16 e.validity ++ e.marks
    ++ u8 (e.lockers - s.kindCount .locker e.holdings) ++ u8 (e.cabins - s.kindCount .cabin e.holdings)
    ++ s.holdingsBytes e.holdings

/-- The states in which an actuation is owed to a holding (R47, R50). -/
def State.moving (s : State) (u : Nat) : Bool := (s.unit u).state == .locking || (s.unit u).state == .unlocking

/-! ## REGISTER_BAND -/

/-- An allowance byte of REGISTER_BAND: 0xFF is not given (R208). -/
def given? (b : Byte) : Option Nat := if b = 0xFF#8 then none else some b.toNat

/-- Check 1 of R43 on the class, the validity and the given allowances. -/
def registerBad (cls : BandClass) (validity : Nat) (lockers cabins : Option Nat) : Bool :=
  1440 < validity || lockers.elim false (3 < ·) || cabins.elim false (1 < ·)
    || (cls == .staff && (lockers.elim false (0 < ·) || cabins.elim false (0 < ·)))

/-- REGISTER_BAND (R43, R44). -/
def registerBand (band : BandId) (cls group : Byte) (validity : BitVec 16) (lockers cabins : Byte) (s : State) : State × Answer :=
  match class? cls with
  | none => s.refuse .badValue
  | some c =>
    if band = 0 ∨ registerBad c validity.toNat (given? lockers) (given? cabins) = true then s.refuse .badValue
    else if (s.band? band).isSome then s.refuse .alreadyRegistered
    else if Config.dirCapacity ≤ s.dir.length then s.refuse .directoryFull
    else
      let e : Band :=
        { id := band, cls := c, group := group.toNat
          lockers := (given? lockers).getD (c.default .locker), cabins := (given? cabins).getD (c.default .cabin)
          validity := validity.toNat, expired := false, lost := false, provisional := false, holdings := [] }
      (s.setDir (insertBand e s.dir)).ok []

/-! ## AMEND_BAND -/

/-- The items that an AMEND_BAND names, each with its value where named (R45, R208). -/
structure Amendment where
  cls : Option Byte
  group : Option Nat
  lockers : Option Nat
  cabins : Option Nat
  validity : Option Nat
deriving DecidableEq, Repr

/-- Reads the items named (R208). -/
def amendment (named cls group lockers cabins : Byte) (validity : BitVec 16) : Amendment :=
  { cls := if named.getLsbD 0 then some cls else none
    group := if named.getLsbD 1 then some group.toNat else none
    lockers := if named.getLsbD 2 then some lockers.toNat else none
    cabins := if named.getLsbD 3 then some cabins.toNat else none
    validity := if named.getLsbD 4 then some validity.toNat else none }

/-- Check 1 of R45, the band ID apart. -/
def Amendment.bad (a : Amendment) : Bool :=
  a.cls.elim false (fun c => (class? c).isNone) || a.lockers.elim false (3 < ·) || a.cabins.elim false (1 < ·)
    || a.validity.elim false (1440 < ·)

/-- The class that results: the named class, or the present one (R45). -/
def Amendment.resultClass (a : Amendment) (e : Band) : BandClass := ((a.cls.bind class?).getD e.cls)

/-- The allowance of a kind that results (R45). -/
def Amendment.resultAllowance (a : Amendment) (e : Band) (k : UnitKind) : Nat :=
  match (match k with | .locker => a.lockers | .cabin => a.cabins) with
  | some n => n
  | none => if a.cls.isSome then (a.resultClass e).default k else e.allowance k

/-- The amended entry (R46). -/
def Amendment.apply (a : Amendment) (e : Band) : Band :=
  { e with
    cls := a.resultClass e
    group := a.group.getD e.group
    lockers := a.resultAllowance e .locker
    cabins := a.resultAllowance e .cabin
    validity := a.validity.getD e.validity
    expired := if a.validity.isSome then false else e.expired
    provisional := false }

/-- Check 3 of R45: a nonzero allowance is named for a band that results in class STAFF. -/
def Amendment.staffAllowance (a : Amendment) (e : Band) : Bool :=
  a.resultClass e == .staff && (a.lockers.elim false (0 < ·) || a.cabins.elim false (0 < ·))

/-- AMEND_BAND (R45, R46). -/
def amendBand (band : BandId) (a : Amendment) (s : State) : State × Answer :=
  if band = 0 ∨ a.bad = true then s.refuse .badValue
  else match s.band? band with
    | none => s.refuse .noSuchBand
    | some e =>
      if a.staffAllowance e then s.refuse .badValue
      else if a.resultAllowance e .locker < s.kindCount .locker e.holdings
          ∨ a.resultAllowance e .cabin < s.kindCount .cabin e.holdings then s.refuse .allowanceExceeded
      else
        let s := s.modBand band a.apply
        s.ok (s.bandReport (a.apply e))

/-! ## CHECK_OUT_BAND -/

/-- The release of one holding in a checkout (R16, R48): an OPEN_HELD unit becomes VACANT, a HELD one FORFEITED, and a JAMMED or VERIFY one
keeps its state and intent. -/
def State.checkOutUnit (s : State) (u : Nat) : State :=
  match (s.unit u).state with
  | .openHeld => (s.removeHolder u).enter u .vacant
  | .held => (s.removeHolder u).enter u .held
  | _ => s.removeHolder u

/-- An accepted checkout (R48). -/
def State.checkOut (s : State) (band : BandId) (holdings : List Nat) : State :=
  let s := holdings.foldl State.checkOutUnit s
  s.setDir (s.dir.filter (·.id != band))

/-- CHECK_OUT_BAND (R47, R48). -/
def checkOutBand (band : BandId) (mode : Byte) (s : State) : State × Answer :=
  if band = 0 ∨ 1 < mode.toNat then s.refuse .badValue
  else match s.band? band with
    | none => s.refuse .noSuchBand
    | some e =>
      let busy := e.holdings.filter s.moving
      let remain := e.holdings.filter fun u =>
        (s.unit u).state == .held || (s.unit u).state == .jammed || (s.unit u).state == .verify
      if ¬busy.isEmpty then s.refuseWith .unitBusy (entries u8 busy)
      else if mode = 0 ∧ ¬remain.isEmpty then s.refuseWith .holdingsRemain (entries u8 remain)
      else
        let s := s.checkOut band e.holdings
        s.ok (s.holdingsBytes e.holdings)

/-! ## REPORT_LOST and TRANSFER_HOLDINGS -/

/-- REPORT_LOST (R49). -/
def reportLost (band : BandId) (s : State) : State × Answer :=
  if band = 0 then s.refuse .badValue
  else match s.band? band with
    | none => s.refuse .noSuchBand
    | some e => (s.modBand band fun e => { e with lost := true }).ok (s.holdingsBytes e.holdings)

/-- Whether the units of a kind that two bands hold exceed the new band's allowance (R50, check 5). -/
def State.exceeds (s : State) (old new : Band) (k : UnitKind) : Bool :=
  new.allowance k < s.kindCount k new.holdings + s.kindCount k old.holdings

/-- An accepted transfer (R51). -/
def State.transfer (s : State) (old new : BandId) (holdings : List Nat) : State :=
  let s := s.modBand new fun e => { e with holdings := e.holdings ++ holdings }
  let s := s.modBand old fun e => { e with holdings := [] }
  holdings.foldl (fun s u => s.modUnit u fun r => { r with holder := some new }) s

/-- TRANSFER_HOLDINGS (R50, R51). -/
def transferHoldings (old new : BandId) (s : State) : State × Answer :=
  if old = 0 ∨ new = 0 ∨ old = new then s.refuse .badValue
  else match s.band? old, s.band? new with
    | some o, some n =>
      if n.lost then s.refuse .bandLost
      else if n.expired then s.refuse .bandExpired
      else if s.exceeds o n .locker ∨ s.exceeds o n .cabin then s.refuse .allowanceExceeded
      else
        let busy := o.holdings.filter s.moving
        if ¬busy.isEmpty then s.refuseWith .unitBusy (entries u8 busy)
        else
          let s := s.transfer old new o.holdings
          s.ok (s.holdingsBytes (n.holdings ++ o.holdings))
    | _, _ => s.refuse .noSuchBand

/-! ## QUERY_BAND, LIST_BANDS and CLEAR_DIRECTORY -/

/-- QUERY_BAND (R52). -/
def queryBand (band : BandId) (s : State) : State × Answer :=
  if band = 0 then s.refuse .badValue
  else match s.band? band with
    | none => s.refuse .noSuchBand
    | some e => s.ok (s.bandReport e)

/-- Whether an entry matches the selection of LIST_BANDS: every named condition holds (R53). -/
def Band.selected (e : Band) (selection : Byte) : Bool :=
  (!selection.getLsbD 0 || e.lost) && (!selection.getLsbD 1 || e.provisional) && (!selection.getLsbD 2 || e.expired)
    && (!selection.getLsbD 3 || !e.holdings.isEmpty)

/-- One entry of a LIST_BANDS reply (R53): each of its three marks is a flag of 1 byte (R208). -/
def Band.entry (e : Band) : List Byte :=
  u32 e.id.toNat ++ u8 (classCode e.cls) ++ u8 e.group ++ flag e.expired ++ flag e.lost ++ flag e.provisional ++ u8 e.holdings.length

/-- LIST_BANDS (R53). -/
def listBands (selection : Byte) (start : BandId) (s : State) : State × Answer :=
  if start = 0 then s.refuse .badValue
  else
    let found := s.dir.filter fun e => start ≤ e.id && e.selected selection
    s.ok (entries Band.entry (found.take 16) ++ u32 ((found.drop 16).head?.elim 0 (·.id.toNat)))

/-- CLEAR_DIRECTORY (R54). At most 240 bands hold a unit, so HOLDINGS_REMAIN gives their number in 1 byte (R208). -/
def clearDirectory (s : State) : State × Answer :=
  if s.arb.service ≠ .quiesced then s.refuse .notQuiesced
  else
    let holding := s.dir.filter fun e => !e.holdings.isEmpty
    if ¬holding.isEmpty then
      s.refuseWith .holdingsRemain (u8 holding.length ++ u32 (holding.head?.elim 0 (·.id.toNat)))
    else (s.setDir []).ok (u16 s.dir.length)

end Sys2Proof.Machine
end

