-- ==== Sys2Proof/Machine/DispatchRequests.lean ====
section
/-! DEFINITION. The owner's acts of the dispatch requests (R84 to R89, R103 to R106) and of the closing-urgency timer (R96). -/

namespace Sys2Proof.Machine

/-! ## DEMAND -/

/-- The intent cause of an action (R85). -/
def StaffAction.cause : StaffAction → Cause | .openUnit => .staffOpen | .lockUnit => .staffLock | .freeUnit => .staffFree

/-- The states in which an action is allowed, OPEN_HELD for FREE among them (R85). -/
def StaffAction.allowed : StaffAction → UnitState → Bool
  | .openUnit, st => st == .held || st == .jammed || st == .forfeited || st == .occupied || st == .withdrawn
  | .lockUnit, st => st == .openHeld
  | .freeUnit, st => st == .held || st == .jammed || st == .forfeited || st == .verify || st == .openHeld

/-- The next tag moves on (R83). -/
def State.nextTag (s : State) : State := s.setArb { s.arb with nextTag := advanceTag s.arb.nextTag s.arb.demands }

/-- A FREE demand at an OPEN_HELD unit (R86). -/
def State.freeAtOnce (s : State) (u : Nat) : State :=
  let holder := (s.unit u).holder
  let tag := s.arb.nextTag
  (((s.removeHolder u).enter u .vacant).nextTag).postDemandDone u tag holder .done

/-- An accepted DEMAND is admitted (R87). -/
def State.admitDemand (s : State) (u : Nat) (a : StaffAction) : State :=
  let tag := s.arb.nextTag
  let s := s.admitRecord u .staff (some a) none (some tag)
  (s.setArb { s.arb with demands := s.arb.demands ++ [{ tag := tag, unit := u, action := a, inFlight := false }] }).nextTag

/-- DEMAND (R84 to R87). -/
def demand (unit action : Byte) (s : State) : State × Answer :=
  let u := unit.toNat
  let st := (s.unit u).state
  if ¬isUnit u then s.refuse .noSuchUnit
  else match action? action with
    | none => s.refuse .badValue
    | some a =>
      if st = .locking ∨ st = .unlocking then s.refuse .unitBusy
      else if a.allowed st = false then s.refuse .badState
      else if a = .freeUnit ∧ st = .openHeld then (s.freeAtOnce u).ok (u8 s.arb.nextTag)
      else if Config.demandCapacity ≤ s.arb.demands.length then s.refuse .demandLimit
      else if s.queueFull then s.refuse .queueFull
      else (s.admitDemand u a).ok (u8 s.arb.nextTag)

/-- CANCEL_DEMAND (R89). -/
def cancelDemand (tag : Byte) (s : State) : State × Answer :=
  if tag = 0 then s.refuse .badValue
  else match s.arb.demands.find? (·.tag == tag.toNat) with
    | none => s.refuse .noSuchDemand
    | some d =>
      if d.inFlight then s.refuse .inFlight
      else (((s.removeRecord d.unit).withdrawIntent d.unit).dropDemand d.tag).ok []

/-! ## QUIESCE and RESUME -/

/-- QUIESCE (R103). -/
def quiesce (s : State) : State × Answer :=
  match s.arb.service with
  | .running =>
    if s.inFlightCount = 0 then s.enterQuiesced.ok (u8 (serviceCode .quiesced))
    else (s.setArb { s.arb with service := .quiescing }).ok (u8 (serviceCode .quiescing))
  | st => s.ok (u8 (serviceCode st))

/-- RESUME (R105). -/
def resume (s : State) : State × Answer :=
  if s.arb.service = .running then s.ok [] else ((s.setArb { s.arb with service := .running }).startPass).ok []

/-! ## QUERY_DISPATCH -/

/-- A queued record: semantics, band and tag may be absent (R106, R208). -/
def State.recordEntry (s : State) (r : ActRecord) : List Byte :=
  u8 (bits [r.semantics.isSome, r.band.isSome, r.tag.isSome]) ++ u8 r.unit ++ u8 (directionCode r.direction)
    ++ u8 (originCode r.origin)
    ++ sized 1 (fun a => u8 (actionCode a)) r.semantics
    ++ sized 4 (fun b : BandId => u32 b.toNat) r.band
    ++ sized 1 u8 r.tag
    ++ u32 (s.ageOf r.enqueuedAt)

/-- An outstanding demand; the demand state is QUEUED 0 or IN_FLIGHT 1 (R106). -/
def Demand.entry (d : Demand) : List Byte := u8 d.tag ++ u8 d.unit ++ u8 (actionCode d.action) ++ flag d.inFlight

/-- The sweep candidates on offer for a string (R106), EVACUATION ahead of CLOSING: the rule gives no order (DESIGN CHOICE, log entry 13). -/
def State.offersFor (s : State) (i : StringId) : List (Nat × Origin) :=
  [SlotId.evacuation, SlotId.closing].filterMap fun k => ((s.slot k).offers.get i).map fun o => (o.unit, slotOrigin k)

/-- A string in the reply: its in-flight actuation, its gap and its offers (R106). -/
def State.stringDispatch (s : State) (i : StringId) : List Byte :=
  optional 2 (fun f : InFlight => u8 f.unit ++ u8 (originCode f.origin)) (s.str i).inFlight
    ++ flag (s.str i).gapTimer.isSome
    ++ entries (fun x : Nat × Origin => u8 x.1 ++ u8 (originCode x.2)) (s.offersFor i)

/-- The state of a string where it is OFF or DEGRADED (R106). -/
def State.stringInhibit (s : State) (i : StringId) : List Byte :=
  let st := (s.str i).state
  optional 1 (fun st => u8 (stringStateCode st)) (if st = .off ∨ st = .degraded then some st else none)

/-- The continuation position: that of the 9th record at or after the start, or 0 (R106). -/
def State.nextPosition (s : State) (start : Nat) : Nat := if start + 8 ≤ s.arb.queue.length then start + 8 else 0

/-- The content of a QUERY_DISPATCH reply (R106). The outstanding demands stand in the order of their admission, for R83 and R106 give none (DESIGN
CHOICE, log entry 13). -/
def State.dispatchReport (s : State) (start : Nat) : List Byte :=
  u8 (serviceCode s.arb.service) ++ flag s.arb.urgent ++ optional 4 u32 s.arb.urgencyTimer
    ++ u8 s.arb.queue.length
    ++ entries s.recordEntry ((s.arb.queue.drop (start - 1)).take 8) ++ u8 (s.nextPosition start)
    ++ entries Demand.entry s.arb.demands
    ++ (allStrings.map s.stringDispatch).flatten
    ++ flag s.supply.lowLevel ++ flag s.supply.throttled ++ flag s.sweeps.alarm ++ flag (s.sweepActive .evacuation)
    ++ (allStrings.map s.stringInhibit).flatten
    ++ u8 s.arb.nextTag

/-- QUERY_DISPATCH (R106). -/
def queryDispatch (start : Byte) (s : State) : State × Answer :=
  if 1 ≤ start.toNat ∧ start.toNat ≤ 32 then s.ok (s.dispatchReport start.toNat) else s.refuse .badValue

/-! ## The closing-urgency timer -/

/-- The closing-urgency timer runs out: the flag is set and a grant pass is taken (R96). -/
def State.urgencyExpiry (s : State) : State :=
  if s.arb.urgencyTimer.isSome then (s.setArb { s.arb with urgent := true, urgencyTimer := none }).startPass else s

end Sys2Proof.Machine
end

