-- ==== Sys2Proof/Machine/SupplyRequests.lean ====
section
/-! DEFINITION. The acts of the Supply Account: the SUPPLY group (R116, R117), the drain tick (R114), the two lines (R119, R120) and QUERY_SUPPLY
(R122). -/

namespace Sys2Proof.Machine

/-- The whole check of the SUPPLY group (R116). -/
def SupplyParams.good (p : SupplyParams) : Bool :=
  1 ≤ p.kL && p.kL ≤ 4095 && 1 ≤ p.kC && p.kC ≤ 4095 && 1 ≤ p.d && p.d ≤ 255 && p.c ≤ 65535 && p.lw < p.hw && p.hw ≤ p.c
    && max p.kL p.kC ≤ p.c

/-- The 11 bytes of the SUPPLY group (R208). -/
def SupplyParams.bytes (p : SupplyParams) : List Byte := u16 p.kL ++ u16 p.kC ++ u8 p.d ++ u16 p.lw ++ u16 p.hw ++ u16 p.c

/-- An accepted SUPPLY group (R117). -/
def State.applySupply (s : State) (p : SupplyParams) : State :=
  ((s.setParams { s.params with supply := p }).setSupply
    { s.supply with throttled := throttledAfterSet p s.supply.account s.supply.throttled }).startPass

/-- SET_PARAMETERS of the SUPPLY group (R116, R117). -/
def setSupplyGroup (kL kC : BitVec 16) (d : Byte) (lw hw c : BitVec 16) (s : State) : State × Answer :=
  let p : SupplyParams := ⟨kL.toNat, kC.toNat, d.toNat, lw.toNat, hw.toNat, c.toNat⟩
  if p.good then (s.applySupply p).ok p.bytes else s.refuse .badValue

/-- The drain tick (R114), and the grant pass that follows it (R99). -/
def State.drainTick (s : State) : State :=
  let a := s.supply.account - s.params.supply.d
  (s.setSupply { s.supply with
    account := a, throttled := throttledAfterDrain s.params.supply a s.supply.throttled }).startPass

/-- SUPPLY_LOW is asserted (R119). -/
def State.supplyLowAsserted (s : State) : State :=
  (s.setSupply { s.supply with lowLevel := true, lowSeen := true, lowSince := s.time.timebase }).post
    { kind := .supplyLow, code := .throttled s.supply.throttled, value := some s.supply.account }

/-- SUPPLY_LOW is deasserted (R119). -/
def State.supplyLowDeasserted (s : State) : State :=
  ((s.setSupply { s.supply with lowLevel := false }).post
    { kind := .supplyRestored, code := .throttled s.supply.throttled
      value := some (min 65535 (s.ageOf s.supply.lowSince / 1000)) }).startPass

/-- A level of the SUPPLY_LOW line is taken; the level already recorded is no change (R119). -/
def State.takeSupplyLow (s : State) (asserted : Bool) : State :=
  if asserted = s.supply.lowLevel then s
  else if asserted then s.supplyLowAsserted
  else s.supplyLowDeasserted

/-- Marks a string's in-flight actuation LIMITED (R120). -/
def StringCtl.markLimited (c : StringCtl) : StringCtl := { c with inFlight := c.inFlight.map fun f => { f with limited := true } }

/-- A level of the CURRENT_LIMIT line is taken; the level already recorded is no change (R120). -/
def State.takeCurrentLimit (s : State) (asserted : Bool) : State :=
  if asserted = s.supply.limitLevel then s
  else if asserted then
    (s.setSupply { s.supply with limitLevel := true, limitSeen := true }).setStrings (s.strings.map StringCtl.markLimited)
  else s.setSupply { s.supply with limitLevel := false }

/-- The ticks until a cost fits under the ceiling (R122). -/
def State.ticksToFit (s : State) (cost : Nat) : Nat := ticksFor s.params.supply.d (s.supply.account + cost - s.params.supply.c)

/-- The ticks until THROTTLED clears (R122). -/
def State.ticksToRelease (s : State) : Nat :=
  if s.supply.throttled then ticksFor s.params.supply.d (s.supply.account - s.params.supply.lw) else 0

/-- The number of actuations in flight that carry the LIMITED mark. -/
def State.limitedCount (s : State) : Nat := s.strings.toList.countP fun c => c.inFlight.elim false (·.limited)

/-- The content of a QUERY_SUPPLY reply (R122). -/
def State.supplyReport (s : State) : List Byte :=
  u16 s.supply.account ++ flag s.supply.throttled ++ s.params.supply.bytes
    ++ flag s.supply.lowLevel ++ flag s.supply.limitLevel ++ flag s.supply.lowSeen ++ flag s.supply.limitSeen
    ++ u8 s.inFlightCount ++ u8 s.limitedCount
    ++ u16 (s.params.supply.c - s.supply.account)
    ++ u32 s.ticksToRelease ++ u32 (s.ticksToFit s.params.supply.kL) ++ u32 (s.ticksToFit s.params.supply.kC)

/-- QUERY_SUPPLY (R122). -/
def querySupply (clear : Byte) (s : State) : State × Answer :=
  match yesNo? clear with
  | none => s.refuse .badValue
  | some false => s.ok s.supplyReport
  | some true => (s.setSupply { s.supply with lowSeen := false, limitSeen := false }).ok s.supplyReport

end Sys2Proof.Machine
end

