-- ==== Sys2Proof/Machine/StringRequests.lean ====
section
/-! DEFINITION. The acts of the String Controllers that requests and timers call for: the STRINGS group (R127), RESTART_STRING (R140), RESET_STRING
(R149), QUERY_STRING (R150), and the expiry of the round, recovery, settle and gap timers (R129, R139, R144, R147). -/

namespace Sys2Proof.Machine

/-! ## The STRINGS group -/

/-- The check of the STRINGS group (R127, R128). -/
def StringParams.good (p : StringParams) : Bool :=
  p.base ≤ 2 && p.mult ≤ 63 && p.allowance ≤ 15 && 50 ≤ p.settle && p.settle ≤ 2000 && p.gap ≤ 1000 && 1 ≤ p.interval && p.interval ≤ 60

/-- The 9 bytes of the STRINGS group (R208). -/
def StringParams.bytes (p : StringParams) : List Byte :=
  u8 p.base ++ u8 p.mult ++ u8 p.allowance ++ u16 p.settle ++ u16 p.gap ++ flag p.auto ++ u8 p.interval

def StringCtl.stopRecovery (c : StringCtl) : StringCtl := { c with recoveryTimer := none }

/-- An accepted STRINGS group; disabling auto-recovery stops the recovery timers that run (R127). -/
def State.applyStrings (s : State) (p : StringParams) : State :=
  let s := s.setParams { s.params with strings := p }
  if p.auto then s else s.setStrings (s.strings.map StringCtl.stopRecovery)

/-- SET_PARAMETERS of the STRINGS group (R127). -/
def setStringsGroup (base mult allowance : Byte) (settle gap : BitVec 16) (auto interval : Byte) (s : State) : State × Answer :=
  match yesNo? auto with
  | none => s.refuse .badValue
  | some yes =>
    let p : StringParams := ⟨base.toNat, mult.toNat, allowance.toNat, settle.toNat, gap.toNat, yes, interval.toNat⟩
    if p.good then (s.applyStrings p).ok p.bytes else s.refuse .badValue

/-! ## RESTART_STRING and RESET_STRING -/

/-- RESTART_STRING (R140). -/
def restartString (string : Byte) (s : State) : State × Answer :=
  match string? string with
  | none => s.refuse .badValue
  | some i => if (s.str i).state = .off then (s.restart i).ok [] else s.refuse .notOff

/-- Steps 4 and 5 of R149: every node ABSENT, the timers stopped, score and round count 0, and the frame on the line stale. A round that is cut short
counts no overrun (DESIGN CHOICE, log entry 25). -/
def StringCtl.cleared (c : StringCtl) : StringCtl :=
  { c with
    nodes := c.nodes.map NodeRecord.restarted
    score := 0, roundCount := 0, inRound := false, held := false
    roundTimer := none, settleTimer := none, gapTimer := none, recoveryTimer := none
    exchange := c.exchange.map fun x => { x with stale := true } }

/-- Step 6 of R149: ACTIVE with a probe round begun at once, or IDLE. -/
def State.reenter (s : State) (i : StringId) : State :=
  if (s.str i).nodes.isEmpty then s.enterString i .idle else (s.enterString i .active).beginRound i

/-- The act of an accepted RESET_STRING (R149); a walk whose candidate the reset dropped resumes at its end (R162), after STRING_STATE (DESIGN CHOICE, log
entry 16). -/
def State.resetString (s : State) (i : StringId) : State :=
  let s := s.complete i .uncertain true
  (s.resetRecords i).dropString i fun s => (s.setStr i (s.str i).cleared).reenter i

/-- RESET_STRING (R149). -/
def resetString (string : Byte) (s : State) : State × Answer :=
  match string? string with
  | none => s.refuse .badValue
  | some i => (s.resetString i).ok []

/-! ## QUERY_STRING -/

/-- A node entry: the last seq may be absent, and each mark and each latch is a flag of 1 byte (R150, R208). The door is coded as in the unit report of
R209, and bolt and inside bolt as in R210 (DESIGN CHOICE, log entry 14). -/
def State.nodeEntry (s : State) (i : StringId) (n : NodeRecord) : List Byte :=
  u8 (bits [n.lastSeq.isSome]) ++ u8 n.addr ++ u8 ((s.unitAt i n.addr).getD 0) ++ u8 (presenceCode n.presence) ++ u8 n.misses
    ++ u8 (doorCode n.door) ++ u8 (boltCode n.bolt) ++ u8 (insideCode n.inside)
    ++ sized 1 u8 n.lastSeq ++ u8 (indicatorCode n.pending)
    ++ flag n.readerMark ++ flag n.actuatorMark ++ flag n.readerLatch ++ flag n.actuatorLatch

/-- The in-flight actuation of a string; the remaining settle time stands while the settle timer runs (R150). -/
def StringCtl.inFlightBytes (c : StringCtl) : List Byte :=
  optional 10 (fun f : InFlight =>
    u8 f.unit ++ u8 (directionCode f.direction) ++ u8 (originCode f.origin) ++ u8 (phaseCode f.phase) ++ flag f.limited
      ++ optional 4 u32 c.settleTimer) c.inFlight

/-- The nodes at or above a start address. -/
def StringCtl.nodesFrom (c : StringCtl) (start : Nat) : List NodeRecord := c.nodes.filter (start ≤ ·.addr)

/-- The content of a QUERY_STRING reply (R150). The round period is that of the figures as they stand, also where the round in progress began under
earlier ones (DESIGN CHOICE, log entry 27). -/
def State.stringReport (s : State) (i : StringId) (start : Nat) : List Byte :=
  let c := s.str i
  u8 (stringStateCode c.state) ++ u16 c.score
    ++ u32 s.params.strings.period ++ u8 c.roundCount ++ flag c.inRound
    ++ optional 4 u32 c.recoveryTimer ++ flag s.params.strings.auto
    ++ c.inFlightBytes ++ optional 4 u32 c.gapTimer ++ u8 c.nodes.length
    ++ entries (s.nodeEntry i) ((c.nodesFrom start).take 12)
    ++ u8 (((c.nodesFrom start).drop 12).head?.elim 0 (·.addr))

/-- Clears the latches of the nodes that a reply lists (R150). -/
def StringCtl.clearLatches (c : StringCtl) (listed : List Nat) : StringCtl :=
  { c with nodes := c.nodes.map fun n =>
      if listed.contains n.addr then { n with readerLatch := false, actuatorLatch := false } else n }

/-- QUERY_STRING (R150). -/
def queryString (string start clear : Byte) (s : State) : State × Answer :=
  match string? string, yesNo? clear with
  | some i, some yes =>
    if 1 ≤ start.toNat ∧ start.toNat ≤ 60 then
      let listed := (((s.str i).nodesFrom start.toNat).take 12).map (·.addr)
      (if yes then s.setStr i ((s.str i).clearLatches listed) else s).ok (s.stringReport i start.toNat)
    else s.refuse .badValue
  | _, _ => s.refuse .badValue

/-! ## The timers of a string -/

/-- The round timer runs out (R129): the next round starts, or, where a round is in progress, it starts when that round has ended. -/
def State.roundExpiry (s : State) (i : StringId) : State :=
  let c := s.str i
  if c.roundTimer.isNone then s
  else if c.inRound then s.setStr i { c with roundTimer := none }
  else s.beginRound i

/-- The recovery timer runs out: the OFF string restarts (R139). -/
def State.recoveryExpiry (s : State) (i : StringId) : State :=
  if (s.str i).recoveryTimer.isSome ∧ (s.str i).state = .off then s.restart i else s

/-- The settle timer runs out with the actuation SETTLING: JAMMED (R144). -/
def State.settleExpiry (s : State) (i : StringId) : State :=
  if (s.str i).settleTimer.isSome then s.complete i .jammed false else s

/-- The actuation gap elapses, and a grant pass is started (R147). -/
def State.gapExpiry (s : State) (i : StringId) : State :=
  if (s.str i).gapTimer.isSome then (s.setStr i { s.str i with gapTimer := none }).startPass else s

end Sys2Proof.Machine
end

