-- ==== Sys2Proof/Machine/SweepRequests.lean ====
section
/-! DEFINITION. The acts of the Sweep Generator that the ALARM line, requests and the pause timer call for (R153, R155, R164, R165, R168). -/

namespace Sys2Proof.Machine

/-- A level of the ALARM line is taken; the level already recorded is no change (R153). -/
def State.takeAlarm (s : State) (asserted : Bool) : State :=
  if asserted = s.sweeps.alarm then s
  else
    let s := s.setSweeps { s.sweeps with alarm := asserted }
    if asserted then (if s.sweepActive .evacuation then s else s.startEvacuation) else s.startPass

/-- RELEASE_ZONE (R155). -/
def releaseZone (zone filter : Byte) (s : State) : State × Answer :=
  match filter? filter with
  | none => s.refuse .badValue
  | some f =>
    if 15 < zone.toNat then s.refuse .badValue
    else if s.sweepActive .closing then s.refuse .sweepActive
    else (s.startClosing zone.toNat f false).ok []

/-- Detaches a CLOSING actuation in flight from its slot (R165). -/
def StringCtl.detachClosing (c : StringCtl) : StringCtl :=
  { c with inFlight := c.inFlight.map fun f => if f.slot = some .closing then { f with slot := none } else f }

/-- STOP_SWEEP (R165). -/
def stopSweep (s : State) : State × Answer :=
  if s.sweepActive .closing then
    ((s.setStrings (s.strings.map StringCtl.detachClosing)).endSweep .closing .closingStopped).ok []
  else s.refuse .noSweep

/-- The pause timer runs out: the next pass begins (R164). -/
def State.pauseExpiry (s : State) (k : SlotId) : State := if (s.slot k).pause.isSome then s.nextPass k else s

/-! ## QUERY_SWEEP -/

/-- An item that is absent for an INACTIVE slot (R168, R208). -/
def SweepSlot.item {α : Type} (x : SweepSlot) (size : Nat) (enc : α → List Byte) (a : α) : List Byte :=
  optional size enc (if x.state = .inactive then none else some a)

/-- A string in the reply: the cursor, END as 0, and the candidate with its offer time and age (R168). -/
def State.slotString (s : State) (x : SweepSlot) (i : StringId) : List Byte :=
  x.item 1 (fun c : Option Nat => u8 (c.getD 0)) (x.cursors.get i)
    ++ optional 9 (fun o : Offer => u8 o.unit ++ u32 o.offeredAt.toNat ++ u32 (s.ageOf o.offeredAt)) (x.offers.get i)

/-- The result of the last sweep (R168). The ending is coded as in a SWEEP_DONE notice (DESIGN CHOICE, log entry 14). -/
def SweepResult.bytes (r : SweepResult) : List Byte := u8 (endingCode r.ending) ++ u16 r.issued ++ u16 r.done ++ u16 r.missed

/-- The content of a QUERY_SWEEP reply (R168). -/
def State.sweepReport (s : State) (k : SlotId) : List Byte :=
  let x := s.slot k
  u8 (slotStateCode x.state) ++ x.item 1 u8 x.zone ++ x.item 1 (fun f => u8 (filterCode f)) x.filter ++ x.item 1 u8 x.pass
    ++ optional 4 u32 x.pause
    ++ (allStrings.map (s.slotString x)).flatten
    ++ x.item 1 u8 x.inFlight ++ x.item 2 u16 x.issued ++ x.item 2 u16 x.done ++ x.item 2 u16 x.missed
    ++ x.item 1 u8 x.marks.length ++ x.item 1 (entries u8) (x.marks.take 32)
    ++ x.item 1 u8 x.visit.length
    ++ optional 7 SweepResult.bytes x.result

/-- QUERY_SWEEP (R168). -/
def querySweep (slot : Byte) (s : State) : State × Answer :=
  match slot? slot with
  | none => s.refuse .badValue
  | some k => s.ok (s.sweepReport k)

end Sys2Proof.Machine
end

