-- ==== Sys2Proof/Machine/ClockRequests.lean ====
section
/-! DEFINITION. The acts of the Time block and of its ticks: the second tick and closing time (R172, R175), the minute tick (R177 to R179, R36), the
TIME group (R176), SET_CLOCK (R174) and QUERY_CLOCK (R180). -/

namespace Sys2Proof.Machine

/-! ## The second tick -/

/-- The Baths Clock at a second tick (R172). -/
def State.advanceClock (s : State) : State :=
  if s.time.valid = false then s
  else if s.time.second < 86399 then s.setTime { s.time with second := s.time.second + 1 }
  else (s.setTime { s.time with second := 0 }).post { kind := .clockRollover }

/-- The valid clock stands at the enabled closing second (R175). -/
def State.atClosing (s : State) : Bool :=
  s.time.valid && s.params.time.closingEnabled && s.time.second == s.params.time.closing

/-- The second tick: the clock, then the closing-time test (R172, R175). -/
def State.secondTick (s : State) : State :=
  let s := s.advanceClock
  if s.atClosing = true ∧ s.sweepActive .closing = false then s.startClosing 0 .both true else s

/-- The second tick where it leaves the valid clock at the enabled closing second (R175); at any other moment it is not closing time. -/
def State.closingTime (s : State) : State := if s.advanceClock.atClosing then s.secondTick else s

/-! ## The minute tick -/

/-- The overstay limit of a class (R176). -/
def TimeParams.overstay (p : TimeParams) : BandClass → Nat
  | .guest => p.guest | .child => p.child | .family => p.family | .staff => p.staff

/-- The overstay check of one unit (R177). -/
def State.dwellUnit (s : State) (u : Nat) : State :=
  match (s.unit u).holder with
  | none => s
  | some b =>
    let s := s.modUnit u fun r => { r with dwell := satInc 65535 r.dwell }
    match s.band? b with
    | none => s
    | some e =>
      let limit := s.params.time.overstay e.cls
      let r := s.unit u
      if limit ≠ 0 ∧ limit ≤ r.dwell ∧ r.overstayReported = false then
        (s.modUnit u fun r => { r with overstayReported := true }).postUnit .overstay u (some b) (.bandClass e.cls) (some r.dwell)
      else s

/-- The mode of a unit; an unconfigured unit is never occupied. -/
def UnitRecord.mode (r : UnitRecord) : UnitMode := r.config.elim .single (·.mode)

/-- The occupancy check of one unit (R178). -/
def State.occupancyUnit (s : State) (u : Nat) : State :=
  if (s.unit u).occupied then
    let s := s.modUnit u fun r => { r with occupancy := satInc 65535 r.occupancy }
    let r := s.unit u
    if s.params.time.occupancy ≤ r.occupancy ∧ r.occupancyReported = false then
      (s.modUnit u fun r => { r with occupancyReported := true }).postUnit .occupancyLong u r.holder (.mode r.mode) (some r.occupancy)
    else s
  else s

/-- The minute tick at the Tenancy Table, unit by unit, and the minute count (R171, R177, R178). -/
def State.minuteTick (s : State) : State :=
  let s := s.setTime { s.time with minuteCount := satInc Config.counterTop s.time.minuteCount }
  unitNumbers.foldl (fun s u => (s.dwellUnit u).occupancyUnit u) s

/-- An entry counted down by 1, and marked expired where it goes from 1 to 0 (R36). -/
def Band.countDown (e : Band) : Band :=
  if e.validity = 0 then e else { e with validity := e.validity - 1, expired := e.expired || e.validity == 1 }

/-- BAND_EXPIRED, with the number of units the band holds (R36). -/
def State.postExpired (s : State) (e : Band) : State :=
  s.post { kind := .bandExpired, band := some e.id, value := some e.holdings.length }

/-- The minute tick at the Band Directory (R36, R179). -/
def State.countDown (s : State) : State :=
  (s.dir.filter (·.validity == 1)).foldl State.postExpired (s.setDir (s.dir.map Band.countDown))

/-- The part of the Directory's minute tick that one entry takes where its validity minutes go from 1 to 0 (R36). -/
def State.expireBand (s : State) (b : BandId) : State :=
  match s.band? b with
  | none => s
  | some e => if e.validity = 1 then (s.modBand b Band.countDown).postExpired e else s

/-! ## The TIME group -/

/-- The check of the TIME group (R176). -/
def TimeParams.good (p : TimeParams) : Bool :=
  p.closing ≤ 86399 && 500 ≤ p.urgency && p.urgency ≤ 10000 && p.guest ≤ 1440 && p.child ≤ 1440 && p.family ≤ 1440 && p.staff ≤ 1440
    && 1 ≤ p.occupancy && p.occupancy ≤ 240

/-- The 16 bytes of the TIME group (R208). -/
def TimeParams.bytes (p : TimeParams) : List Byte :=
  u24 p.closing ++ flag p.closingEnabled ++ u16 p.urgency ++ flag p.evacLockers ++ u16 p.guest ++ u16 p.child ++ u16 p.family
    ++ u16 p.staff ++ u8 p.occupancy

/-- SET_PARAMETERS of the TIME group (R176). -/
def setTimeGroup (closing : BitVec 24) (enable : Byte) (urgency : BitVec 16) (evacLockers : Byte) (guest child family staff : BitVec 16)
    (occupancy : Byte) (s : State) : State × Answer :=
  match yesNo? enable, yesNo? evacLockers with
  | some on, some lockers =>
    let p : TimeParams := ⟨closing.toNat, on, urgency.toNat, lockers, guest.toNat, child.toNat, family.toNat, staff.toNat, occupancy.toNat⟩
    if p.good then (s.setParams { s.params with time := p }).ok p.bytes else s.refuse .badValue
  | _, _ => s.refuse .badValue

/-! ## SET_CLOCK and QUERY_CLOCK -/

/-- SET_CLOCK (R174). -/
def setClock (second : BitVec 24) (s : State) : State × Answer :=
  if 86399 < second.toNat then s.refuse .badValue
  else (s.setTime { s.time with second := second.toNat, valid := true }).ok (u24 s.time.second ++ flag s.time.valid)

/-- The seconds until the closing second is next met (R180). -/
def State.untilClosing (s : State) : Option Nat :=
  if s.time.valid && s.params.time.closingEnabled then
    some (if s.params.time.closing ≤ s.time.second then s.params.time.closing + 86400 - s.time.second
      else s.params.time.closing - s.time.second)
  else none

/-- QUERY_CLOCK (R180). The minute count goes in 4 bytes, as a tick figure (DESIGN CHOICE, log entry 13). -/
def queryClock (s : State) : State × Answer :=
  s.ok (u24 s.time.second ++ flag s.time.valid ++ u32 s.time.timebase.toNat ++ u32 s.time.minuteCount
    ++ u32 s.time.toSecond ++ u32 s.time.toMinute ++ u24 s.params.time.closing ++ flag s.params.time.closingEnabled
    ++ optional 4 u32 s.untilClosing ++ flag (s.sweepActive .closing))

end Sys2Proof.Machine
end

