-- ==== Sys2Proof/Machine/ReportRequests.lean ====
section
/-! DEFINITION. The acts of the Notice Queue and the Census (R201 to R205) and the Desk Link's own requests (R192 to R194). -/

namespace Sys2Proof.Machine

/-! ## Notices -/

/-- The notice age timer after an accepted fetch (R195). -/
def AgeTimer.afterFetch (t : AgeTimer) (empty : Bool) (limit : Nat) : AgeTimer :=
  match t with
  | .running _ => if empty then .preset else .running (limit * 1000)
  | t => t

/-- The removal of the oldest notices, the dropped count, ATTN and the timer (R201). -/
def State.fetch (s : State) (n : Nat) : State :=
  let rest := s.notices.stored.drop n
  (s.setNotices { s.notices with stored := rest, dropped := 0, attn := !rest.isEmpty }).setLink
    { s.link with ageTimer := s.link.ageTimer.afterFetch rest.isEmpty s.params.link.ageLimit }

/-- FETCH_NOTICES (R201). -/
def fetchNotices (count : Byte) (s : State) : State × Answer :=
  let n := count.toNat
  if n = 0 ∨ 16 < n then s.refuse .badValue
  else
    let taken := s.notices.stored.take n
    (s.fetch n).ok (u8 s.notices.dropped ++ u8 taken.length ++ u8 (s.notices.stored.drop n).length
      ++ (taken.map noticeBytes).flatten)

/-- SET_NOTICE_ENABLES; START stays enabled (R202). -/
def setNoticeEnables (marks : BitVec 24) (s : State) : State × Answer :=
  let m := marks ||| 0x800000#24
  (s.setEnables m).ok (u24 m.toNat)

/-! ## The census -/

/-- The number of units in a state. -/
def State.unitsIn (s : State) (st : UnitState) : Nat := s.units.toList.countP (·.state == st)

/-- The twelve states in the order of R3. -/
def allUnitStates : List UnitState :=
  [.unconfigured, .vacant, .locking, .held, .unlocking, .openHeld, .occupied, .cleaning, .forfeited, .jammed, .verify, .withdrawn]

/-- The summary of the state of the hall (R204). -/
def State.summary (s : State) : Summary where
  unitCounts := allUnitStates.map s.unitsIn
  fill := s.dir.length
  provisional := s.provisionalCount
  queueFill := s.arb.queue.length
  demands := s.arb.demands.length
  account := s.supply.account
  throttled := s.supply.throttled
  strings := s.strings.map fun c => (c.state, c.score)
  service := s.arb.service
  link := s.link.state
  evacuationActive := s.sweepActive .evacuation
  closingActive := s.sweepActive .closing
  notices := s.notices.stored.length
  dropped := s.notices.dropped
  timebase := s.time.timebase
  second := s.time.second
  valid := s.time.valid

/-- The next census number, from 65,535 to 1 (R204). -/
def nextCensus (n : Nat) : Nat := if 65535 ≤ n then 1 else n + 1

/-- CENSUS (R204). -/
def census (s : State) : State × Answer :=
  let n := nextCensus s.census.number
  (s.setCensus { number := n, snapshot := some (s.counters, s.summary) }).ok (u16 n ++ u32 s.time.timebase.toNat)

def StringCounters.bytes (n : StringCounters) : List Byte := u32 n.good ++ u32 n.misses ++ u32 n.clashes ++ u32 n.overruns

/-- The 46 bytes of the SUMMARY section (R209). -/
def Summary.bytes (m : Summary) : List Byte :=
  (m.unitCounts.map u8).flatten ++ u16 m.fill ++ u16 m.provisional ++ u8 m.queueFill ++ u8 m.demands ++ u16 m.account ++ flag m.throttled
    ++ (m.strings.toList.map fun x => u8 (stringStateCode x.1) ++ u16 x.2).flatten
    ++ u8 (serviceCode m.service) ++ flag (m.link == .standalone) ++ u8 (bits [m.evacuationActive, m.closingActive])
    ++ u8 m.notices ++ u8 m.dropped ++ u32 m.timebase.toNat ++ u24 m.second ++ flag m.valid

/-- A section of the snapshot; any other section code is outside its range (R204, R207, R209). -/
def censusSection? (sect : Byte) (c : Counters) (m : Summary) : Option (List Byte) :=
  match sect.toNat with
  | 0 => some (u32 c.accepted ++ u32 c.refused ++ u32 c.repeats)
  | 1 => some (u32 c.dispatched ++ u32 c.done ++ u32 c.doneLate ++ u32 c.jammed ++ u32 c.uncertain ++ u32 c.refusedByNode ++ u32 c.limited)
  | 2 => some ((c.strings.toList.map StringCounters.bytes).flatten)
  | 3 => some (u32 c.framesBad ++ u32 c.overruns ++ u32 c.noticesDropped)
  | 4 => some m.bytes
  | _ => none

/-- READ_CENSUS (R204). -/
def readCensus (sect : Byte) (s : State) : State × Answer :=
  if 4 < sect.toNat then s.refuse .badValue
  else match s.census.snapshot with
    | none => s.refuse .badState
    | some (c, m) =>
      if s.census.number = 0 then s.refuse .badState
      else s.ok (u16 s.census.number ++ (censusSection? sect c m).getD [])

/-- The counters with the groups of a selection at 0 (R205). -/
def Counters.cleared (c : Counters) (selection : Byte) : Counters :=
  let c := if selection.getLsbD 0 then { c with accepted := 0, refused := 0, repeats := 0 } else c
  let c := if selection.getLsbD 1 then
    { c with dispatched := 0, done := 0, doneLate := 0, jammed := 0, uncertain := 0, refusedByNode := 0, limited := 0 } else c
  let c := if selection.getLsbD 2 then { c with strings := Counters.zero.strings } else c
  if selection.getLsbD 3 then { c with framesBad := 0, overruns := 0, noticesDropped := 0 } else c

/-- CLEAR_COUNTERS (R205). -/
def clearCounters (selection : Byte) (s : State) : State × Answer :=
  if selection = 0 ∨ 15 < selection.toNat then s.refuse .badValue
  else (s.count fun c => c.cleared selection).ok []

/-! ## The Desk Link's own requests -/

/-- IDENTIFY (R194). -/
def identify (s : State) : State × Answer := s.ok Config.identity

/-- The check of the LINK group, policy apart (R192). -/
def LinkParams.good (p : LinkParams) : Bool := 2 ≤ p.ageLimit && p.ageLimit ≤ 120

/-- The 2 bytes of the LINK group (R208). -/
def LinkParams.bytes (p : LinkParams) : List Byte := u8 p.ageLimit ++ flag p.admitUnknown

/-- SET_PARAMETERS of the LINK group (R192). -/
def setLinkGroup (age policy : Byte) (s : State) : State × Answer :=
  match yesNo? policy with
  | none => s.refuse .badValue
  | some yes =>
    let p : LinkParams := ⟨age.toNat, yes⟩
    if p.good then (s.setParams { s.params with link := p }).ok p.bytes else s.refuse .badValue

/-- GET_PARAMETERS (R193). -/
def getParameters (group : Byte) (s : State) : State × Answer :=
  match group.toNat with
  | 1 => s.ok s.params.supply.bytes
  | 2 => s.ok s.params.strings.bytes
  | 3 => s.ok s.params.time.bytes
  | 4 => s.ok s.params.link.bytes
  | _ => s.refuse .badValue

end Sys2Proof.Machine
end

