-- ==== Sys2Proof/Machine/Link.lean ====
section
/-! DEFINITION. The Desk Link: the return of the link (R197), the forming of a reply (R187), the taking of a frame in hand (R186) with the request
types and lengths (R189, R191, R208), the receiver (R183), the placing of a frame (R185), the end of a reply (R188), and the age timer (R196). -/

namespace Sys2Proof.Machine

/-! ## Taking a frame in hand -/

/-- The link returns to LINKED (R197). -/
def State.relink (s : State) : State :=
  let s := s.setLink { s.link with state := .linked }
  let s := s.post { kind := .linkState, code := .link .linked, value := some s.provisionalCount }
  s.setLink { s.link with ageTimer := .running (s.params.link.ageLimit * 1000) }

/-- The body of a reply: the status, the link flags and the content (R187). -/
def State.replyBody (s : State) (a : Answer) (relinked : Bool) : List Byte := u8 a.status.code ++ u8 (s.linkFlags relinked) ++ a.content

/-- The reply is formed, and the overrun mark that it carries is cleared (R187). -/
def State.formReply (s : State) (f : Frame) (a : Answer) (relinked : Bool) : State :=
  s.setLink { s.link with overrun := false, reply := some (Frame.make f.tag (f.type + 0x80) (s.replyBody a relinked)) }

/-- Step 1 of R186: a link that stands STANDALONE returns. -/
def State.linkReturn (s : State) : State := if s.link.state = .standalone then s.relink else s

/-- A frame is taken in hand and answered (R186): the return of the link, the act, and the reply. -/
def State.takeInHand (s : State) (f : Frame) (act : State → State × Answer) : State :=
  let relinked := s.link.state == .standalone
  let r := act (s.setLink { s.link with inHand := some f }).linkReturn
  r.1.formReply f r.2 relinked

/-! ## The request types -/

/-- A request whose body has a wrong length (R186). -/
def badLength (s : State) : State × Answer := s.refuse .badLength

/-- SET_PARAMETERS from its body, with the checks of R191. -/
def setParameters (body : List Byte) (s : State) : State × Answer :=
  match body with
  | [] => badLength s
  | group :: fields =>
    match group.toNat with
    | 1 =>
      match fields with
      | [a1, a0, b1, b0, d, l1, l0, h1, h0, c1, c0] =>
        setSupplyGroup (ofBytes 16 [a1, a0]) (ofBytes 16 [b1, b0]) d (ofBytes 16 [l1, l0]) (ofBytes 16 [h1, h0]) (ofBytes 16 [c1, c0]) s
      | _ => badLength s
    | 2 =>
      match fields with
      | [base, mult, allowance, s1, s0, g1, g0, auto, interval] =>
        setStringsGroup base mult allowance (ofBytes 16 [s1, s0]) (ofBytes 16 [g1, g0]) auto interval s
      | _ => badLength s
    | 3 =>
      match fields with
      | [c2, c1, c0, enable, u1, u0, lockers, a1, a0, b1, b0, f1, f0, t1, t0, occupancy] =>
        setTimeGroup (ofBytes 24 [c2, c1, c0]) enable (ofBytes 16 [u1, u0]) lockers (ofBytes 16 [a1, a0]) (ofBytes 16 [b1, b0])
          (ofBytes 16 [f1, f0]) (ofBytes 16 [t1, t0]) occupancy s
      | _ => badLength s
    | 4 =>
      match fields with
      | [age, policy] => setLinkGroup age policy s
      | _ => badLength s
    | _ => s.refuse .badValue

/-- A request without a body. -/
def bodyless (act : State → State × Answer) : List Byte → State → State × Answer
  | [], s => act s
  | _, s => badLength s

/-- A request with a body of one byte. -/
def oneByte (act : Byte → State → State × Answer) : List Byte → State → State × Answer
  | [x], s => act x s
  | _, s => badLength s

/-- A request with a body of two bytes. -/
def twoBytes (act : Byte → Byte → State → State × Answer) : List Byte → State → State × Answer
  | [x, y], s => act x y s
  | _, s => badLength s

/-- A request with a body of three bytes. -/
def threeBytes (act : Byte → Byte → Byte → State → State × Answer) : List Byte → State → State × Answer
  | [x, y, z], s => act x y z s
  | _, s => badLength s

/-- A request whose body is a band ID. -/
def bandOnly (act : BandId → State → State × Answer) : List Byte → State → State × Answer
  | [b3, b2, b1, b0], s => act (ofBytes 32 [b3, b2, b1, b0]) s
  | _, s => badLength s

def configureUnitBody : List Byte → State → State × Answer
  | [unit, kind, string, node, zone, mode, interval], s => configureUnit unit kind string node zone mode interval s
  | _, s => badLength s

def listUnitsBody : List Byte → State → State × Answer
  | [s1, s0, filter, zone, start], s => listUnits (ofBytes 16 [s1, s0]) filter zone start s
  | _, s => badLength s

def registerBandBody : List Byte → State → State × Answer
  | [b3, b2, b1, b0, cls, group, v1, v0, lockers, cabins], s =>
    registerBand (ofBytes 32 [b3, b2, b1, b0]) cls group (ofBytes 16 [v1, v0]) lockers cabins s
  | _, s => badLength s

def amendBandBody : List Byte → State → State × Answer
  | [b3, b2, b1, b0, named, cls, group, lockers, cabins, v1, v0], s =>
    amendBand (ofBytes 32 [b3, b2, b1, b0]) (amendment named cls group lockers cabins (ofBytes 16 [v1, v0])) s
  | _, s => badLength s

def checkOutBandBody : List Byte → State → State × Answer
  | [b3, b2, b1, b0, mode], s => checkOutBand (ofBytes 32 [b3, b2, b1, b0]) mode s
  | _, s => badLength s

def transferBody : List Byte → State → State × Answer
  | [o3, o2, o1, o0, n3, n2, n1, n0], s => transferHoldings (ofBytes 32 [o3, o2, o1, o0]) (ofBytes 32 [n3, n2, n1, n0]) s
  | _, s => badLength s

def listBandsBody : List Byte → State → State × Answer
  | [selection, b3, b2, b1, b0], s => listBands selection (ofBytes 32 [b3, b2, b1, b0]) s
  | _, s => badLength s

/-- A second of day or a set of marks, three bytes. -/
def threeByteNumber (act : BitVec 24 → State → State × Answer) : List Byte → State → State × Answer
  | [b2, b1, b0], s => act (ofBytes 24 [b2, b1, b0]) s
  | _, s => badLength s

/-- The request types of R189, each with its owner's act; `none` for an unknown type. -/
def requestOf : Nat → Option (List Byte → State → State × Answer)
  | 0x01 => some (bodyless identify)
  | 0x02 => some setParameters
  | 0x03 => some (oneByte getParameters)
  | 0x10 => some configureUnitBody
  | 0x11 => some (oneByte removeUnit)
  | 0x12 => some (oneByte withdrawUnit)
  | 0x13 => some (oneByte restoreUnit)
  | 0x14 => some (oneByte markClean)
  | 0x15 => some (oneByte queryUnit)
  | 0x16 => some listUnitsBody
  | 0x20 => some registerBandBody
  | 0x21 => some amendBandBody
  | 0x22 => some checkOutBandBody
  | 0x23 => some (bandOnly reportLost)
  | 0x24 => some transferBody
  | 0x25 => some (bandOnly queryBand)
  | 0x26 => some listBandsBody
  | 0x27 => some (bodyless clearDirectory)
  | 0x30 => some (twoBytes demand)
  | 0x31 => some (oneByte cancelDemand)
  | 0x32 => some (bodyless quiesce)
  | 0x33 => some (bodyless resume)
  | 0x34 => some (oneByte queryDispatch)
  | 0x38 => some (oneByte querySupply)
  | 0x40 => some (oneByte restartString)
  | 0x41 => some (oneByte resetString)
  | 0x42 => some (threeBytes queryString)
  | 0x48 => some (twoBytes releaseZone)
  | 0x49 => some (bodyless stopSweep)
  | 0x4A => some (oneByte querySweep)
  | 0x50 => some (threeByteNumber setClock)
  | 0x51 => some (bodyless queryClock)
  | 0x60 => some (oneByte fetchNotices)
  | 0x61 => some (threeByteNumber setNoticeEnables)
  | 0x62 => some (bodyless census)
  | 0x63 => some (oneByte readCensus)
  | 0x64 => some (oneByte clearCounters)
  | _ => none

/-- Steps 2 to 4 of R186: the type, the length, and the owner. -/
def requestAct (f : Frame) (s : State) : State × Answer :=
  match requestOf f.type.toNat with
  | none => s.refuse .unknownRequest
  | some act => act f.body s

/-- A good frame of whatever type is taken in hand (R186). -/
def State.handle (s : State) (f : Frame) : State := s.takeInHand f (requestAct f)

/-! ## Placing frames -/

/-- A bad frame is discarded and counted (R184). -/
def State.badFrame (s : State) : State := s.count fun c => { c with framesBad := tally c.framesBad }

/-- A frame is discarded by overrun (R185). -/
def State.overrun (s : State) : State :=
  (s.setLink { s.link with overrun := true }).count fun c => { c with overruns := tally c.overruns }

/-- A complete frame is placed (R185). -/
def State.placeFrame (s : State) (f : Frame) : State :=
  if s.link.inHand.isSome ∧ s.link.waiting.isSome then s.overrun
  else if f.good = false then s.badFrame
  else if s.link.inHand.isSome then s.setLink { s.link with waiting := some f }
  else s.handle f

/-- The oldest frame that stands complete in the receiver is placed. -/
def State.frameComplete (s : State) : State :=
  match s.link.completed with
  | [] => s
  | f :: rest => (s.setLink { s.link with completed := rest }).placeFrame f

/-- The last byte of the reply has been sent: the frame in hand is released, and the waiting frame is taken (R188). -/
def State.replyEnd (s : State) : State :=
  if s.link.reply.isNone then s
  else
    let s := s.setLink { s.link with reply := none, inHand := none }
    match s.link.waiting with
    | none => s
    | some f => (s.setLink { s.link with waiting := none }).handle f

/-! ## The receiver -/

/-- The frame that the bytes after the start mark make, where its last CRC byte is among them (R183). -/
def frameOf : List Byte → Option Frame
  | l1 :: l0 :: tag :: type :: rest =>
    let n := 256 * l1.toNat + l0.toNat
    if rest.length = n + 2 then some { tag := tag, type := type, body := rest.take n, crc := ofBytes 16 (rest.drop n) } else none
  | _ => none

/-- The receiver hunts again. -/
def State.hunt (s : State) : State := s.setLink { s.link with receiver := .hunting }

/-- Whether the bytes after the start mark have just given a body length above 255 (R183). -/
def lengthBad (bytes : List Byte) : Bool :=
  match bytes with
  | [l1, l0] => 255 < 256 * l1.toNat + l0.toNat
  | _ => false

/-- A byte inside a frame being assembled (R183). -/
def State.assemble (s : State) (bytes : List Byte) : State :=
  if lengthBad bytes then s.hunt.badFrame
  else match frameOf bytes with
    | some f => s.setLink { s.link with receiver := .hunting, completed := s.link.completed ++ [f] }
    | none => s.setLink { s.link with receiver := .assembling bytes 20 }

/-- A character is taken by the receiver (R182, R183). -/
def State.character (s : State) (byte : Byte) (framingFault : Bool) : State :=
  match s.link.receiver with
  | .hunting =>
    if framingFault = false ∧ byte = 0xC3#8 then s.setLink { s.link with receiver := .assembling [] 20 } else s
  | .assembling bytes _ => if framingFault then s.hunt.badFrame else s.assemble (bytes ++ [byte])

/-- 20 ms have passed inside a frame (R183, R184). -/
def State.gapTimeout (s : State) : State :=
  match s.link.receiver with
  | .hunting => s
  | .assembling _ _ => s.hunt.badFrame

/-! ## The notice age timer -/

/-- The notice age timer runs out: STANDALONE (R196). -/
def State.ageExpiry (s : State) : State :=
  match s.link.ageTimer with
  | .running _ =>
    (s.setLink { s.link with state := .standalone, ageTimer := .held }).post
      { kind := .linkState, code := .link .standalone, value := some s.notices.stored.length }
  | _ => s

end Sys2Proof.Machine
end

