-- ==== Sys2Proof/Machine/Start.lean ====
section
/-! DEFINITION. The starts (R28 to R31), with the values that every block takes at a start (R55, R79, R107, R123, R151, R169, R181, R198, R206). -/

namespace Sys2Proof.Machine

/-- A unit record at a warm start (R31). -/
def UnitRecord.warm (r : UnitRecord) : UnitRecord :=
  { r with
    state := if r.state = .locking ∨ r.state = .unlocking then .verify else r.state
    occupied := false, tamper := false, door := none }

/-- The roster of a string that a table of units gives: an added node for each configured address, ascending (R125, R151). -/
def rosterOf (units : Vector UnitRecord 240) (i : StringId) : List NodeRecord :=
  units.toList.foldl (fun nodes r =>
    match r.config with
    | some c => if c.string = i then insertNode (NodeRecord.added c.node) nodes else nodes
    | none => nodes) []

/-- A String Controller at a start (R151). -/
def StringCtl.started (nodes : List NodeRecord) : StringCtl :=
  { StringCtl.idle with state := if nodes.isEmpty then .idle else .active, nodes := nodes }

/-- The values of a start, before START is stored, the rounds begin and the lines are read. Lines and waiting commands stand as they are. A decision still
in progress is dropped, with no outcome, notice or count (DESIGN CHOICE, log entry 3). -/
def State.startValues (s : State) (warm : Bool) : State :=
  let units := if warm then s.units.map UnitRecord.warm else Vector.replicate 240 UnitRecord.cold
  { units := units
    dir := if warm then s.dir else []
    decisions := []
    arb := { queue := [], demands := [], nextTag := 1, service := .running, urgent := false, urgencyTimer := none, grantPass := false }
    supply := { account := 0, throttled := false, lowLevel := false, limitLevel := false, lowSeen := false, limitSeen := false
                lowSince := 0 }
    strings := ⟨.started (rosterOf units .a), .started (rosterOf units .b), .started (rosterOf units .c), .started (rosterOf units .d)⟩
    sweeps := { evacuation := .cold, closing := .cold, alarm := false }
    time := { timebase := 0, toDrain := 10, toSecond := 1000, toMinute := 60000, minuteCount := 0, second := 0, valid := false }
    link := { receiver := .hunting, completed := [], inHand := none, waiting := none, reply := none, overrun := false, state := .linked
              ageTimer := .preset }
    notices := { stored := [], nextSeq := 0, dropped := 0, attn := false }
    enables := if warm then s.enables else 0xFFFFFF#24
    counters := .zero
    census := { number := 0, snapshot := none }
    params := if warm then s.params else .default
    pins := s.pins
    power := { on := true, codeMatches := true }
    pending := s.pending }

/-- The first round of a string that runs rounds (R151). -/
def State.firstRound (s : State) (i : StringId) : State := if (s.str i).running then s.beginRound i else s

/-- The lines are read: each stands deasserted until then (R119, R120, R123, R169). -/
def State.readLines (s : State) : State :=
  let s := s.takeCurrentLimit s.pins.currentLimit
  let s := s.takeSupplyLow s.pins.supplyLow
  s.takeAlarm s.pins.alarm

/-- A start: its values, the START notice first, the first rounds, and the lines (R29, R151, R206). -/
def State.start (s : State) (warm : Bool) : State :=
  let s := (s.startValues warm).post { kind := .start, code := .start warm }
  (allStrings.foldl State.firstRound s).readLines

/-- Main power fails: the part stops, and the code no longer matches where it had not yet been brought up to date (R28). -/
def State.powerLoss (s : State) (codeStale : Bool) : State :=
  if s.power.on then s.setPower { on := false, codeMatches := s.power.codeMatches && !codeStale } else s

/-- RET is lost while main power is absent (R28). -/
def State.retLoss (s : State) : State :=
  if s.power.on then s else s.setPower { s.power with codeMatches := false }

end Sys2Proof.Machine
end

