-- ==== Sys2Proof/Machine/BandCommands.lean ====
section
/-! DEFINITION. The band requests (R42 to R54). -/

namespace Sys2Proof.Machine

/-- REGISTER_BAND (R43, R44). -/
def execRegisterBand (tag : Byte) (band : BandId) (cls group : Byte) (validity : BitVec 16) (lockers cabins : Byte) (s : State) : Host.Outcome State Fault Refusal :=
  .next (s.whenOn fun s => s.takeInHand (Frame.make tag 0x20#8 (u32 band.toNat ++ [cls, group] ++ u16 validity.toNat ++ [lockers, cabins])) (registerBand band cls group validity lockers cabins))

/-- AMEND_BAND (R45, R46). -/
def execAmendBand (tag : Byte) (band : BandId) (named cls group lockers cabins : Byte) (validity : BitVec 16) (s : State) : Host.Outcome State Fault Refusal :=
  .next (s.whenOn fun s => s.takeInHand (Frame.make tag 0x21#8 (u32 band.toNat ++ [named, cls, group, lockers, cabins] ++ u16 validity.toNat)) (amendBand band (amendment named cls group lockers cabins validity)))

/-- CHECK_OUT_BAND (R47, R48). -/
def execCheckOutBand (tag : Byte) (band : BandId) (mode : Byte) (s : State) : Host.Outcome State Fault Refusal :=
  .next (s.whenOn fun s => s.takeInHand (Frame.make tag 0x22#8 (u32 band.toNat ++ [mode])) (checkOutBand band mode))

/-- REPORT_LOST (R49). -/
def execReportLost (tag : Byte) (band : BandId) (s : State) : Host.Outcome State Fault Refusal :=
  .next (s.whenOn fun s => s.takeInHand (Frame.make tag 0x23#8 (u32 band.toNat)) (reportLost band))

/-- TRANSFER_HOLDINGS (R50, R51). -/
def execTransferHoldings (tag : Byte) (old new : BandId) (s : State) : Host.Outcome State Fault Refusal :=
  .next (s.whenOn fun s => s.takeInHand (Frame.make tag 0x24#8 (u32 old.toNat ++ u32 new.toNat)) (transferHoldings old new))

/-- QUERY_BAND (R52). -/
def execQueryBand (tag : Byte) (band : BandId) (s : State) : Host.Outcome State Fault Refusal :=
  .next (s.whenOn fun s => s.takeInHand (Frame.make tag 0x25#8 (u32 band.toNat)) (queryBand band))

/-- LIST_BANDS (R53). -/
def execListBands (tag : Byte) (selection : Byte) (start : BandId) (s : State) : Host.Outcome State Fault Refusal :=
  .next (s.whenOn fun s => s.takeInHand (Frame.make tag 0x26#8 ([selection] ++ u32 start.toNat)) (listBands selection start))

/-- CLEAR_DIRECTORY (R54). -/
def execClearDirectory (tag : Byte) (s : State) : Host.Outcome State Fault Refusal :=
  .next (s.whenOn fun s => s.takeInHand (Frame.make tag 0x27#8 []) (clearDirectory))

end Sys2Proof.Machine
end

