-- ==== Sys2Proof/Machine/DispatchCommands.lean ====
section
/-! DEFINITION. The dispatch and supply requests, the grants, and the closing-urgency timer (R84 to R106, R122). -/

namespace Sys2Proof.Machine

/-- DEMAND (R84 to R87). -/
def execDemand (tag : Byte) (unit action : Byte) (s : State) : Host.Outcome State Fault Refusal :=
  .next (s.whenOn fun s => s.takeInHand (Frame.make tag 0x30#8 [unit, action]) (demand unit action))

/-- CANCEL_DEMAND (R89). -/
def execCancelDemand (tag : Byte) (demandTag : Byte) (s : State) : Host.Outcome State Fault Refusal :=
  .next (s.whenOn fun s => s.takeInHand (Frame.make tag 0x31#8 [demandTag]) (cancelDemand demandTag))

/-- QUIESCE (R103). -/
def execQuiesce (tag : Byte) (s : State) : Host.Outcome State Fault Refusal :=
  .next (s.whenOn fun s => s.takeInHand (Frame.make tag 0x32#8 []) (quiesce))

/-- RESUME (R105). -/
def execResume (tag : Byte) (s : State) : Host.Outcome State Fault Refusal :=
  .next (s.whenOn fun s => s.takeInHand (Frame.make tag 0x33#8 []) (resume))

/-- QUERY_DISPATCH (R106). -/
def execQueryDispatch (tag : Byte) (start : Byte) (s : State) : Host.Outcome State Fault Refusal :=
  .next (s.whenOn fun s => s.takeInHand (Frame.make tag 0x34#8 [start]) (queryDispatch start))

/-- QUERY_SUPPLY (R122). -/
def execQuerySupply (tag : Byte) (clear : Byte) (s : State) : Host.Outcome State Fault Refusal :=
  .next (s.whenOn fun s => s.takeInHand (Frame.make tag 0x38#8 [clear]) (querySupply clear))

/-- GRANT_RECORD (R99, R100). -/
def execGrantRecord (s : State) : Host.Outcome State Fault Refusal :=
  .next (s.whenOn fun s => s.lookRecord)

/-- GRANT_SWEEP_CANDIDATE (R99, R101). -/
def execGrantSweepCandidate (s : State) : Host.Outcome State Fault Refusal :=
  .next (s.whenOn fun s => s.lookOffer)

/-- CLOSING_URGENCY_TIMER_EXPIRY (R96). -/
def execClosingUrgencyTimerExpiry (s : State) : Host.Outcome State Fault Refusal :=
  .next (s.whenOn fun s => s.urgencyExpiry)

end Sys2Proof.Machine
end

