-- ==== Sys2Proof/Machine/LineCommands.lean ====
section
/-! DEFINITION. The commands of the three input lines (R119, R120, R153). The pin keeps its level without main power too. -/

namespace Sys2Proof.Machine

/-- ALARM_LEVEL_CHANGE (R153, R154). -/
def execAlarmLevelChange (asserted : Bool) (s : State) : Host.Outcome State Fault Refusal :=
  .next ((s.setPins { s.pins with alarm := asserted }).whenOn fun s => s.takeAlarm asserted)

/-- SUPPLY_LOW_CHANGE (R119). -/
def execSupplyLowChange (asserted : Bool) (s : State) : Host.Outcome State Fault Refusal :=
  .next ((s.setPins { s.pins with supplyLow := asserted }).whenOn fun s => s.takeSupplyLow asserted)

/-- CURRENT_LIMIT_CHANGE (R120). -/
def execCurrentLimitChange (asserted : Bool) (s : State) : Host.Outcome State Fault Refusal :=
  .next ((s.setPins { s.pins with currentLimit := asserted }).whenOn fun s => s.takeCurrentLimit asserted)

end Sys2Proof.Machine
end

