-- ==== Sys2Proof/Machine/LinkCommands.lean ====
section
/-! DEFINITION. The commands of the Desk Link: characters, frames, the end of a reply, the age timer, IDENTIFY and the parameters (R182 to R198). -/

namespace Sys2Proof.Machine

/-- FRAME_COMPLETE (R184, R185, R186). -/
def execFrameComplete (s : State) : Host.Outcome State Fault Refusal :=
  .next (s.whenOn fun s => s.frameComplete)

/-- FRAME_GAP_TIMEOUT (R183, R184). -/
def execFrameGapTimeout (s : State) : Host.Outcome State Fault Refusal :=
  .next (s.whenOn fun s => s.gapTimeout)

/-- REPLY_END (R188). -/
def execReplyEnd (s : State) : Host.Outcome State Fault Refusal :=
  .next (s.whenOn fun s => s.replyEnd)

/-- NOTICE_AGE_TIMER_EXPIRY (R196). -/
def execNoticeAgeTimerExpiry (s : State) : Host.Outcome State Fault Refusal :=
  .next (s.whenOn fun s => s.ageExpiry)

/-- CHARACTER_RECEIVED (R182, R183). -/
def execCharacterReceived (byte : Byte) (framingFault : Bool) (s : State) : Host.Outcome State Fault Refusal :=
  .next (s.whenOn fun s => s.character byte framingFault)

/-- IDENTIFY (R194). -/
def execIdentify (tag : Byte) (s : State) : Host.Outcome State Fault Refusal :=
  .next (s.whenOn fun s => s.takeInHand (Frame.make tag 0x01#8 []) (identify))

/-- SET_PARAMETERS naming the SUPPLY group (R116, R117, R191). -/
def execSetParametersSupply (tag : Byte) (kL kC : BitVec 16) (d : Byte) (lw hw c : BitVec 16) (s : State) : Host.Outcome State Fault Refusal :=
  .next (s.whenOn fun s => s.takeInHand (Frame.make tag 0x02#8 (u8 1 ++ u16 kL.toNat ++ u16 kC.toNat ++ [d] ++ u16 lw.toNat ++ u16 hw.toNat ++ u16 c.toNat)) (setSupplyGroup kL kC d lw hw c))

/-- SET_PARAMETERS naming the STRINGS group (R127, R191). -/
def execSetParametersStrings (tag : Byte) (base mult allowance : Byte) (settle gap : BitVec 16) (auto interval : Byte) (s : State) : Host.Outcome State Fault Refusal :=
  .next (s.whenOn fun s => s.takeInHand (Frame.make tag 0x02#8 (u8 2 ++ [base, mult, allowance] ++ u16 settle.toNat ++ u16 gap.toNat ++ [auto, interval])) (setStringsGroup base mult allowance settle gap auto interval))

/-- SET_PARAMETERS naming the TIME group (R176, R191). -/
def execSetParametersTime (tag : Byte) (closing : BitVec 24) (enable : Byte) (urgency : BitVec 16) (evacLockers : Byte)
    (guest child family staff : BitVec 16) (occupancy : Byte) (s : State) : Host.Outcome State Fault Refusal :=
  .next (s.whenOn fun s => s.takeInHand (Frame.make tag 0x02#8 (u8 3 ++ u24 closing.toNat ++ [enable] ++ u16 urgency.toNat ++ [evacLockers]
    ++ u16 guest.toNat ++ u16 child.toNat ++ u16 family.toNat ++ u16 staff.toNat ++ [occupancy])) (setTimeGroup closing enable urgency evacLockers guest child family staff occupancy))

/-- SET_PARAMETERS naming the LINK group (R191, R192). -/
def execSetParametersLink (tag : Byte) (age policy : Byte) (s : State) : Host.Outcome State Fault Refusal :=
  .next (s.whenOn fun s => s.takeInHand (Frame.make tag 0x02#8 (u8 4 ++ [age, policy])) (setLinkGroup age policy))

/-- GET_PARAMETERS (R193). -/
def execGetParameters (tag : Byte) (group : Byte) (s : State) : Host.Outcome State Fault Refusal :=
  .next (s.whenOn fun s => s.takeInHand (Frame.make tag 0x03#8 [group]) (getParameters group))

end Sys2Proof.Machine
end

