-- ==== Sys2Proof/Machine/PresentationCommands.lean ====
section
/-! DEFINITION. The acts of a decision (R60 to R78). -/

namespace Sys2Proof.Machine

/-- PRESENTATION_LOOKUP (R60 to R63). -/
def execPresentationLookup (str : StringId) (node : Nat) (s : State) : Host.Outcome State Fault Refusal :=
  .next (s.whenOn fun s => s.decide str node .lookup State.lookupAct)

/-- STANDALONE_ADMISSION (R38, R62). -/
def execStandaloneAdmission (str : StringId) (node : Nat) (s : State) : Host.Outcome State Fault Refusal :=
  .next (s.whenOn fun s => s.decide str node .admission State.admissionAct)

/-- PRESENTATION_UNIT_ACT (R60, R61, R64 to R72). -/
def execPresentationUnitAct (str : StringId) (node : Nat) (s : State) : Host.Outcome State Fault Refusal :=
  .next (s.whenOn fun s => s.decide str node .unitAct State.unitAct)

end Sys2Proof.Machine
end

