-- ==== Sys2Proof/Machine/ReportCommands.lean ====
section
/-! DEFINITION. The clock, notice and census requests (R174, R180, R201 to R205). -/

namespace Sys2Proof.Machine

/-- SET_CLOCK (R174). -/
def execSetClock (tag : Byte) (second : BitVec 24) (s : State) : Host.Outcome State Fault Refusal :=
  .next (s.whenOn fun s => s.takeInHand (Frame.make tag 0x50#8 (u24 second.toNat)) (setClock second))

/-- QUERY_CLOCK (R180). -/
def execQueryClock (tag : Byte) (s : State) : Host.Outcome State Fault Refusal :=
  .next (s.whenOn fun s => s.takeInHand (Frame.make tag 0x51#8 []) (queryClock))

/-- FETCH_NOTICES (R201). -/
def execFetchNotices (tag : Byte) (count : Byte) (s : State) : Host.Outcome State Fault Refusal :=
  .next (s.whenOn fun s => s.takeInHand (Frame.make tag 0x60#8 [count]) (fetchNotices count))

/-- SET_NOTICE_ENABLES (R202). -/
def execSetNoticeEnables (tag : Byte) (marks : BitVec 24) (s : State) : Host.Outcome State Fault Refusal :=
  .next (s.whenOn fun s => s.takeInHand (Frame.make tag 0x61#8 (u24 marks.toNat)) (setNoticeEnables marks))

/-- CENSUS (R204). -/
def execCensus (tag : Byte) (s : State) : Host.Outcome State Fault Refusal :=
  .next (s.whenOn fun s => s.takeInHand (Frame.make tag 0x62#8 []) (census))

/-- READ_CENSUS (R204). -/
def execReadCensus (tag : Byte) (sect : Byte) (s : State) : Host.Outcome State Fault Refusal :=
  .next (s.whenOn fun s => s.takeInHand (Frame.make tag 0x63#8 [sect]) (readCensus sect))

/-- CLEAR_COUNTERS (R205). -/
def execClearCounters (tag : Byte) (selection : Byte) (s : State) : Host.Outcome State Fault Refusal :=
  .next (s.whenOn fun s => s.takeInHand (Frame.make tag 0x64#8 [selection]) (clearCounters selection))

end Sys2Proof.Machine
end

