-- ==== Sys2Proof/Machine/StartCommands.lean ====
section
/-! DEFINITION. The commands of power, retention and RESET (R28, R29). -/

namespace Sys2Proof.Machine

/-- POWER_UP (R29, R30, R31). -/
def execPowerUp (s : State) : Host.Outcome State Fault Refusal :=
  .next (s.start s.power.codeMatches)

/-- RESET_PULSE (R29, R31: a warm start whatever the code; without main power there is no start). -/
def execResetPulse (s : State) : Host.Outcome State Fault Refusal :=
  .next (s.whenOn fun s => s.start true)

/-- MAIN_POWER_LOSS (R28). -/
def execMainPowerLoss (codeStale : Bool) (s : State) : Host.Outcome State Fault Refusal :=
  .next (s.powerLoss codeStale)

/-- RET_LOSS (R28). -/
def execRetLoss (s : State) : Host.Outcome State Fault Refusal :=
  .next (s.retLoss)

end Sys2Proof.Machine
end

