-- ==== Sys2Proof/Machine/StringCommands.lean ====
section
/-! DEFINITION. The string requests, the ends of exchanges, and the timers of a string (R129 to R150). -/

namespace Sys2Proof.Machine

/-- RESTART_STRING (R140). -/
def execRestartString (tag : Byte) (string : Byte) (s : State) : Host.Outcome State Fault Refusal :=
  .next (s.whenOn fun s => s.takeInHand (Frame.make tag 0x40#8 [string]) (restartString string))

/-- RESET_STRING (R149). -/
def execResetString (tag : Byte) (string : Byte) (s : State) : Host.Outcome State Fault Refusal :=
  .next (s.whenOn fun s => s.takeInHand (Frame.make tag 0x41#8 [string]) (resetString string))

/-- QUERY_STRING (R150). -/
def execQueryString (tag : Byte) (string start clear : Byte) (s : State) : Host.Outcome State Fault Refusal :=
  .next (s.whenOn fun s => s.takeInHand (Frame.make tag 0x42#8 [string, start, clear]) (queryString string start clear))

/-- ROUND_TIMER_EXPIRY (R129). -/
def execRoundTimerExpiry (str : StringId) (s : State) : Host.Outcome State Fault Refusal :=
  .next (s.whenOn fun s => s.roundExpiry str)

/-- NODE_REPLY_GOOD (R131, R133). -/
def execNodeReplyGood (str : StringId) (frame : List Byte) (s : State) : Host.Outcome State Fault Refusal :=
  .next (s.whenOn fun s => s.endExchange str (takeReply str frame))

/-- NODE_MISS (R131, R134). -/
def execNodeMiss (str : StringId) (received : List Byte) (s : State) : Host.Outcome State Fault Refusal :=
  .next (s.whenOn fun s => s.endExchange str fun x s => s.takeMiss str x (isClash x received))

/-- RECOVERY_TIMER_EXPIRY (R139). -/
def execRecoveryTimerExpiry (str : StringId) (s : State) : Host.Outcome State Fault Refusal :=
  .next (s.whenOn fun s => s.recoveryExpiry str)

/-- SETTLE_TIMER_EXPIRY (R144). -/
def execSettleTimerExpiry (str : StringId) (s : State) : Host.Outcome State Fault Refusal :=
  .next (s.whenOn fun s => s.settleExpiry str)

/-- GAP_TIMER_EXPIRY (R147). -/
def execGapTimerExpiry (str : StringId) (s : State) : Host.Outcome State Fault Refusal :=
  .next (s.whenOn fun s => s.gapExpiry str)

end Sys2Proof.Machine
end

