-- ==== Sys2Proof/Machine/SweepCommands.lean ====
section
/-! DEFINITION. The sweep requests, the walk that follows a grant, and the pause timer (R155 to R168). -/

namespace Sys2Proof.Machine

/-- RELEASE_ZONE (R155). -/
def execReleaseZone (tag : Byte) (zone filter : Byte) (s : State) : Host.Outcome State Fault Refusal :=
  .next (s.whenOn fun s => s.takeInHand (Frame.make tag 0x48#8 [zone, filter]) (releaseZone zone filter))

/-- STOP_SWEEP (R165). -/
def execStopSweep (tag : Byte) (s : State) : Host.Outcome State Fault Refusal :=
  .next (s.whenOn fun s => s.takeInHand (Frame.make tag 0x49#8 []) (stopSweep))

/-- QUERY_SWEEP (R168). -/
def execQuerySweep (tag : Byte) (slot : Byte) (s : State) : Host.Outcome State Fault Refusal :=
  .next (s.whenOn fun s => s.takeInHand (Frame.make tag 0x4A#8 [slot]) (querySweep slot))

/-- SWEEP_WALK (R157). -/
def execSweepWalk (slot : SlotId) (str : StringId) (s : State) : Host.Outcome State Fault Refusal :=
  .next (s.whenOn fun s => s.walk slot str)

/-- PAUSE_TIMER_EXPIRY (R164). -/
def execPauseTimerExpiry (slot : SlotId) (s : State) : Host.Outcome State Fault Refusal :=
  .next (s.whenOn fun s => s.pauseExpiry slot)

end Sys2Proof.Machine
end

