-- ==== Sys2Proof/Machine/TickCommands.lean ====
section
/-! DEFINITION. The commands of the ticks and of what falls at a tick (R114, R172, R175, R177 to R179, R36). -/

namespace Sys2Proof.Machine

/-- DRAIN_TICK (R114). -/
def execDrainTick (s : State) : Host.Outcome State Fault Refusal :=
  .next (s.whenOn fun s => s.drainTick)

/-- SECOND_TICK (R172, R175). -/
def execSecondTick (s : State) : Host.Outcome State Fault Refusal :=
  .next (s.whenOn fun s => s.secondTick)

/-- CLOSING_TIME (R175, R156). -/
def execClosingTime (s : State) : Host.Outcome State Fault Refusal :=
  .next (s.whenOn fun s => s.closingTime)

/-- MINUTE_TICK (R177, R178). -/
def execMinuteTick (s : State) : Host.Outcome State Fault Refusal :=
  .next (s.whenOn fun s => s.minuteTick)

/-- VALIDITY_COUNTDOWN (R36, R179). -/
def execValidityCountdown (s : State) : Host.Outcome State Fault Refusal :=
  .next (s.whenOn fun s => s.countDown)

/-- BAND_EXPIRED (R36). -/
def execBandExpired (band : BandId) (s : State) : Host.Outcome State Fault Refusal :=
  .next (s.whenOn fun s => s.expireBand band)

end Sys2Proof.Machine
end

