-- ==== Sys2Proof/Machine/UnitCommands.lean ====
section
/-! DEFINITION. The unit requests (R21 to R27). -/

namespace Sys2Proof.Machine

/-- CONFIGURE_UNIT (R21, R22). -/
def execConfigureUnit (tag : Byte) (unit kind string node zone mode interval : Byte) (s : State) : Host.Outcome State Fault Refusal :=
  .next (s.whenOn fun s => s.takeInHand (Frame.make tag 0x10#8 [unit, kind, string, node, zone, mode, interval]) (configureUnit unit kind string node zone mode interval))

/-- REMOVE_UNIT (R23). -/
def execRemoveUnit (tag : Byte) (unit : Byte) (s : State) : Host.Outcome State Fault Refusal :=
  .next (s.whenOn fun s => s.takeInHand (Frame.make tag 0x11#8 [unit]) (removeUnit unit))

/-- WITHDRAW_UNIT (R24). -/
def execWithdrawUnit (tag : Byte) (unit : Byte) (s : State) : Host.Outcome State Fault Refusal :=
  .next (s.whenOn fun s => s.takeInHand (Frame.make tag 0x12#8 [unit]) (withdrawUnit unit))

/-- RESTORE_UNIT (R25). -/
def execRestoreUnit (tag : Byte) (unit : Byte) (s : State) : Host.Outcome State Fault Refusal :=
  .next (s.whenOn fun s => s.takeInHand (Frame.make tag 0x13#8 [unit]) (restoreUnit unit))

/-- MARK_CLEAN (R25). -/
def execMarkClean (tag : Byte) (unit : Byte) (s : State) : Host.Outcome State Fault Refusal :=
  .next (s.whenOn fun s => s.takeInHand (Frame.make tag 0x14#8 [unit]) (markClean unit))

/-- QUERY_UNIT (R26). -/
def execQueryUnit (tag : Byte) (unit : Byte) (s : State) : Host.Outcome State Fault Refusal :=
  .next (s.whenOn fun s => s.takeInHand (Frame.make tag 0x15#8 [unit]) (queryUnit unit))

/-- LIST_UNITS (R27). -/
def execListUnits (tag : Byte) (states : BitVec 16) (filter zone start : Byte) (s : State) : Host.Outcome State Fault Refusal :=
  .next (s.whenOn fun s => s.takeInHand (Frame.make tag 0x16#8 (u16 states.toNat ++ [filter, zone, start])) (listUnits states filter zone start))

end Sys2Proof.Machine
end

