-- ==== Sys2Proof/Machine/Dispatch.lean ====
section
/-! DEFINITION. The meaning of each command: one call per constructor. -/

namespace Sys2Proof.Machine

/-- A command's effect on everything but the queue of waiting commands. -/
def exec (i : Instr) (s : State) : Host.Outcome State Fault Refusal :=
  match i with
  | .powerUp => Sys2Proof.Machine.execPowerUp s
  | .resetPulse => Sys2Proof.Machine.execResetPulse s
  | .alarmLevelChange asserted => Sys2Proof.Machine.execAlarmLevelChange asserted s
  | .supplyLowChange asserted => Sys2Proof.Machine.execSupplyLowChange asserted s
  | .currentLimitChange asserted => Sys2Proof.Machine.execCurrentLimitChange asserted s
  | .drainTick => Sys2Proof.Machine.execDrainTick s
  | .secondTick => Sys2Proof.Machine.execSecondTick s
  | .closingTime => Sys2Proof.Machine.execClosingTime s
  | .minuteTick => Sys2Proof.Machine.execMinuteTick s
  | .validityCountdown => Sys2Proof.Machine.execValidityCountdown s
  | .bandExpired band => Sys2Proof.Machine.execBandExpired band s
  | .frameComplete => Sys2Proof.Machine.execFrameComplete s
  | .frameGapTimeout => Sys2Proof.Machine.execFrameGapTimeout s
  | .replyEnd => Sys2Proof.Machine.execReplyEnd s
  | .noticeAgeTimerExpiry => Sys2Proof.Machine.execNoticeAgeTimerExpiry s
  | .identify tag => Sys2Proof.Machine.execIdentify tag s
  | .setParametersSupply tag kL kC d lw hw c => Sys2Proof.Machine.execSetParametersSupply tag kL kC d lw hw c s
  | .setParametersStrings tag base mult allowance settle gap auto interval => Sys2Proof.Machine.execSetParametersStrings tag base mult allowance settle gap auto interval s
  | .setParametersTime tag closing enable urgency evacLockers guest child family staff occupancy => Sys2Proof.Machine.execSetParametersTime tag closing enable urgency evacLockers guest child family staff occupancy s
  | .setParametersLink tag age policy => Sys2Proof.Machine.execSetParametersLink tag age policy s
  | .getParameters tag group => Sys2Proof.Machine.execGetParameters tag group s
  | .configureUnit tag unit kind string node zone mode interval => Sys2Proof.Machine.execConfigureUnit tag unit kind string node zone mode interval s
  | .removeUnit tag unit => Sys2Proof.Machine.execRemoveUnit tag unit s
  | .withdrawUnit tag unit => Sys2Proof.Machine.execWithdrawUnit tag unit s
  | .restoreUnit tag unit => Sys2Proof.Machine.execRestoreUnit tag unit s
  | .markClean tag unit => Sys2Proof.Machine.execMarkClean tag unit s
  | .queryUnit tag unit => Sys2Proof.Machine.execQueryUnit tag unit s
  | .listUnits tag states filter zone start => Sys2Proof.Machine.execListUnits tag states filter zone start s
  | .registerBand tag band cls group validity lockers cabins => Sys2Proof.Machine.execRegisterBand tag band cls group validity lockers cabins s
  | .amendBand tag band named cls group lockers cabins validity => Sys2Proof.Machine.execAmendBand tag band named cls group lockers cabins validity s
  | .checkOutBand tag band mode => Sys2Proof.Machine.execCheckOutBand tag band mode s
  | .reportLost tag band => Sys2Proof.Machine.execReportLost tag band s
  | .transferHoldings tag old new => Sys2Proof.Machine.execTransferHoldings tag old new s
  | .queryBand tag band => Sys2Proof.Machine.execQueryBand tag band s
  | .listBands tag selection start => Sys2Proof.Machine.execListBands tag selection start s
  | .clearDirectory tag => Sys2Proof.Machine.execClearDirectory tag s
  | .demand tag unit action => Sys2Proof.Machine.execDemand tag unit action s
  | .cancelDemand tag demandTag => Sys2Proof.Machine.execCancelDemand tag demandTag s
  | .quiesce tag => Sys2Proof.Machine.execQuiesce tag s
  | .resume tag => Sys2Proof.Machine.execResume tag s
  | .queryDispatch tag start => Sys2Proof.Machine.execQueryDispatch tag start s
  | .querySupply tag clear => Sys2Proof.Machine.execQuerySupply tag clear s
  | .restartString tag string => Sys2Proof.Machine.execRestartString tag string s
  | .resetString tag string => Sys2Proof.Machine.execResetString tag string s
  | .queryString tag string start clear => Sys2Proof.Machine.execQueryString tag string start clear s
  | .releaseZone tag zone filter => Sys2Proof.Machine.execReleaseZone tag zone filter s
  | .stopSweep tag => Sys2Proof.Machine.execStopSweep tag s
  | .querySweep tag slot => Sys2Proof.Machine.execQuerySweep tag slot s
  | .setClock tag second => Sys2Proof.Machine.execSetClock tag second s
  | .queryClock tag => Sys2Proof.Machine.execQueryClock tag s
  | .fetchNotices tag count => Sys2Proof.Machine.execFetchNotices tag count s
  | .setNoticeEnables tag marks => Sys2Proof.Machine.execSetNoticeEnables tag marks s
  | .census tag => Sys2Proof.Machine.execCensus tag s
  | .readCensus tag sect => Sys2Proof.Machine.execReadCensus tag sect s
  | .clearCounters tag selection => Sys2Proof.Machine.execClearCounters tag selection s
  | .roundTimerExpiry str => Sys2Proof.Machine.execRoundTimerExpiry str s
  | .nodeReplyGood str frame => Sys2Proof.Machine.execNodeReplyGood str frame s
  | .nodeMiss str received => Sys2Proof.Machine.execNodeMiss str received s
  | .recoveryTimerExpiry str => Sys2Proof.Machine.execRecoveryTimerExpiry str s
  | .settleTimerExpiry str => Sys2Proof.Machine.execSettleTimerExpiry str s
  | .gapTimerExpiry str => Sys2Proof.Machine.execGapTimerExpiry str s
  | .presentationLookup str node => Sys2Proof.Machine.execPresentationLookup str node s
  | .standaloneAdmission str node => Sys2Proof.Machine.execStandaloneAdmission str node s
  | .presentationUnitAct str node => Sys2Proof.Machine.execPresentationUnitAct str node s
  | .grantRecord => Sys2Proof.Machine.execGrantRecord s
  | .grantSweepCandidate => Sys2Proof.Machine.execGrantSweepCandidate s
  | .closingUrgencyTimerExpiry => Sys2Proof.Machine.execClosingUrgencyTimerExpiry s
  | .sweepWalk slot str => Sys2Proof.Machine.execSweepWalk slot str s
  | .pauseTimerExpiry slot => Sys2Proof.Machine.execPauseTimerExpiry slot s
  | .characterReceived byte framingFault => Sys2Proof.Machine.execCharacterReceived byte framingFault s
  | .mainPowerLoss codeStale => Sys2Proof.Machine.execMainPowerLoss codeStale s
  | .retLoss => Sys2Proof.Machine.execRetLoss s

end Sys2Proof.Machine
end

