-- ==== Sys2Proof/Machine/Idle.lean ====
section
/-! DEFINITION. What the part does when no command waits (DESIGN CHOICE, log entry 2): an act of its own that is due is put in the queue, and otherwise
one millisecond passes (R170, R171). -/

namespace Sys2Proof.Machine

/-! ## Acts that are due -/

/-- The command that takes the next act of a decision (R60). -/
def Decision.command (d : Decision) : Instr :=
  match d.stage with
  | .lookup => .presentationLookup d.str d.node
  | .admission => .standaloneAdmission d.str d.node
  | .unitAct => .presentationUnitAct d.str d.node

/-- A walk is due: the slot is WALKING, and the string's cursor stands below END with nothing on offer, as a grant leaves it (R161). -/
def State.walkDue (s : State) (k : SlotId) (i : StringId) : Bool :=
  (s.slot k).state == .walking && ((s.slot k).offers.get i).isNone && ((s.slot k).cursors.get i).isSome

/-- The walks that are due, those of EVACUATION before those of CLOSING, each slot's by string (DESIGN CHOICE, log entries 2 and 16). -/
def State.dueWalks (s : State) : List Instr :=
  [SlotId.evacuation, SlotId.closing].flatMap fun k => (allStrings.filter (s.walkDue k)).map (.sweepWalk k)

/-- The next look of a grant pass in progress (R99). -/
def State.dueGrant (s : State) : List Instr :=
  if s.arb.grantPass then
    match s.firstEligible with
    | some (.offer _ _ _) => [.grantSweepCandidate]
    | _ => [.grantRecord]
  else []

/-- The acts of the part's own that are due, in the order in which they are taken. -/
def State.due (s : State) : List Instr :=
  (if s.link.completed.isEmpty then [] else [.frameComplete]) ++ s.decisions.map Decision.command ++ s.dueWalks ++ s.dueGrant

/-! ## One millisecond -/

/-- A timer one millisecond later. -/
def timerDown (t : Option Nat) : Option Nat := t.map (· - 1)

/-- Whether a timer runs out at this millisecond. -/
def runsOut (t : Option Nat) : Bool := t.elim false (· ≤ 1)

/-- A command where a condition holds. -/
def orNot (c : Bool) (i : Instr) : List Instr := if c then [i] else []

def StringCtl.down (c : StringCtl) : StringCtl :=
  { c with
    roundTimer := timerDown c.roundTimer, settleTimer := timerDown c.settleTimer
    gapTimer := timerDown c.gapTimer, recoveryTimer := timerDown c.recoveryTimer }

/-- The timers of a string that run out. -/
def StringCtl.expiries (c : StringCtl) (i : StringId) : List Instr :=
  orNot (runsOut c.settleTimer) (.settleTimerExpiry i) ++ orNot (runsOut c.gapTimer) (.gapTimerExpiry i)
    ++ orNot (runsOut c.recoveryTimer) (.recoveryTimerExpiry i) ++ orNot (runsOut c.roundTimer) (.roundTimerExpiry i)

def SweepSlot.down (x : SweepSlot) : SweepSlot := { x with pause := timerDown x.pause }

def AgeTimer.down : AgeTimer → AgeTimer | .running left => .running (left - 1) | t => t

def AgeTimer.runsOut : AgeTimer → Bool | .running left => left ≤ 1 | _ => false

def Receiver.down : Receiver → Receiver | .assembling bytes left => .assembling bytes (left - 1) | r => r

def Receiver.runsOut : Receiver → Bool | .assembling _ left => left ≤ 1 | _ => false

/-- The milliseconds left to a tick, one millisecond later. -/
def phaseDown (period left : Nat) : Nat := if left ≤ 1 then period else left - 1

/-- The timebase and the ticks one millisecond later (R170, R171). -/
def TimeBlock.down (t : TimeBlock) : TimeBlock :=
  { t with
    timebase := t.timebase + 1
    toDrain := phaseDown 10 t.toDrain, toSecond := phaseDown 1000 t.toSecond, toMinute := phaseDown 60000 t.toMinute }

/-- The ticks that fall at this millisecond (R171). -/
def TimeBlock.ticks (t : TimeBlock) : List Instr :=
  orNot (t.toDrain ≤ 1) .drainTick ++ orNot (t.toSecond ≤ 1) .secondTick ++ orNot (t.toMinute ≤ 1) .minuteTick
    ++ orNot (t.toMinute ≤ 1) .validityCountdown

/-- Everything that falls at this millisecond. -/
def State.falls (s : State) : List Instr :=
  s.time.ticks ++ (allStrings.map fun i => (s.str i).expiries i).flatten
    ++ orNot (runsOut (s.slot .evacuation).pause) (.pauseTimerExpiry .evacuation)
    ++ orNot (runsOut (s.slot .closing).pause) (.pauseTimerExpiry .closing)
    ++ orNot (runsOut s.arb.urgencyTimer) .closingUrgencyTimerExpiry
    ++ orNot s.link.ageTimer.runsOut .noticeAgeTimerExpiry
    ++ orNot s.link.receiver.runsOut .frameGapTimeout

/-- One millisecond passes: the timebase and every running timer move, and what falls at it waits in the queue. -/
def State.millisecond (s : State) : State :=
  let t := s.setTime s.time.down
  let t := t.setStrings (t.strings.map StringCtl.down)
  let t := t.setSweeps { t.sweeps with evacuation := t.sweeps.evacuation.down, closing := t.sweeps.closing.down }
  let t := t.setArb { t.arb with urgencyTimer := timerDown t.arb.urgencyTimer }
  let t := t.setLink { t.link with ageTimer := t.link.ageTimer.down, receiver := t.link.receiver.down }
  t.setPending (t.pending ++ s.falls)

/-- What the part does when no command waits. -/
def State.idle (s : State) : State :=
  if s.power.on then
    match s.due with
    | c :: _ => s.setPending (s.pending ++ [c])
    | [] => s.millisecond
  else s

end Sys2Proof.Machine
end

