-- ==== Sys2Proof/Machine/Requests.lean ====
section
/-! DEFINITION. The frame of each request: what a host sends for it (R183, R189, R208). -/

namespace Sys2Proof

open Machine

/-- The frame of a request: its tag, its type, and its body laid out by R208. An event has no frame. -/
def Instr.frame? : Instr → Option Frame
  | .identify tag => some (Frame.make tag 0x01#8 [])
  | .setParametersSupply tag kL kC d lw hw c =>
    some (Frame.make tag 0x02#8
      (u8 1 ++ u16 kL.toNat ++ u16 kC.toNat ++ [d] ++ u16 lw.toNat ++ u16 hw.toNat ++ u16 c.toNat))
  | .setParametersStrings tag base mult allowance settle gap auto interval =>
    some (Frame.make tag 0x02#8
      (u8 2 ++ [base, mult, allowance] ++ u16 settle.toNat ++ u16 gap.toNat ++ [auto, interval]))
  | .setParametersTime tag closing enable urgency evacLockers guest child family staff occupancy =>
    some (Frame.make tag 0x02#8
      (u8 3 ++ u24 closing.toNat ++ [enable] ++ u16 urgency.toNat ++ [evacLockers] ++ u16 guest.toNat ++ u16 child.toNat ++ u16 family.toNat ++ u16 staff.toNat ++ [occupancy]))
  | .setParametersLink tag age policy => some (Frame.make tag 0x02#8 (u8 4 ++ [age, policy]))
  | .getParameters tag group => some (Frame.make tag 0x03#8 [group])
  | .configureUnit tag unit kind string node zone mode interval =>
    some (Frame.make tag 0x10#8
      [unit, kind, string, node, zone, mode, interval])
  | .removeUnit tag unit => some (Frame.make tag 0x11#8 [unit])
  | .withdrawUnit tag unit => some (Frame.make tag 0x12#8 [unit])
  | .restoreUnit tag unit => some (Frame.make tag 0x13#8 [unit])
  | .markClean tag unit => some (Frame.make tag 0x14#8 [unit])
  | .queryUnit tag unit => some (Frame.make tag 0x15#8 [unit])
  | .listUnits tag states filter zone start => some (Frame.make tag 0x16#8 (u16 states.toNat ++ [filter, zone, start]))
  | .registerBand tag band cls group validity lockers cabins =>
    some (Frame.make tag 0x20#8
      (u32 band.toNat ++ [cls, group] ++ u16 validity.toNat ++ [lockers, cabins]))
  | .amendBand tag band named cls group lockers cabins validity =>
    some (Frame.make tag 0x21#8
      (u32 band.toNat ++ [named, cls, group, lockers, cabins] ++ u16 validity.toNat))
  | .checkOutBand tag band mode => some (Frame.make tag 0x22#8 (u32 band.toNat ++ [mode]))
  | .reportLost tag band => some (Frame.make tag 0x23#8 (u32 band.toNat))
  | .transferHoldings tag old new => some (Frame.make tag 0x24#8 (u32 old.toNat ++ u32 new.toNat))
  | .queryBand tag band => some (Frame.make tag 0x25#8 (u32 band.toNat))
  | .listBands tag selection start => some (Frame.make tag 0x26#8 ([selection] ++ u32 start.toNat))
  | .clearDirectory tag => some (Frame.make tag 0x27#8 [])
  | .demand tag unit action => some (Frame.make tag 0x30#8 [unit, action])
  | .cancelDemand tag demandTag => some (Frame.make tag 0x31#8 [demandTag])
  | .quiesce tag => some (Frame.make tag 0x32#8 [])
  | .resume tag => some (Frame.make tag 0x33#8 [])
  | .queryDispatch tag start => some (Frame.make tag 0x34#8 [start])
  | .querySupply tag clear => some (Frame.make tag 0x38#8 [clear])
  | .restartString tag string => some (Frame.make tag 0x40#8 [string])
  | .resetString tag string => some (Frame.make tag 0x41#8 [string])
  | .queryString tag string start clear => some (Frame.make tag 0x42#8 [string, start, clear])
  | .releaseZone tag zone filter => some (Frame.make tag 0x48#8 [zone, filter])
  | .stopSweep tag => some (Frame.make tag 0x49#8 [])
  | .querySweep tag slot => some (Frame.make tag 0x4A#8 [slot])
  | .setClock tag second => some (Frame.make tag 0x50#8 (u24 second.toNat))
  | .queryClock tag => some (Frame.make tag 0x51#8 [])
  | .fetchNotices tag count => some (Frame.make tag 0x60#8 [count])
  | .setNoticeEnables tag marks => some (Frame.make tag 0x61#8 (u24 marks.toNat))
  | .census tag => some (Frame.make tag 0x62#8 [])
  | .readCensus tag sect => some (Frame.make tag 0x63#8 [sect])
  | .clearCounters tag selection => some (Frame.make tag 0x64#8 [selection])
  | .powerUp .. | .resetPulse .. | .alarmLevelChange .. | .supplyLowChange .. | .currentLimitChange .. | .drainTick .. |
  .secondTick .. | .closingTime .. | .minuteTick .. | .validityCountdown .. | .bandExpired .. | .frameComplete .. |
  .frameGapTimeout .. | .replyEnd .. | .noticeAgeTimerExpiry .. | .roundTimerExpiry .. | .nodeReplyGood .. | .nodeMiss .. |
  .recoveryTimerExpiry .. | .settleTimerExpiry .. | .gapTimerExpiry .. | .presentationLookup .. | .standaloneAdmission .. |
  .presentationUnitAct .. | .grantRecord .. | .grantSweepCandidate .. | .closingUrgencyTimerExpiry .. | .sweepWalk .. |
  .pauseTimerExpiry .. | .characterReceived .. | .mainPowerLoss .. | .retLoss .. => none

/-- The body length of each request, from the table of R208; SET_PARAMETERS is one byte longer than its group. An event has none. -/
def Instr.bodyLength : Instr → Option Nat
  | .identify .. | .clearDirectory .. | .quiesce .. | .resume .. | .stopSweep .. | .queryClock .. | .census .. => some 0
  | .getParameters .. | .removeUnit .. | .withdrawUnit .. | .restoreUnit .. | .markClean .. | .queryUnit .. | .cancelDemand .. |
  .queryDispatch .. | .querySupply .. | .restartString .. | .resetString .. | .querySweep .. | .fetchNotices .. | .readCensus ..
  | .clearCounters .. => some 1
  | .demand .. | .releaseZone .. => some 2
  | .setParametersLink .. | .queryString .. | .setClock .. | .setNoticeEnables .. => some 3
  | .reportLost .. | .queryBand .. => some 4
  | .listUnits .. | .checkOutBand .. | .listBands .. => some 5
  | .configureUnit .. => some 7
  | .transferHoldings .. => some 8
  | .setParametersStrings .. | .registerBand .. => some 10
  | .amendBand .. => some 11
  | .setParametersSupply .. => some 12
  | .setParametersTime .. => some 17
  | .powerUp .. | .resetPulse .. | .alarmLevelChange .. | .supplyLowChange .. | .currentLimitChange .. | .drainTick .. |
  .secondTick .. | .closingTime .. | .minuteTick .. | .validityCountdown .. | .bandExpired .. | .frameComplete .. |
  .frameGapTimeout .. | .replyEnd .. | .noticeAgeTimerExpiry .. | .roundTimerExpiry .. | .nodeReplyGood .. | .nodeMiss .. |
  .recoveryTimerExpiry .. | .settleTimerExpiry .. | .gapTimerExpiry .. | .presentationLookup .. | .standaloneAdmission .. |
  .presentationUnitAct .. | .grantRecord .. | .grantSweepCandidate .. | .closingUrgencyTimerExpiry .. | .sweepWalk .. |
  .pauseTimerExpiry .. | .characterReceived .. | .mainPowerLoss .. | .retLoss .. => none

end Sys2Proof
end

