-- ==== Sys2Proof/Safety.lean ====
section
/-! DEFINITION. The terms in which statements speak of the K240: which blocks of the state two states share, the request frames, and the properties
that every act of the part keeps. -/

namespace Sys2Proof.Machine

/-! ## Which blocks two states share -/

/-- The blocks of the state, one for each field. -/
inductive Block where
  | units | dir | decisions | arb | supply | strings | sweeps | time | link | notices | enables | counters | census | params | pins | power
  | pending
deriving DecidableEq, Repr

/-- Two states hold the same in a block. -/
def Block.same (s t : State) : Block → Prop
  | .units => t.units = s.units
  | .dir => t.dir = s.dir
  | .decisions => t.decisions = s.decisions
  | .arb => t.arb = s.arb
  | .supply => t.supply = s.supply
  | .strings => t.strings = s.strings
  | .sweeps => t.sweeps = s.sweeps
  | .time => t.time = s.time
  | .link => t.link = s.link
  | .notices => t.notices = s.notices
  | .enables => t.enables = s.enables
  | .counters => t.counters = s.counters
  | .census => t.census = s.census
  | .params => t.params = s.params
  | .pins => t.pins = s.pins
  | .power => t.power = s.power
  | .pending => t.pending = s.pending

/-- `t` differs from `s` in the listed blocks alone. -/
def Changes (bs : List Block) (s t : State) : Prop := ∀ b, b ∉ bs → b.same s t

end Sys2Proof.Machine

namespace Sys2Proof

/-- The blocks that a command can change: those of its own chapter, and for a request the Desk Link's, which holds the reply. Where a command posts a
notice, the Notice Queue, its counters and the age timer are among them. -/
def Instr.touches : Instr → List Machine.Block
  | .powerUp .. | .resetPulse .. =>
    [.units, .dir, .decisions, .arb, .supply, .strings, .sweeps, .time, .link, .notices, .enables, .counters, .census, .params, .power]
  | .alarmLevelChange .. =>
    [.units, .dir, .arb, .sweeps, .link, .notices, .counters, .pins]
  | .supplyLowChange .. =>
    [.arb, .supply, .link, .notices, .counters, .pins]
  | .currentLimitChange .. =>
    [.supply, .strings, .pins]
  | .drainTick .. =>
    [.arb, .supply]
  | .secondTick .. | .closingTime .. =>
    [.units, .dir, .arb, .sweeps, .time, .link, .notices, .counters]
  | .minuteTick .. =>
    [.units, .time, .link, .notices, .counters]
  | .validityCountdown .. | .bandExpired .. | .registerBand .. | .amendBand .. | .reportLost .. | .clearDirectory .. =>
    [.dir, .link, .notices, .counters]
  | .frameComplete .. | .replyEnd .. =>
    [.units, .dir, .arb, .supply, .strings, .sweeps, .time, .link, .notices, .enables, .counters, .census, .params]
  | .frameGapTimeout .. | .characterReceived .. =>
    [.link, .counters]
  | .noticeAgeTimerExpiry .. | .identify .. | .getParameters .. | .queryUnit .. | .listUnits .. | .queryBand .. | .listBands .. |
  .queryDispatch .. | .querySweep .. | .queryClock .. | .fetchNotices .. | .readCensus .. | .clearCounters .. =>
    [.link, .notices, .counters]
  | .setParametersSupply .. =>
    [.arb, .supply, .link, .notices, .counters, .params]
  | .setParametersStrings .. =>
    [.strings, .link, .notices, .counters, .params]
  | .setParametersTime .. | .setParametersLink .. =>
    [.link, .notices, .counters, .params]
  | .configureUnit .. | .removeUnit .. | .resetString .. | .nodeMiss .. | .settleTimerExpiry .. =>
    [.units, .dir, .arb, .strings, .sweeps, .link, .notices, .counters]
  | .withdrawUnit .. | .restoreUnit .. | .markClean .. =>
    [.units, .link, .notices, .counters]
  | .checkOutBand .. | .transferHoldings .. =>
    [.units, .dir, .link, .notices, .counters]
  | .demand .. | .cancelDemand .. =>
    [.units, .dir, .arb, .link, .notices, .counters]
  | .quiesce .. | .resume .. =>
    [.arb, .link, .notices, .counters]
  | .querySupply .. =>
    [.supply, .link, .notices, .counters]
  | .restartString .. | .recoveryTimerExpiry .. =>
    [.arb, .strings, .link, .notices, .counters]
  | .queryString .. =>
    [.strings, .link, .notices, .counters]
  | .releaseZone .. | .sweepWalk .. | .pauseTimerExpiry .. =>
    [.units, .dir, .arb, .sweeps, .link, .notices, .counters]
  | .stopSweep .. =>
    [.arb, .strings, .sweeps, .link, .notices, .counters]
  | .setClock .. =>
    [.time, .link, .notices, .counters]
  | .setNoticeEnables .. =>
    [.link, .notices, .enables, .counters]
  | .census .. =>
    [.link, .notices, .counters, .census]
  | .roundTimerExpiry .. =>
    [.strings, .counters]
  | .nodeReplyGood .. =>
    [.units, .dir, .decisions, .arb, .strings, .sweeps, .link, .notices, .counters]
  | .gapTimerExpiry .. =>
    [.arb, .strings]
  | .presentationLookup .. =>
    [.decisions, .strings, .link, .notices, .counters]
  | .standaloneAdmission .. =>
    [.dir, .decisions, .strings, .link, .notices, .counters]
  | .presentationUnitAct .. =>
    [.units, .dir, .decisions, .arb, .strings, .link, .notices, .counters]
  | .grantRecord .. =>
    [.arb, .supply, .strings, .counters]
  | .grantSweepCandidate .. =>
    [.units, .dir, .arb, .supply, .strings, .sweeps, .link, .notices, .counters]
  | .closingUrgencyTimerExpiry .. =>
    [.arb]
  | .mainPowerLoss .. | .retLoss .. =>
    [.power]

/-! ## Commands in turn -/

namespace Machine

/-- A notice that names a unit and its node (R199). -/
def State.unitNotice (s : State) (kind : NoticeKind) (u : Nat) (band : Option BandId) (code : NoticeCode) (value : Option Nat) : NoticeData :=
  { kind := kind, unit := some u, band := band
    string := (s.unit u).config.map (·.string), node := (s.unit u).config.map (·.node), code := code, value := value }

/-- The commands, taken one after another, lead from one state to another, each to a next state. -/
def Leads : List Instr → State → State → Prop
  | [], s, t => t = s
  | c :: cs, s, t => ∃ r, exec c s = .next r ∧ Leads cs r t

end Machine

/-! ## Requests -/

namespace Machine

/-- The body length of each request type of R189 but SET_PARAMETERS, as R208 gives it; `none` for every other type value. -/
def requestLength : Nat → Option Nat
  | 0x01 | 0x27 | 0x32 | 0x33 | 0x49 | 0x51 | 0x62 => some 0
  | 0x03 | 0x11 | 0x12 | 0x13 | 0x14 | 0x15 | 0x31 | 0x34 | 0x38 | 0x40 | 0x41 | 0x4A | 0x60 | 0x63 | 0x64 => some 1
  | 0x30 | 0x48 => some 2
  | 0x42 | 0x50 | 0x61 => some 3
  | 0x23 | 0x25 => some 4
  | 0x16 | 0x22 | 0x26 => some 5
  | 0x10 => some 7
  | 0x24 => some 8
  | 0x20 => some 10
  | 0x21 => some 11
  | _ => none

/-- The length of each parameter group (R208). -/
def groupLength : Nat → Option Nat
  | 1 => some 11 | 2 => some 9 | 3 => some 16 | 4 => some 2 | _ => none

/-- The state in which the owner of a request acts (R186, steps 1 and 4): the request's frame is in hand, and a link that stood STANDALONE has
returned to LINKED (R197), with its notice and its age timer. -/
def State.taken (s : State) (i : Instr) : State :=
  let s := { s with link := { s.link with inHand := i.frame? } }
  if s.link.state = .standalone then
    let s := { s with link := { s.link with state := .linked } }
    let s := s.post { kind := .linkState, code := .link .linked, value := some (s.dir.countP (·.provisional)) }
    { s with link := { s.link with ageTimer := .running (s.params.link.ageLimit * 1000) } }
  else s

end Machine

open Machine in
/-- A state `t` with the reply to the request `i` formed (R187): the tag of the request, its type plus 0x80, and a body of the status, the link flags
and the content; the overrun mark is cleared. `s` is the state before the request was taken, from which the RELINKED flag is read. -/
def Instr.reply (i : Instr) (s t : State) (status : Status) (content : List Byte) : State :=
  match i.frame? with
  | none => t
  | some f =>
    let flags := t.link.overrun.toNat + 2 * (!t.notices.stored.isEmpty).toNat + 4 * (s.link.state == .standalone).toNat
    let body := [BitVec.ofNat 8 status.code, BitVec.ofNat 8 flags] ++ content
    { t with link := { t.link with overrun := false, reply := some (Frame.make f.tag (f.type + 0x80#8) body) } }

/-! ## Reports in bytes -/

namespace Machine

/-- The byte of a name: its place in a list of the spec, counted from 0. -/
def place {α : Type} [BEq α] (names : List α) (x : α) : List Byte := u8 (names.idxOf x)

/-- The byte of a unit state, by the table of R3. -/
def stateByte (st : UnitState) : List Byte :=
  place [.unconfigured, .vacant, .locking, .held, .unlocking, .openHeld, .occupied, .cleaning, .forfeited, .jammed, .verify, .withdrawn] st

/-- The byte of a unit kind (R207). -/
def kindByte (k : UnitKind) : List Byte := place [.locker, .cabin] k

/-- The byte of a band class (R207). -/
def classByte (c : BandClass) : List Byte := place [.guest, .child, .family, .staff] c

/-- Bytes that stand for what is absent. -/
def zeros (n : Nat) : List Byte := List.replicate n 0#8

/-- The three fields of an intent in a unit report: cause, direction and return state (R209). -/
def intentFields (cause : Cause) (ret : UnitState) : List Byte :=
  place [.guestLock, .guestUnlock, .staffOpen, .staffLock, .staffFree, .evacuation, .closing] cause
    ++ u8 (if cause = .guestLock ∨ cause = .staffLock then 0 else 1) ++ stateByte ret

/-- The movement of a unit: none 0, queued 1, in flight 2 (R26, R209). -/
def State.movementOf (s : State) (u : Nat) : Nat :=
  if (s.strings.toList.any fun c => c.inFlight.elim false (·.unit == u)) = true then 2
  else if (s.arb.queue.any (·.unit == u)) = true then 1 else 0

/-- The 30 bytes of a unit report (R209). -/
def State.unitBytes (s : State) (u : Nat) : List Byte :=
  let r := s.unit u
  match r.config with
  | none => u8 u ++ stateByte r.state ++ zeros 28
  | some c =>
    let node := s.node? c.string c.node
    let under := r.intent.bind (·.under)
    u8 u ++ stateByte r.state
      ++ u8 (1 + 2 * r.holder.isSome.toNat + 4 * r.intent.isSome.toNat + 8 * under.isSome.toNat)
      ++ kindByte c.kind ++ place [StringId.a, .b, .c, .d] c.string ++ u8 c.node ++ u8 c.zone
      ++ place [UnitMode.single, .day, .freeUse] c.mode ++ u8 c.interval
      ++ r.holder.elim (zeros 4) (fun b => u32 b.toNat)
      ++ r.intent.elim (zeros 3) (fun i => intentFields i.cause i.ret)
      ++ under.elim (zeros 3) (fun i => intentFields i.cause i.ret)
      ++ u16 r.dwell
      ++ u8 (r.overstayReported.toNat + 2 * r.occupied.toNat + 4 * r.occupancyReported.toNat + 8 * r.tamper.toNat)
      ++ u16 r.occupancy ++ u8 r.uses
      ++ place [some Door.opened, some .closed, none] r.door
      ++ place [none, some Completion.done, some .doneLate, some .refusedByNode, some .jammed, some .uncertain] r.last
      ++ place [Presence.absent, .present, .silent] (node.elim .absent (·.presence))
      ++ u8 ((node.elim false (·.readerMark)).toNat + 2 * (node.elim false (·.actuatorMark)).toNat)
      ++ u8 (s.movementOf u)

/-- An entry of LIST_UNITS: a byte that says whether kind, zone and holder stand, then unit, state, kind, zone and holder (R27, R208). -/
def State.listedUnit (s : State) (u : Nat) : List Byte :=
  let r := s.unit u
  let stands := r.config.isSome.toNat
  u8 (stands + 2 * stands + 4 * r.holder.isSome.toNat) ++ u8 u ++ stateByte r.state
    ++ r.config.elim (zeros 2) (fun c => kindByte c.kind ++ u8 c.zone) ++ r.holder.elim (zeros 4) (fun b => u32 b.toNat)

/-- A list of holdings: their number, and for each unit, kind and state (R39, R208). -/
def State.holdingsListed (s : State) (us : List Nat) : List Byte :=
  u8 us.length ++ (us.map fun u => u8 u ++ (s.unit u).config.elim (zeros 1) (fun c => kindByte c.kind) ++ stateByte (s.unit u).state).flatten

/-- The byte of a band's marks: bit 0 expired, bit 1 lost, bit 2 provisional (R209). -/
def Band.marksByte (e : Band) : List Byte := u8 (e.expired.toNat + 2 * e.lost.toNat + 4 * e.provisional.toNat)

/-- The number of units of a kind among holdings. -/
def State.heldOf (s : State) (us : List Nat) (k : UnitKind) : Nat := us.countP fun u => (s.unit u).config.elim false (·.kind == k)

/-- The 14 + 3n bytes of a band report (R209). -/
def State.bandBytes (s : State) (e : Band) : List Byte :=
  u32 e.id.toNat ++ classByte e.cls ++ u8 e.group ++ u8 e.lockers ++ u8 e.cabins ++ u16 e.validity ++ e.marksByte
    ++ u8 (e.lockers - s.heldOf e.holdings .locker) ++ u8 (e.cabins - s.heldOf e.holdings .cabin) ++ s.holdingsListed e.holdings

end Machine

/-! ## Effects on a unit -/

namespace Machine

/-- The state that a unit enters for a target (R8). -/
def UnitRecord.adjusted (r : UnitRecord) (target : UnitState) : UnitState :=
  let free := if r.freeUse = true ∧ r.occupied = true then UnitState.occupied else .vacant
  match target with
  | .held => if r.holder = none then .forfeited else .held
  | .openHeld => if r.holder = none then free else .openHeld
  | .vacant => free
  | st => st

/-- A unit's record when its holder has been removed, where it had one (R4, R41). -/
def UnitRecord.freed (r : UnitRecord) : UnitRecord :=
  if r.holder = none then r else { r with holder := none, overstayReported := false }

/-- A unit's record when its intent has been withdrawn (R7). -/
def UnitRecord.withdrawn (r : UnitRecord) (i : Intent) : UnitRecord :=
  if i.cause = .guestLock ∧ i.ret = .vacant then { r.freed with intent := none, state := r.adjusted .vacant }
  else if i.ret = .jammed ∨ i.ret = .verify then { r with intent := i.under.map fun b => ⟨b.cause, b.ret, none⟩, state := i.ret }
  else { r with intent := none, state := r.adjusted i.ret }

/-- Whether a completion DONE removes the holder (R11). -/
def UnitRecord.releases (r : UnitRecord) (i : Intent) : Bool :=
  i.cause = .staffFree ∨ i.cause = .closing ∨ (i.cause = .guestUnlock ∧ r.config.map (·.mode) ≠ some .day)

/-- A unit's record when its intent has been done (R10, R11). -/
def UnitRecord.accomplished (r : UnitRecord) (i : Intent) : UnitRecord :=
  let origin := if i.ret = .jammed ∨ i.ret = .verify then i.under.elim i.ret (·.ret) else i.ret
  match i.cause with
  | .guestLock =>
    { r with intent := none, state := r.adjusted .held, dwell := if i.ret = .vacant ∧ r.holder ≠ none then 0 else r.dwell }
  | .staffLock => { r with intent := none, state := r.adjusted .held }
  | .guestUnlock =>
    if r.config.map (·.mode) = some .day then { r with intent := none, state := r.adjusted .openHeld }
    else { r.freed with intent := none, state := r.adjusted .vacant }
  | .staffFree | .closing => { r.freed with intent := none, state := r.adjusted .vacant }
  | .staffOpen | .evacuation =>
    { r with
      intent := none
      state := if r.holder ≠ none then .openHeld else if origin = .withdrawn then .withdrawn else if origin = .cleaning then .cleaning
        else r.adjusted .vacant }

/-- The Directory when a unit has been taken out of its holder's holdings (R4, R41). -/
def State.dirWithout (s : State) (u : Nat) : List Band :=
  s.dir.map fun e => if (s.unit u).holder = some e.id then { e with holdings := e.holdings.filter (· != u) } else e

/-- A unit's record is written, and where it then stands CLEANING, CLEANING_DUE is posted with its uses (R20). -/
def State.enters (s : State) (u : Nat) (r : UnitRecord) : State :=
  let t := s.setUnit u r
  if r.state = .cleaning then t.post { kind := .cleaningDue, unit := some u, value := some r.uses } else t

/-- A unit's intent is withdrawn (R7). -/
def State.withdrawn (s : State) (u : Nat) : State :=
  match (s.unit u).intent with
  | none => s
  | some i =>
    { s.enters u ((s.unit u).withdrawn i) with dir := if i.cause = .guestLock ∧ i.ret = .vacant then s.dirWithout u else s.dir }

/-- A unit's intent is done (R10, R11), with UNIT_RELEASED where a closing intent removes a holder (R163). -/
def State.accomplished (s : State) (u : Nat) : State :=
  match (s.unit u).intent with
  | none => s
  | some i =>
    let r := s.unit u
    let told := if i.cause = .closing ∧ r.holder ≠ none then
        s.post (s.unitNotice .unitReleased u r.holder (.released false) (some r.dwell)) else s
    { told.enters u (r.accomplished i) with dir := if r.releases i then s.dirWithout u else s.dir }

/-- The Tenancy Table takes an outcome (R9 to R13, R15): last completion, ACTUATION_DONE with the holder as it stood, and the effect. -/
def State.outcomeTaken (s : State) (u : Nat) (o : Completion) (limited : Bool) : State :=
  let r := { s.unit u with last := some o }
  let t := (s.setUnit u r).post
    (s.unitNotice .actuationDone u r.holder (.completion o) (r.intent.map fun i => causeCode i.cause + if limited then 256 else 0))
  match o with
  | .done | .doneLate => t.accomplished u
  | .refusedByNode => t.withdrawn u
  | .jammed => t.setUnit u { r with state := .jammed }
  | .uncertain => t.setUnit u { r with state := .verify }

/-- An intent of a cause is taken (R5). -/
def UnitRecord.intends (r : UnitRecord) (cause : Cause) : UnitRecord :=
  { r with
    state := if cause = .guestLock ∨ cause = .staffLock then .locking else .unlocking
    intent := some ⟨cause, r.state, if r.state = .jammed ∨ r.state = .verify then r.intent.map fun i => i.under.getD ⟨i.cause, i.ret⟩
      else none⟩ }

/-- A record is admitted in the act that takes the unit's intent, and a grant pass is started (R5, R81, R82, R99). -/
def State.recordTaken (s : State) (u : Nat) (cause : Cause) (origin : Origin) (semantics : Option StaffAction) (band : Option BandId)
    (tag : Option Nat) : State :=
  let t := s.setUnit u ((s.unit u).intends cause)
  let r : ActRecord :=
    { unit := u, direction := if cause = .guestLock ∨ cause = .staffLock then .lock else .unlock, origin := origin
      semantics := semantics, band := band, tag := tag, enqueuedAt := s.time.timebase }
  { t with arb := { s.arb with queue := s.arb.queue ++ [r], grantPass := true } }

/-- A unit's queued guest record is removed and withdrawn, with GUEST_WITHDRAWN (R90, R93). -/
def State.guestWithdrawn (s : State) (u : Nat) (why : WithdrawReason) : State :=
  match s.arb.queue.find? fun r => r.unit == u && r.origin != .staff with
  | none => s
  | some r =>
    let t : State := { s with arb := { s.arb with queue := s.arb.queue.filter (·.unit != u) } }
    (t.withdrawn u).post (s.unitNotice .guestWithdrawn u r.band (.withdrawn why) (some (originCode r.origin)))

/-- The next tag after one is taken: the first value after it, from 255 back to 1, that no outstanding demand holds (R83). -/
def NextTag (tag : Nat) (demands : List Demand) (next : Nat) : Prop :=
  ∃ k, next = (tag + k) % 255 + 1 ∧ (∀ d ∈ demands, d.tag ≠ next) ∧ ∀ j, j < k → ∃ d ∈ demands, d.tag = (tag + j) % 255 + 1

/-! ## The end of an actuation, of a pass and of a sweep -/

/-- A sweep ends (R165), and what its end does at the Arbiter (R96, R99). -/
def State.sweepEnded (s : State) (k : SlotId) (e : Ending) : State :=
  let x := s.slot k
  let t := (s.setSlot k
    { x with
      state := .inactive, cursors := ⟨none, none, none, none⟩, offers := ⟨none, none, none, none⟩, visit := [], marks := []
      inFlight := 0, pause := none, result := some ⟨e, x.issued, x.done, x.missed⟩ }).post
    { kind := .sweepDone, code := .ending e, value := some x.missed }
  match k with
  | .closing => { t with arb := { t.arb with urgent := false, urgencyTimer := none } }
  | .evacuation => { t with arb := { t.arb with grantPass := true } }

/-- The test for the end of a pass, and what follows where it holds (R164). -/
def State.passTested (s : State) (k : SlotId) : State :=
  let x := s.slot k
  let limit := match k with | .closing => 3 | .evacuation => 8
  if x.state = .walking ∧ x.cursors = ⟨none, none, none, none⟩ ∧ x.offers = ⟨none, none, none, none⟩ ∧ x.inFlight = 0 then
    if x.marks = [] then s.sweepEnded k (match k with | .closing => .closingComplete | .evacuation => .evacuationComplete)
    else if x.pass < limit then s.setSlot k { x with state := .paused, pause := some 2000 }
    else (s.setSlot k { x with missed := x.missed + x.marks.length }).sweepEnded k
      (match k with | .closing => .closingPassLimit | .evacuation => .evacuationPassLimit)
  else s

/-- A completion that is still attached to its slot is counted there (R163). -/
def State.sweepCounted (s : State) (slot : Option SlotId) (o : Completion) : State :=
  match slot with
  | none => s
  | some k =>
    let x := s.slot k
    (s.setSlot k
      { x with
        inFlight := x.inFlight - 1, done := if o = .done then x.done + 1 else x.done
        missed := if o = .done then x.missed else x.missed + 1 }).passTested k

/-- The demand that an actuation served is closed, with DEMAND_DONE (R88). -/
def State.demandClosed (s : State) (tag : Option Nat) (holder : Option BandId) (e : DemandEnd) : State :=
  match s.arb.demands.find? fun d => tag == some d.tag with
  | none => s
  | some d =>
    let t : State := { s with arb := { s.arb with demands := s.arb.demands.filter (·.tag != d.tag) } }
    t.post (s.unitNotice .demandDone d.unit holder (.demand e) (some d.tag))

/-- A QUIESCING Arbiter with no actuation in flight on any string enters QUIESCED, with its notice (R104). -/
def State.quiesceTested (s : State) : State :=
  if s.arb.service = .quiescing ∧ ∀ i ∈ allStrings, (s.str i).inFlight = none then
    ({ s with arb := { s.arb with service := .quiesced } } : State).post { kind := .quiesced, value := some s.arb.queue.length }
  else s

/-- A string's actuation in flight is completed (R146, R147), with the effects of its outcome: the counters, the string and its gap, the unit (R9),
the demand (R88), the sweep (R163) and the test for QUIESCED (R104), in this order. In the act of going OFF or of a reset the gap timer stays `cleared`;
a gap of 0 ms elapses in the act, and the line is held for the grant pass that follows. -/
def State.ended (s : State) (i : StringId) (o : Completion) (cleared : Bool) : State :=
  match (s.str i).inFlight with
  | none => s
  | some f =>
    let more := fun (b : Bool) n => if b then min 4294967295 (n + 1) else n
    let gap := s.params.strings.gap
    let now := !cleared && gap == 0
    let c := s.counters
    let t : State :=
      { s with
        counters := { c with
          done := more (o == .done) c.done, refusedByNode := more (o == .refusedByNode) c.refusedByNode
          jammed := more (o == .jammed) c.jammed, uncertain := more (o == .uncertain) c.uncertain, limited := more f.limited c.limited }
        strings := s.strings.set i
          { s.str i with inFlight := none, settleTimer := none, gapTimer := if cleared = true ∨ gap = 0 then none else some gap, held := now }
        arb := { s.arb with grantPass := s.arb.grantPass || now } }
    (((t.outcomeTaken f.unit o f.limited).demandClosed f.tag (s.unit f.unit).holder
      (match o with
        | .done | .doneLate => .done | .refusedByNode => .refusedByNode | .jammed => .jammed | .uncertain => .uncertain)).sweepCounted
          f.slot o).quiesceTested

/-! ## The end of a decision -/

/-- A decision ends in an outcome (R60, R73, R74, R76, R77, R78). -/
def State.decided (s : State) (d : Decision) (o : PresentationOutcome) : State :=
  let accepted := o ∈ [PresentationOutcome.acceptedLock, .acceptedOpen, .staffRelease, .cleaned]
  let code := if accepted then Indicator.green else if o ∈ [PresentationOutcome.serviceSuspended, .unitBusy, .queueFull] then .amber else .red
  let c := s.str d.str
  let written : State :=
    if s.presence d.str d.node = .absent then s
    else
      { s with
        strings := s.strings.set d.str
          { c with
            nodes := c.nodes.map fun n => if n.addr = d.node then { n with pending := code } else n
            exchange := c.exchange.map fun x => if x.node = d.node then { x with replaced := true } else x } }
  let seen : NoticeData := { kind := .lostBandSeen, unit := some d.unit, band := some d.band, string := some d.str, node := some d.node }
  let shown : NoticeData :=
    { seen with kind := .presentation, code := .outcome o, value := some (d.seq + if d.admitted then 256 else 0) }
  let t := (if o = .bandLost then written.post seen else written).post shown
  { t with
    counters := if accepted then { t.counters with accepted := min 4294967295 (t.counters.accepted + 1) }
      else { t.counters with refused := min 4294967295 (t.counters.refused + 1) }
    decisions := s.decisions.filter fun e => ¬(e.str = d.str ∧ e.node = d.node) }

/-- Guest service is suspended at a decision's node (R61), the cleaning of a CLEANING unit by staff apart. -/
def State.suspendedFor (s : State) (d : Decision) (staff : Bool) : Bool :=
  Decidable.decide (s.sweeps.alarm = true ∨ s.sweeps.evacuation.state ≠ .inactive ∨ s.arb.service ≠ .running ∨ (s.str d.str).state = .degraded
      ∨ s.presence d.str d.node = .absent)
    && !Decidable.decide (staff = true ∧ (s.unit d.unit).state = .cleaning)

/-- Two bands are group-mates (R35): both entries have the same group, which is not 0, and the bands differ. -/
def State.mates (s : State) (b h : BandId) : Bool :=
  match s.dir.find? (·.id == b), s.dir.find? (·.id == h) with
  | some x, some y => Decidable.decide (b ≠ h ∧ x.group ≠ 0 ∧ x.group = y.group)
  | _, _ => false

/-- The outcome of the unit act, in the order of R69: step 1 (R61), the entry, the staff step (R70), and steps 5 to 11 (R64 to R68). -/
def State.verdict (s : State) (d : Decision) : PresentationOutcome :=
  let r := s.unit d.unit
  let full := 32 ≤ s.arb.queue.length
  let kind := r.config.elim UnitKind.locker (·.kind)
  if s.suspendedFor d d.staff = true then .serviceSuspended
  else match s.dir.find? (·.id == d.band) with
    | none => .unknownBand
    | some e =>
      if d.staff = true then
        match r.state with
        | .jammed | .forfeited => if full then .queueFull else .staffRelease
        | .cleaning => .cleaned
        | .vacant | .occupied => .staffNoHold
        | .held | .openHeld => .notHolder
        | .locking | .unlocking | .verify => .unitBusy
        | .unconfigured | .withdrawn => .outOfService
      else if r.state ∈ [.unconfigured, .withdrawn, .jammed, .forfeited, .cleaning] then .outOfService
      else if r.freeUse = true ∨ r.state = .occupied then .notBookable
      else if r.state ∈ [.locking, .unlocking, .verify] then .unitBusy
      else if r.state = .vacant then
        if e.expired = true then .bandExpired
        else if r.door = some .opened then .doorOpen
        else if e.lost = true then .bandLost
        else if (match kind with | .locker => e.lockers | .cabin => e.cabins) ≤ s.heldOf e.holdings kind then .allowanceUsed
        else if full then .queueFull
        else .acceptedLock
      else if ¬(r.holder = some d.band ∨ ∃ h ∈ r.holder, s.mates d.band h = true) then .notHolder
      else if r.state = .held then if full then .queueFull else .acceptedOpen
      else if r.door = some .opened then .doorOpen
      else if full then .queueFull
      else .acceptedLock

/-- What an outcome of the unit act does to the unit, its band and the queue (R6, R65, R66, R67, R71, R72): nothing, for a refusal. -/
def State.presented (s : State) (d : Decision) (o : PresentationOutcome) : State :=
  let u := d.unit
  let r := s.unit u
  match o with
  | .acceptedLock =>
    let bound : State :=
      { s.setUnit u { r with holder := some d.band, dwell := 0 } with
        dir := s.dir.map fun e => if e.id = d.band then { e with holdings := e.holdings ++ [u] } else e }
    (if r.state = .vacant then bound else s).recordTaken u .guestLock .guestLock none (some d.band) none
  | .acceptedOpen => s.recordTaken u .guestUnlock .guestUnlock none (some d.band) none
  | .staffRelease => s.recordTaken u .staffFree .staff (some .freeUnit) (some d.band) none
  | .cleaned => s.setUnit u { r with uses := 0, state := r.adjusted .vacant }
  | _ => s

/-! ## Node reports and sweep visits -/

/-- A cabin that has stood FREE_USE and OCCUPIED without a report since the last start keeps its minutes (R19), also where a demand has taken it
from OCCUPIED to UNLOCKING before its first report (log entry 23). -/
def UnitRecord.unseen (r : UnitRecord) : Bool :=
  Decidable.decide (r.freeUse = true ∧ (r.state = .occupied ∨ (r.state = .unlocking ∧ r.intent.map (·.ret) = some .occupied)))

/-- A unit's record when a node report has been seen, before the bolt resolves anything: the door (R17), tamper (R18), the occupied flag (R19), and
the inside bolt of a FREE_USE cabin (R20). -/
def UnitRecord.seen (r : UnitRecord) (door : Door) (bolt : Bolt) (inside : InsideBolt) : UnitRecord :=
  let cabin : Bool := r.config.elim false (·.kind == .cabin)
  let begins : Bool := cabin && inside == .engaged && !r.occupied && !r.unseen
  let ends : Bool := cabin && inside == .free && r.occupied
  let seen : UnitRecord :=
    { r with
      door := some door
      tamper := Decidable.decide (door = .opened) && (r.tamper || Decidable.decide ((r.state = .held ∨ r.state = .forfeited) ∧ bolt = .locked))
      occupied := if cabin = true then Decidable.decide (inside = .engaged) else r.occupied
      occupancy := if begins = true then 0 else r.occupancy
      occupancyReported := if begins = true ∨ ends = true then false else r.occupancyReported }
  let used : UnitRecord := { seen with uses := min 255 (r.uses + 1) }
  let interval := r.config.elim 0 (·.interval)
  let after := if interval ≠ 0 ∧ interval ≤ used.uses then UnitState.cleaning else .vacant
  if r.freeUse = false then seen
  else if r.state = .vacant ∧ inside = .engaged then { seen with state := .occupied }
  else if r.state = .occupied ∧ inside = .free then { used with state := used.adjusted after }
  else if r.state ∈ [.unlocking, .jammed, .verify] ∧ inside = .free then
    match r.intent with
    | none => seen
    | some i =>
      if i.ret = .occupied then { used with intent := some { i with ret := after } }
      else match i.under with
        | some b =>
          if (i.ret = .jammed ∨ i.ret = .verify) ∧ b.ret = .occupied then
            { used with intent := some { i with under := some { b with ret := after } } }
          else seen
        | none => seen
  else seen

/-- The settled position that an intent's direction calls for (R2). -/
def Cause.bolt (c : Cause) : Bolt := if c = .guestLock ∨ c = .staffLock then .locked else .unlocked

/-- A unit's record after a node report: as it is when the report has been seen, and then the resolution of VERIFY (R14) and JAMMED (R15) by the
bolt. -/
def UnitRecord.reported (r : UnitRecord) (door : Door) (bolt : Bolt) (inside : InsideBolt) : UnitRecord :=
  let followed := r.seen door bolt inside
  match followed.intent with
  | none => followed
  | some i =>
    if followed.state = .verify ∧ bolt ≠ .moving then
      if bolt = i.cause.bolt then { followed with last := some .done }.accomplished i
      else { followed with last := some .refusedByNode }.withdrawn i
    else if followed.state = .jammed ∧ bolt = i.cause.bolt then { followed with last := some .doneLate }.accomplished i
    else followed

/-- A unit takes a node report (R14, R15, R17 to R20), with TAMPER, CLEANING_DUE, UNIT_VERIFIED and the late completion of a JAMMED
unit. The bolt is examined once (log entry 29), and CLEANING_DUE stored after UNIT_VERIFIED or ACTUATION_DONE (log entry 17). -/
def State.reportTaken (s : State) (u : Nat) (door : Door) (bolt : Bolt) (inside : InsideBolt) : State :=
  let r := s.unit u
  let next := r.seen door bolt inside
  let told :=
    if door = .opened ∧ (r.state = .held ∨ r.state = .forfeited) ∧ bolt = .locked ∧ r.tamper = false then
      s.post (s.unitNotice .tamper u r.holder (.tampered (r.state == .forfeited)) none)
    else s
  let t := if r.state = .occupied then told.enters u next else told.setUnit u next
  match next.intent with
  | none => t
  | some i =>
    let reached := bolt == i.cause.bolt
    if next.state = .verify ∧ bolt ≠ .moving then
      let v := (t.setUnit u { next with last := some (if reached then .done else .refusedByNode) }).post
        (t.unitNotice .unitVerified u next.holder (.verdict (!reached)) (some (causeCode i.cause)))
      if reached then v.accomplished u else v.withdrawn u
    else if next.state = .jammed ∧ reached = true then
      ({ t with counters := { t.counters with doneLate := min 4294967295 (t.counters.doneLate + 1) } } : State).outcomeTaken u .doneLate false
    else t

/-- An OPEN_HELD unit is released at once by a closing visit (R16, R157), with UNIT_RELEASED (R163). -/
def State.releasedOpen (s : State) (k : SlotId) (u : Nat) : State :=
  let r := s.unit u
  let told := if r.holder = none then s else s.post (s.unitNotice .unitReleased u r.holder (.released true) (some r.dwell))
  let t := told.setUnit u { r.freed with state := r.adjusted .vacant }
  { t.setSlot k { s.slot k with done := (s.slot k).done + 1 } with dir := s.dirWithout u }

/-- What a judgement does in a visit (R157), and at a hand-back, where a unit that would be offered is marked (R161). -/
def State.judged (s : State) (k : SlotId) (u : Nat) (j : SweepJudgement) : State :=
  match j with
  | .passBy => s
  | .releaseAtOnce => s.releasedOpen k u
  | .markForRepeat | .offer => s.setSlot k { s.slot k with marks := insertUnit u (s.slot k).marks }

/-- A visit begins: an evacuation supersedes the unit's queued guest record (R93, R159). -/
def State.visited (s : State) (k : SlotId) (u : Nat) : State :=
  match k with | .evacuation => s.guestWithdrawn u .superseded | .closing => s

/-! ## Candidates dropped -/

/-- A slot's candidate for a string is taken off offer, with or without a repeat mark, and with no CLOSING candidate left the urgency flag is cleared and
its timer stopped (R96, R162). -/
def State.offOffer (s : State) (k : SlotId) (i : StringId) (mark : Bool) : State :=
  let x := s.slot k
  match x.offers.get i with
  | none => s
  | some o =>
    let off := x.offers.set i none
    let t := s.setSlot k { x with offers := off, marks := if mark then insertUnit o.unit x.marks else x.marks }
    if k = .closing ∧ off = ⟨none, none, none, none⟩ then { t with arb := { t.arb with urgent := false, urgencyTimer := none } } else t

/-- The string for which a slot has a unit on offer. -/
def State.offeredOn (s : State) (k : SlotId) (u : Nat) : Option StringId :=
  allStrings.find? fun i => ((s.slot k).offers.get i).elim false (·.unit == u)

/-- Dropping a slot's candidate for a string leads to `t`, after the walk that resumes (R162); with no string there is nothing to drop. -/
def State.Drops (s : State) (k : SlotId) (on : Option StringId) (mark : Bool) (t : State) : Prop :=
  match on with
  | none => t = s
  | some i => Leads [.sweepWalk k i] (s.offOffer k i mark) t

/-- Dropping both slots' candidates for a string, marked for repeat, in an act on the string leads to `t`, after the walks that resume, EVACUATION
before CLOSING (R162). -/
def State.StringDrops (s : State) (i : StringId) (act : State → State) (t : State) : Prop :=
  let had := [SlotId.evacuation, .closing].filter fun k => ((s.slot k).offers.get i).isSome
  Leads (had.map fun k => .sweepWalk k i) (act ((s.offOffer .evacuation i true).offOffer .closing i true)) t

/-! ## Strings -/

/-- The round period in ms (R128). -/
def State.roundPeriod (s : State) : Nat :=
  match s.params.strings.base with
  | 0 => max 8 s.params.strings.mult * 2
  | 1 => 128 + s.params.strings.mult * 8
  | _ => 640 + s.params.strings.mult * 32

/-- The nodes that a string's round has yet to visit: those above the cursor, and outside a probe round those that are not ABSENT (R129);
an address that has joined above the cursor of a probe round is among them (log entry 31). -/
def StringCtl.unvisited (c : StringCtl) : List NodeRecord :=
  c.nodes.filter fun n => c.cursor.elim true (Decidable.decide <| · < n.addr) && (c.roundCount == 0 || n.presence != .absent)

/-- A command frame goes out, with the acknowledgement and the indicator code of a node that is not ABSENT (R131, R148). -/
def StringCtl.sends (c : StringCtl) (addr : Nat) (cmd : NodeCommand) (settle : Bool) : StringCtl :=
  let node := (c.nodes.find? (·.addr == addr)).filter (·.presence != .absent)
  let ack := node.bind (·.lastSeq)
  let code := node.elim .dark (·.pending)
  { c with
    exchange := some { node := addr, command := cmd, ack := ack, code := code, stale := false, replaced := false }
    lastSettle := settle, lineOut := commandFrame addr cmd ack code }

/-- The next exchange of a string: an ACTUATE that has been granted, settle polls and the polls of the round in turn while an actuation settles, and
otherwise the round's polls (R129, R130). -/
def StringCtl.chooses (c : StringCtl) : StringCtl :=
  let visit := if c.inRound then c.unvisited.head? else none
  let poll := fun n : NodeRecord => { c.sends n.addr .poll false with cursor := some n.addr }
  match c.inFlight, visit with
  | some f, none => if f.phase = .commanding then c.sends f.node (.actuate f.direction) false else c.sends f.node .poll true
  | some f, some n =>
    if f.phase = .commanding then c.sends f.node (.actuate f.direction) false else if c.lastSettle then poll n else c.sends f.node .poll true
  | none, some n => poll n
  | none, none => c

/-- A string goes on after an act of its own (R129, R130, R147, R203): with an exchange on the line nothing happens; otherwise a round with no address left
ends, with an overrun where its period has run out and the next round then starts at once; and the next exchange is sent, unless the line is held for a
grant pass. -/
def State.wentOn (s : State) (i : StringId) : State :=
  let c := s.str i
  let close := fun c : StringCtl => { c with inRound := false, roundCount := (c.roundCount + 1) % 4 }
  let spent := c.inRound && c.unvisited.isEmpty
  let late := spent && c.roundTimer.isNone
  let ended := if spent then close c else c
  let again := { ended with roundTimer := some s.roundPeriod, cursor := none, inRound := true }
  let round := if late then (if again.unvisited.isEmpty then close again else again) else ended
  let n := s.counters.strings.get i
  if c.exchange.isSome = true then s
  else
    { s with
      strings := s.strings.set i (if c.held = true then round else round.chooses)
      counters := { s.counters with
        strings := s.counters.strings.set i { n with overruns := if late then min 4294967295 (n.overruns + 1) else n.overruns } } }

/-- A grant pass ends: each line that was held for it goes on, in the order of the strings (R99, R147). -/
def State.passEnded (s : State) : State :=
  let freed := fun (t : State) i =>
    if (t.str i).held then ({ t with strings := t.strings.set i { t.str i with held := false } } : State).wentOn i else t
  [StringId.a, .b, .c, .d].foldl freed { s with arb := { s.arb with grantPass := false } }

/-- A string enters a state; where that is a change, STRING_STATE is posted with the score, and leaving DEGRADED or OFF starts a grant pass (R99,
R137). -/
def State.stringEnters (s : State) (i : StringId) (st : StringState) : State :=
  let c := s.str i
  let t := ({ s with strings := s.strings.set i { c with state := st } } : State).post
    { kind := .stringState, string := some i, code := .string st, value := some c.score }
  if c.state = st then s
  else if c.state = .degraded ∨ c.state = .off then { t with arb := { t.arb with grantPass := true } }
  else t

/-- An address joins the roster of a string (R125): its record, that of an added node, stands at its place, and an IDLE string enters ACTIVE with score 0 and
round count 0 and starts its first round at once. -/
def State.nodeJoins (s : State) (i : StringId) (a : Nat) : State :=
  let c := s.str i
  let joined : StringCtl :=
    { c with nodes := c.nodes.takeWhile (·.addr ≤ a) ++ NodeRecord.added a :: c.nodes.dropWhile (·.addr ≤ a) }
  if c.state = .idle then
    let b := ({ s with strings := s.strings.set i { joined with score := 0, roundCount := 0 } } : State).stringEnters i .active
    let begun : StringCtl := { b.str i with roundTimer := some s.roundPeriod, cursor := none, inRound := true }
    ({ b with strings := b.strings.set i begun } : State).wentOn i
  else { s with strings := s.strings.set i joined }

/-- An address leaves the roster of a string (R125): its record is discarded and a frame to it on the line is stale; with its last address the string
enters IDLE with score 0, and its round, gap and recovery timers stop. That the round count then
stands, and that a round cut short counts no overrun, is the model's (log entry 25). -/
def State.nodeLeaves (s : State) (i : StringId) (a : Nat) : State :=
  let c := s.str i
  let left : StringCtl :=
    { c with
      nodes := c.nodes.filter fun n => n.addr != a
      exchange := c.exchange.map fun x => if x.node = a then { x with stale := true } else x }
  let idle : StringCtl :=
    { left with score := 0, roundTimer := none, gapTimer := none, recoveryTimer := none, inRound := false, held := false }
  if left.nodes = [] then ({ s with strings := s.strings.set i idle } : State).stringEnters i .idle
  else ({ s with strings := s.strings.set i left } : State).wentOn i

/-- A queued record is removed by a reset of its string (R92): a guest record with GUEST_WITHDRAWN, a demand's with DEMAND_DONE of CANCELLED, stored after
a CLEANING_DUE of the withdrawal (log entry 17). -/
def State.recordReset (s : State) (r : ActRecord) : State :=
  if r.origin = .staff then
    let t : State :=
      { s.withdrawn r.unit with
        arb := { s.arb with
          queue := s.arb.queue.filter (·.unit != r.unit), demands := s.arb.demands.filter fun d => some d.tag != r.tag } }
    match r.tag with
    | none => t
    | some tag => t.post (s.unitNotice .demandDone r.unit (s.unit r.unit).holder (.demand .cancelled) (some tag))
  else s.guestWithdrawn r.unit .stringReset

/-- A node record when its node becomes ABSENT (R134, R136). -/
def NodeRecord.gone (n : NodeRecord) : NodeRecord :=
  { n with presence := .absent, misses := 0, readerMark := false, actuatorMark := false, pending := .dark }

/-- A string is reset once its records are gone (R149, steps 4 to 6): every node ABSENT with its latches and positions kept, a frame on the line stale, the
timers stopped, and then IDLE, or ACTIVE with a probe round that begins at once. -/
def State.stringReset (s : State) (i : StringId) : State :=
  let c := s.str i
  let cleared : StringCtl :=
    { c with
      nodes := c.nodes.map fun n => { n.gone with lastSeq := none }, score := 0, roundCount := 0, inRound := false, held := false
      roundTimer := none, settleTimer := none, gapTimer := none, recoveryTimer := none
      exchange := c.exchange.map fun x => { x with stale := true } }
  let t : State := { s with strings := s.strings.set i cleared }
  if c.nodes = [] then t.stringEnters i .idle
  else
    let b := t.stringEnters i .active
    let begun : StringCtl := { b.str i with roundTimer := some s.roundPeriod, cursor := none, inRound := true }
    ({ b with strings := b.strings.set i begun } : State).wentOn i

/-- A string goes OFF at score 256 (R138, steps 1 to 3): its state with STRING_STATE, its timers stopped, its round ended, and its actuation in flight
completed UNCERTAIN. -/
def State.stringOff (s : State) (i : StringId) : State :=
  let c := s.str i
  let stopped : StringCtl :=
    { c with score := 256, roundTimer := none, settleTimer := none, gapTimer := none, inRound := false, held := false }
  ((({ s with strings := s.strings.set i stopped } : State).stringEnters i .off).ended i .uncertain true)

/-- Every node of a string becomes ABSENT at OFF (R91, R138), and the guest records of its units are withdrawn with STRING_OFF, in the order of the
node addresses. -/
def State.nodesGone (s : State) (i : StringId) : State :=
  let t : State := { s with strings := s.strings.set i { s.str i with nodes := (s.str i).nodes.map NodeRecord.gone } }
  ((s.str i).nodes.filterMap fun n => s.unitAt i n.addr).foldl (fun t u => t.guestWithdrawn u .stringOff) t

/-- The record of one node of a string is changed. -/
def State.nodeWritten (s : State) (i : StringId) (a : Nat) (f : NodeRecord → NodeRecord) : State :=
  { s with strings := s.strings.set i { s.str i with nodes := (s.str i).nodes.map fun n => if n.addr = a then f n else n } }

/-- A notice of a node and the unit it serves (R199). -/
def State.nodeNotice (s : State) (kind : NoticeKind) (i : StringId) (a : Nat) (code : NoticeCode) : NoticeData :=
  { kind := kind, unit := s.unitAt i a, string := some i, node := some a, code := code }

/-- A good reply up to the drop of candidates at an actuator fault (R133, steps 1 to 3): the score and STRING_STATE, the node PRESENT with NODE_FOUND where
it was ABSENT, the fault marks with their latches and NODE_FAULT, READER first and both ahead of the drop (log entry 17), and the grant passes of R99 and
R135. -/
def State.replyMarked (s : State) (i : StringId) (a : Nat) (n : NodeRecord) (r : NodeReply) : State :=
  let c := s.str i
  let k := s.counters.strings.get i
  let scored := ({ s with
      counters := { s.counters with strings := s.counters.strings.set i { k with good := min 4294967295 (k.good + 1) } }
      strings := s.strings.set i { c with exchange := none, score := c.score - 1 } } : State).stringEnters i (stateOfScore (c.score - 1))
  let reader := r.readerFault && !n.readerMark
  let actuator := r.actuatorFault && !n.actuatorMark
  let found := scored.nodeWritten i a fun m =>
    { m with
      presence := .present, misses := 0, lastSeq := if n.presence = .absent then none else m.lastSeq
      readerMark := r.readerFault, readerLatch := m.readerLatch || reader
      actuatorMark := r.actuatorFault, actuatorLatch := m.actuatorLatch || actuator }
  let notices := (if n.presence = .absent then [s.nodeNotice .nodeFound i a .none] else [])
    ++ (if reader then [s.nodeNotice .nodeFault i a (.fault .reader)] else [])
    ++ (if actuator then [s.nodeNotice .nodeFault i a (.fault .actuator)] else [])
  let t := notices.foldl State.post found
  if n.presence ≠ .present ∨ (r.actuatorFault = false ∧ n.actuatorMark = true) then { t with arb := { t.arb with grantPass := true } } else t

/-- The outcome that a good reply brings the actuation in flight on its node, if any (R142, R143). -/
def StringCtl.outcomeOf (c : StringCtl) (a : Nat) (r : NodeReply) : Option Completion :=
  match c.inFlight with
  | none => none
  | some f =>
    let reached := r.bolt = match f.direction with | .lock => .locked | .unlock => .unlocked
    if f.node ≠ a then none
    else match f.phase, r.verdict with
      | .commanding, none => none
      | .commanding, some .refuse => some .refusedByNode
      | .commanding, some .accept => if reached then some .done else none
      | .settling, _ => if reached then some .done else none

/-- The actuation in flight after a good reply: completed, settling from now, or as it stood (R142, R143). -/
def State.actuationAnswered (s : State) (i : StringId) (a : Nat) (r : NodeReply) : State :=
  let c := s.str i
  match c.outcomeOf a r with
  | some o => s.ended i o false
  | none =>
    if c.inFlight.elim false (fun f => f.node == a && f.phase == .commanding) = true ∧ r.verdict = some .accept then
      let settling := c.inFlight.map fun f => { f with phase := .settling }
      { s with strings := s.strings.set i { c with inFlight := settling, settleTimer := some s.params.strings.settle } }
    else s

/-- A good reply from the indicator code on (R133, steps 4 to 7): the code that the frame carried returns to DARK, the actuation is answered, the positions
and the node report are taken, and a presentation is acknowledged and handed on, or counted as a repeat (R57). -/
def State.replyTaken (s : State) (i : StringId) (x : Exchange) (r : NodeReply) : State :=
  let a := x.node
  let shown := s.nodeWritten i a fun n => { n with pending := if x.replaced then n.pending else .dark }
  let placed := (shown.actuationAnswered i a r).nodeWritten i a fun n =>
    { n with door := some r.door, bolt := some r.bolt, inside := some r.inside }
  match s.unitAt i a with
  | none => placed
  | some u =>
    let t := placed.reportTaken u r.door r.bolt r.inside
    match r.presentation, t.node? i a with
    | some (seq, band), some n =>
      if n.lastSeq = some seq then { t with counters := { t.counters with repeats := min 4294967295 (t.counters.repeats + 1) } }
      else if (t.decisions.any fun d => d.str == i && d.node == a) = true then t
      else
        let seen := t.nodeWritten i a fun n => { n with lastSeq := some seq }
        { seen with decisions := t.decisions ++
            [{ str := i, node := a, unit := u, band := band, seq := seq, stage := .lookup, staff := false, admitted := false }] }
    | _, _ => t

end Machine

namespace Machine

/-! ## What every step keeps -/

/-- The figures of the SUPPLY group are in their ranges (R109, R116), a clear THROTTLED goes with an account below HW, and a set one with an account
above LW (R115). -/
def State.SupplyInv (s : State) : Prop :=
  s.params.supply.good = true
    ∧ (s.supply.throttled = false → s.supply.account < s.params.supply.hw)
    ∧ (s.supply.throttled = true → s.params.supply.lw < s.supply.account)

/-- The figures of the other three groups are in their ranges (R127, R176, R192), and the clock shows a second of day (R172). -/
def State.FiguresInv (s : State) : Prop :=
  s.params.strings.good = true ∧ s.params.time.good = true ∧ s.params.link.good = true ∧ s.time.second ≤ 86399

/-- The Directory stands in ascending order of band ID, no band twice, with at most 1,024 entries (R33). -/
def State.DirectoryInv (s : State) : Prop := (s.dir.map (·.id)).Pairwise (· < ·) ∧ s.dir.length ≤ 1024

/-- The Notice Queue holds at most 64 notices, ATTN stands asserted exactly while it holds one (R200), the dropped count saturates at 255, and the
notice age timer is PRESET only over an empty queue and HELD exactly while the link stands STANDALONE (R195). -/
def State.NoticeInv (s : State) : Prop :=
  s.notices.stored.length ≤ 64 ∧ s.notices.attn = !s.notices.stored.isEmpty ∧ s.notices.dropped ≤ 255
    ∧ (s.link.ageTimer = .preset → s.notices.stored = []) ∧ (s.link.ageTimer = .held ↔ s.link.state = .standalone)

/-- A string is IDLE exactly while its roster is empty (R125), OFF exactly at score 256, and otherwise stands in the state that its score calls
for (R137). -/
def StringCtl.ScoreInv (c : StringCtl) : Prop :=
  c.score ≤ 256 ∧ (c.state = .idle ↔ c.nodes = []) ∧ (c.state = .idle → c.score = 0)
    ∧ (c.state = .off ↔ c.score = 256) ∧ (c.state ≠ .idle → c.state = stateOfScore c.score)

/-- The law of the rosters: each stands in strictly ascending order (R124, R125), within the node addresses 1 to 60 (R1), its addresses are exactly those
that configured units name on that string (R125), and no two units share both string and node address (R21). -/
def State.RosterInv (s : State) : Prop :=
  (∀ i, ((s.str i).nodes.map (·.addr)).Pairwise (· < ·)
      ∧ ∀ a, (a ∈ (s.str i).nodes.map (·.addr) → 1 ≤ a ∧ a ≤ 60)
        ∧ (a ∈ (s.str i).nodes.map (·.addr) ↔ ∃ u, isUnit u ∧ s.unitNode u = some (i, a)))
    ∧ ∀ u v, isUnit u → isUnit v → s.unitNode u ≠ none → s.unitNode u = s.unitNode v → u = v

/-- The rosters keep their law, every string's state follows its roster and its score, and a line is held for a grant pass only while one is due. -/
def State.StringInv (s : State) : Prop :=
  s.RosterInv ∧ ∀ i, (s.str i).ScoreInv ∧ ((s.str i).held = true → s.arb.grantPass = true)

/-- A slot that is not WALKING has every cursor at END, nothing on offer and nothing in flight; the pause timer runs exactly while the slot is
PAUSED; an INACTIVE slot has no mark; and the pass number keeps to the slot's limit (R152, R164, R165). -/
def SweepSlot.PassInv (x : SweepSlot) (limit : Nat) : Prop :=
  (x.state ≠ .walking → x.cursors = ⟨none, none, none, none⟩ ∧ x.offers = ⟨none, none, none, none⟩ ∧ x.inFlight = 0)
    ∧ (x.state = .paused ↔ x.pause.isSome = true)
    ∧ (x.state = .inactive → x.marks = [])
    ∧ 1 ≤ x.pass ∧ x.pass ≤ limit ∧ (x.state = .paused → x.pass < limit)

/-- Both sweep slots keep the law of their passes. -/
def State.SweepInv (s : State) : Prop := s.sweeps.evacuation.PassInv 8 ∧ s.sweeps.closing.PassInv 3

/-- At most 32 records are queued (R81) and 8 demands outstanding (R83); no two demands share a tag; and the next tag is 1 to 255 and held by none of
them (R83). -/
def State.QueueInv (s : State) : Prop :=
  s.arb.queue.length ≤ 32 ∧ s.arb.demands.length ≤ 8 ∧ (s.arb.demands.map (·.tag)).Nodup
    ∧ 1 ≤ s.arb.nextTag ∧ s.arb.nextTag ≤ 255 ∧ s.arb.nextTag ∉ s.arb.demands.map (·.tag)

/-- While main power is up, the level recorded for each input line is the level that stands on it (R119, R120, R153), and the integrity code matches
the retained content (R28). -/
def State.LineInv (s : State) : Prop :=
  s.power.on = true → s.sweeps.alarm = s.pins.alarm ∧ s.supply.lowLevel = s.pins.supplyLow ∧ s.supply.limitLevel = s.pins.currentLimit
    ∧ s.power.codeMatches = true

/-- One level of an intent (R2): the state it returns to is one of the seven that a unit can be moved from or that R20 writes, and where R3 gives that
state no holder the unit has none, a guest lock from VACANT apart, which binds before it moves. -/
def BaseIntent.sound (holder : Option BandId) (b : BaseIntent) : Prop :=
  b.ret ∉ [.unconfigured, .locking, .unlocking, .jammed, .verify]
    ∧ (b.ret ∈ [.forfeited, .occupied, .cleaning, .withdrawn] ∨ (b.ret = .vacant ∧ b.cause ≠ .guestLock) → holder = none)

/-- An intent (R2): an underlying intent stands exactly where the return state is JAMMED or VERIFY, and is itself of one level. -/
def Intent.sound (holder : Option BandId) (i : Intent) : Prop :=
  match i.under with
  | none => BaseIntent.sound holder ⟨i.cause, i.ret⟩
  | some b => (i.ret = .jammed ∨ i.ret = .verify) ∧ b.sound holder

/-- The state of a unit decides whether it has a configuration, a holder and an intent (R3). -/
def UnitRecord.sound (r : UnitRecord) : Prop :=
  match r.state with
  | .unconfigured => r.config = none ∧ r.holder = none ∧ r.intent = none
  | .vacant | .occupied | .cleaning | .forfeited | .withdrawn => r.config.isSome = true ∧ r.holder = none ∧ r.intent = none
  | .held | .openHeld => r.config.isSome = true ∧ r.holder.isSome = true ∧ r.intent = none
  | .locking => r.config.isSome = true ∧ r.holder.isSome = true ∧ ∃ i, r.intent = some i ∧ i.cause.direction = .lock ∧ i.sound r.holder
  | .unlocking => r.config.isSome = true ∧ ∃ i, r.intent = some i ∧ i.cause.direction = .unlock ∧ i.sound r.holder
      ∧ (i.ret = .held ∨ i.ret = .openHeld → r.holder.isSome = true)
  | .jammed | .verify => r.config.isSome = true ∧ ∃ i, r.intent = some i ∧ i.sound r.holder

/-- How many movements are owed to a unit: its records in the Actuation Queue and its actuations in flight. -/
def State.movements (s : State) (u : Nat) : Nat :=
  s.arb.queue.countP (·.unit == u) + s.strings.toList.countP fun c => c.inFlight.elim false (·.unit == u)

/-- The law of tenancy: every unit's record is as its state demands (R3); a unit names a band as its holder exactly where that band's entry lists
the unit, once (R4, R39); a unit in LOCKING or UNLOCKING is owed one movement and any other unit none (R81); and an outstanding demand that is not in
flight has its record in the queue, with its tag, which guest records do not carry (R80, R83). -/
def State.TenancyInv (s : State) : Prop :=
  s.DirectoryInv ∧ s.QueueInv
    ∧ (∀ u, isUnit u → (s.unit u).sound)
    ∧ (∀ u b, isUnit u → ((s.unit u).holder = some b ↔ ∃ e ∈ s.dir, e.id = b ∧ u ∈ e.holdings))
    ∧ (∀ e ∈ s.dir, e.holdings.Nodup ∧ ∀ u ∈ e.holdings, isUnit u)
    ∧ (∀ u, s.movements u = if (s.unit u).state = .locking ∨ (s.unit u).state = .unlocking then 1 else 0)
    ∧ (∀ d ∈ s.arb.demands, d.inFlight = false → ∃ r ∈ s.arb.queue, r.unit = d.unit ∧ r.tag = some d.tag)
    ∧ (∀ r ∈ s.arb.queue, r.origin ≠ .staff → r.tag = none)

end Machine

end Sys2Proof
end

