-- ==== Sys2Proof/Certificates/Slice0/Obligations.lean ====
section
/-! DEFINITION. The statements for the provers: what the rules of the spec say of each command and of the whole part. -/

open Sys2Proof Sys2Proof.Machine

/-! ## Steps -/

/-- One step takes the command at the front of the queue and carries it out on the state with the queue's rest. -/
def Obligations.StepTakesTheFront : Prop :=
  ∀ (c : Instr) (rest : List Instr) (s : State), step { s with pending := c :: rest } = exec c { s with pending := rest }

/-- With nothing waiting, a part without power stands still. A part with an act of its own due puts the first in the queue: the placing of a completed frame,
the next act of each decision in progress, the walks that a grant has left, of EVACUATION before CLOSING, and the next look of a grant pass in progress.
Otherwise one millisecond passes: the time block moves by one (R170, R171), every timer that runs loses 1 ms, and the ticks of the millisecond and the
expiry of each timer with at most 1 ms left wait, in the order written here; nothing else changes. What is due, what falls and their order are the model's
choice, log entry 2, and with the walks log entry 16. -/
def Obligations.StepWithNothingWaiting : Prop :=
  ∀ s : State,
    let next := fun d : Decision => match d.stage with
      | .lookup => Instr.presentationLookup d.str d.node
      | .admission => .standaloneAdmission d.str d.node
      | .unitAct => .presentationUnitAct d.str d.node
    let walks := fun k => [StringId.a, .b, .c, .d].filterMap fun i =>
      if (s.slot k).state = .walking ∧ (s.slot k).offers.get i = none ∧ (s.slot k).cursors.get i ≠ none then some (Instr.sweepWalk k i) else none
    let look := if s.arb.grantPass = false then [] else match s.firstEligible with
      | some (.offer _ _ _) => [Instr.grantSweepCandidate]
      | _ => [.grantRecord]
    let due := (if s.link.completed = [] then [] else [Instr.frameComplete]) ++ s.decisions.map next ++ walks .evacuation ++ walks .closing ++ look
    let less := fun t : Option Nat => t.map (· - 1)
    let out := fun (t : Option Nat) (c : Instr) => match t with | some n => if n ≤ 1 then [c] else [] | none => []
    let age := match s.link.ageTimer with | .running n => some n | _ => none
    let gap := match s.link.receiver with | .assembling _ n => some n | _ => none
    let expiries := fun i => let c := s.str i
      out c.settleTimer (.settleTimerExpiry i) ++ out c.gapTimer (.gapTimerExpiry i) ++ out c.recoveryTimer (.recoveryTimerExpiry i)
        ++ out c.roundTimer (.roundTimerExpiry i)
    let falls := s.time.ticks ++ expiries .a ++ expiries .b ++ expiries .c ++ expiries .d
      ++ out s.sweeps.evacuation.pause (.pauseTimerExpiry .evacuation) ++ out s.sweeps.closing.pause (.pauseTimerExpiry .closing)
      ++ out s.arb.urgencyTimer .closingUrgencyTimerExpiry ++ out age .noticeAgeTimerExpiry ++ out gap .frameGapTimeout
    let line := fun c : StringCtl =>
      { c with
        roundTimer := less c.roundTimer, settleTimer := less c.settleTimer, gapTimer := less c.gapTimer, recoveryTimer := less c.recoveryTimer }
    let t : State :=
      { s with
        time := s.time.down
        strings := ⟨line s.strings.a, line s.strings.b, line s.strings.c, line s.strings.d⟩
        sweeps := { s.sweeps with
          evacuation := { s.sweeps.evacuation with pause := less s.sweeps.evacuation.pause }
          closing := { s.sweeps.closing with pause := less s.sweeps.closing.pause } }
        arb := { s.arb with urgencyTimer := less s.arb.urgencyTimer }
        link := { s.link with
          ageTimer := match s.link.ageTimer with | .running n => .running (n - 1) | x => x
          receiver := match s.link.receiver with | .assembling bytes n => .assembling bytes (n - 1) | x => x }
        pending := falls }
    s.due = due ∧ s.falls = falls ∧ t.time.timebase = s.time.timebase + 1
      ∧ (s.pending = [] → s.power.on = false → step s = .next s)
      ∧ (∀ c rest, s.pending = [] → s.power.on = true → due = c :: rest → step s = .next { s with pending := [c] })
      ∧ (s.pending = [] → s.power.on = true → due = [] → step s = .next t)

/-- R170, R171: counted in milliseconds from a start, the timebase shows the count within its range, the drain tick falls every 10 ms, the second tick
every 1,000 ms, and the two acts of the minute tick every 60,000 ms. The time block moves so, and the ticks wait ahead of all else, at a step with nothing
waiting and nothing due: the step at which a millisecond passes in the model (log entry 2). -/
def Obligations.TicksFallAtTheirPeriods : Prop :=
  (∀ n : Nat,
    let t := TimeBlock.down^[n] State.reset.time
    t.timebase = BitVec.ofNat 32 n
      ∧ (Instr.drainTick ∈ t.ticks ↔ 10 ∣ n + 1)
      ∧ (Instr.secondTick ∈ t.ticks ↔ 1000 ∣ n + 1)
      ∧ (Instr.minuteTick ∈ t.ticks ↔ 60000 ∣ n + 1)
      ∧ (Instr.validityCountdown ∈ t.ticks ↔ 60000 ∣ n + 1))
  ∧ ∀ s : State, s.pending = [] → s.power.on = true → s.due = [] →
      ∃ t rest, step s = .next t ∧ t.time = s.time.down ∧ t.pending = s.time.ticks ++ rest
        ∧ (∀ c ∈ rest, c ∉ [Instr.drainTick, .secondTick, .minuteTick, .validityCountdown])

/-- Every command, in every state, answers a next state, and changes no block but those that belong to it. -/
def Obligations.EveryCommandChangesOnlyItsBlocks : Prop :=
  ∀ (c : Instr) (s : State), ∃ t, exec c s = .next t ∧ Changes c.touches s t

/-- R28, as the model has it (log entry 10, DESIGN CHOICE): the integrity code is a flag that says whether it matches, a part without main power takes
POWER_UP, RET_LOSS and the levels of the three lines alone, its volatile fields stand until the next start, and RET_LOSS has no effect while main power
is up. Without main power a line keeps the level that stands on it, the loss of RET spoils the retained content, and no command but POWER_UP does anything
else. Main power fails and the part stops; the code goes on matching unless a change had been written and its code not yet. -/
def Obligations.WithoutPowerThePartHasStopped : Prop :=
  (∀ (c : Instr) (s : State), s.power.on = false → c ≠ .powerUp →
     exec c s = .next (match c with
       | .alarmLevelChange a => { s with pins := { s.pins with alarm := a } }
       | .supplyLowChange a => { s with pins := { s.pins with supplyLow := a } }
       | .currentLimitChange a => { s with pins := { s.pins with currentLimit := a } }
       | .retLoss => { s with power := { s.power with codeMatches := false } }
       | _ => s))
  ∧ ∀ s : State, s.power.on = true →
      (∀ stale, exec (.mainPowerLoss stale) s = .next { s with power := ⟨false, s.power.codeMatches && !stale⟩ })
        ∧ exec .retLoss s = .next s

/-! ## Starts and retention -/

/-- R29, R30 and the start rules of the chapters: at a power-up whose code does not match, the part stands at the values of a cold start, with one START
notice, and the three lines are then read from deasserted. The values that the spec gives no register at a start are the model's (log entry 3, DESIGN
CHOICE), and so is the order in which the lines are read, CURRENT_LIMIT first and ALARM last (log entry 11, DESIGN CHOICE). -/
def Obligations.PowerUpWithoutAMatchStartsCold : Prop :=
  ∀ s : State, s.power.codeMatches = false →
    ∃ t, exec .powerUp s = .next t
      ∧ Leads [.currentLimitChange s.pins.currentLimit, .supplyLowChange s.pins.supplyLow, .alarmLevelChange s.pins.alarm]
          { State.reset with pins := s.pins, pending := s.pending } t

/-- R29, R31: a power-up whose code matches, and a RESET with main power up, keep the retained content. Every unit keeps its record but for a movement
under way, which becomes VERIFY, and the node-derived fields; every string has the nodes that the units name, all ABSENT; every other block takes its
values after a start, with one START notice of code WARM; and the three lines are then read. Where the spec gives a block no value after a start the value
is the model's (log entry 3, DESIGN CHOICE), and so are the first rounds ahead of the lines and CURRENT_LIMIT ahead of the others (log entry 11, DESIGN
CHOICE). -/
def Obligations.WarmStartKeepsWhatIsRetained : Prop :=
  ∀ (c : Instr) (s : State), (c = .powerUp ∧ s.power.codeMatches = true) ∨ (c = .resetPulse ∧ s.power.on = true) →
    ∃ b t, exec c s = .next t
      ∧ Leads [.currentLimitChange s.pins.currentLimit, .supplyLowChange s.pins.supplyLow, .alarmLevelChange s.pins.alarm] b t
      ∧ (∀ u, isUnit u → b.unit u =
          { s.unit u with
            state := if (s.unit u).state = .locking ∨ (s.unit u).state = .unlocking then .verify else (s.unit u).state
            occupied := false, tamper := false, door := none })
      ∧ b.dir = s.dir ∧ b.params = s.params ∧ b.enables = s.enables ∧ b.pins = s.pins ∧ b.pending = s.pending
      ∧ b.decisions = [] ∧ b.arb = State.reset.arb ∧ b.supply = State.reset.supply ∧ b.sweeps = State.reset.sweeps
      ∧ b.time = State.reset.time ∧ b.counters = Counters.zero ∧ b.census = State.reset.census ∧ b.power = ⟨true, true⟩
      ∧ b.notices = { stored := [{ seq := 0, stamp := none, data := { kind := .start, code := .start true } }]
                      nextSeq := 1, dropped := 0, attn := true }
      ∧ b.link = { State.reset.link with ageTimer := .running (s.params.link.ageLimit * 1000) }
      ∧ ∀ i, (b.str i).score = 0 ∧ (b.str i).inFlight = none ∧ (b.str i).roundCount = 0
          ∧ (b.str i).state = (if (b.str i).nodes = [] then .idle else .active)
          ∧ (b.str i).recoveryTimer = none ∧ (b.str i).settleTimer = none ∧ (b.str i).gapTimer = none ∧ (b.str i).held = false
          ∧ ((b.str i).nodes.map (·.addr)).Pairwise (· ≤ ·)
          ∧ (∀ n ∈ (b.str i).nodes, n = NodeRecord.added n.addr)
          ∧ (∀ a, a ∈ (b.str i).nodes.map (·.addr) ↔ ∃ u, isUnit u ∧ s.unitNode u = some (i, a))
          ∧ ((b.str i).exchange.map (·.node)) = ((b.str i).nodes.map (·.addr)).head?

/-! ## The input lines -/

/-- R153, R154: a change of the ALARM line is recorded. Asserted with the EVACUATION slot INACTIVE, it starts an evacuation: zone 0, the kind filter of
the evacuate-lockers figure, pass 1, empty sets, counts at 0, each cursor at its string's lowest address, and a walk of each string in turn. Deasserted,
it starts a grant pass. A level already recorded is no change. -/
def Obligations.AlarmLineStartsAnEvacuation : Prop :=
  ∀ (a : Bool) (s : State), s.power.on = true →
    let p : State := { s with pins := { s.pins with alarm := a } }
    let r : State := { p with sweeps := { p.sweeps with alarm := a } }
    if a = s.sweeps.alarm then exec (.alarmLevelChange a) s = .next p
    else if a = false then exec (.alarmLevelChange a) s = .next { r with arb := { r.arb with grantPass := true } }
    else if s.sweeps.evacuation.state ≠ .inactive then exec (.alarmLevelChange a) s = .next r
    else
      let low := fun i => ((s.str i).nodes.map (·.addr)).head?
      let x : SweepSlot :=
        { state := .walking, zone := 0, filter := if s.params.time.evacLockers then .both else .cabins, pass := 1
          cursors := ⟨low .a, low .b, low .c, low .d⟩, offers := ⟨none, none, none, none⟩, visit := [], marks := []
          inFlight := 0, pause := none, issued := 0, done := 0, missed := 0, result := none }
      ∃ t, exec (.alarmLevelChange a) s = .next t
        ∧ Leads [.sweepWalk .evacuation .a, .sweepWalk .evacuation .b, .sweepWalk .evacuation .c, .sweepWalk .evacuation .d]
            { r with sweeps := { r.sweeps with evacuation := x } } t

/-- R119: a change of the SUPPLY_LOW line is recorded. Asserted, it sets the low-seen latch, notes the moment and posts SUPPLY_LOW with the account;
deasserted, it posts SUPPLY_RESTORED with the whole seconds of the low period, at most 65,535, and starts a grant pass. R120: a change of the CURRENT_LIMIT
line is recorded; asserted, it sets the limit-seen latch and marks every actuation in flight LIMITED, and deasserted it keeps the marks. -/
def Obligations.SupplyLinesAreTaken : Prop :=
  (∀ (a : Bool) (s : State), s.power.on = true →
     let p : State := { s with pins := { s.pins with supplyLow := a } }
     let secs := min 65535 ((s.time.timebase - s.supply.lowSince).toNat / 1000)
     exec (.supplyLowChange a) s = .next (
       if a = s.supply.lowLevel then p
       else if a = true then
         ({ p with supply := { s.supply with lowLevel := true, lowSeen := true, lowSince := s.time.timebase } } : State).post
           { kind := .supplyLow, code := .throttled s.supply.throttled, value := some s.supply.account }
       else
         let t := ({ p with supply := { s.supply with lowLevel := false } } : State).post
           { kind := .supplyRestored, code := .throttled s.supply.throttled, value := some secs }
         { t with arb := { t.arb with grantPass := true } }))
  ∧ ∀ (a : Bool) (s : State), s.power.on = true →
      let p : State := { s with pins := { s.pins with currentLimit := a } }
      let mark := fun c : StringCtl => { c with inFlight := c.inFlight.map fun f => { f with limited := true } }
      exec (.currentLimitChange a) s = .next (
        if a = s.supply.limitLevel then p
        else if a = true then
          { p with
            supply := { s.supply with limitLevel := true, limitSeen := true }
            strings := ⟨mark s.strings.a, mark s.strings.b, mark s.strings.c, mark s.strings.d⟩ }
        else { p with supply := { s.supply with limitLevel := false } })

/-! ## Ticks and the clock -/

/-- R114: at a drain tick the account falls by D, to 0 at least, THROTTLED is cleared where the new account is at or below LW, and a grant pass is
started. -/
def Obligations.DrainTickRecoversCharge : Prop :=
  ∀ s : State, s.power.on = true →
    let account := if s.supply.account < s.params.supply.d then 0 else s.supply.account - s.params.supply.d
    exec .drainTick s = .next
      { s with
        supply := { s.supply with
          account := account
          throttled := if s.supply.throttled = true ∧ account ≤ s.params.supply.lw then false else s.supply.throttled }
        arb := { s.arb with grantPass := true } }

/-- The figures that QUERY_SUPPLY reports come true (R122): after n drain ticks and no other event, THROTTLED stands exactly while it was set and n is
below the ticks to release, and a cost that fits the ceiling at all fits exactly once n has reached the ticks for it, whether THROTTLED was set or
clear. -/
def Obligations.SupplyForecastComesTrue : Prop :=
  ∀ (s : State) (n cost : Nat), s.power.on = true → s.SupplyInv → cost ≤ s.params.supply.c →
    ∃ t, Host.Core.run core n { s with pending := List.replicate n .drainTick } = .next t
      ∧ t.supply.account = s.supply.account - n * s.params.supply.d
      ∧ (t.supply.throttled = true ↔ s.supply.throttled = true ∧ n < s.ticksToRelease)
      ∧ (t.supply.account + cost ≤ t.params.supply.c ↔ s.ticksToFit cost ≤ n)

/-- R172, R175: at a second tick a valid clock advances, with CLOCK_ROLLOVER where it passes 86,399, and where the valid clock then stands at the enabled
closing second and the CLOSING slot is INACTIVE a closing sweep starts as R156 says: zone 0, both kinds, pass 1, each cursor at its string's lowest
address, CLOSING_STARTED with code CLOCK and value 0, and a walk of each string in turn. The model's reading of the two commands, log entry 7 (DEDUCED,
in part DESIGN CHOICE): SECOND_TICK is the whole tick with its closing-time test, and CLOSING_TIME is the tick that leaves the clock at the enabled
closing second, without effect otherwise. That CLOSING_STARTED is stored ahead of the notices of the walks is the model's order (log entry 17). -/
def Obligations.SecondTickAdvancesTheClock : Prop :=
  ∀ s : State, s.power.on = true →
    let t : State :=
      if s.time.valid = false then s
      else if s.time.second < 86399 then { s with time := { s.time with second := s.time.second + 1 } }
      else ({ s with time := { s.time with second := 0 } } : State).post { kind := .clockRollover }
    let closing := t.time.valid = true ∧ s.params.time.closingEnabled = true ∧ t.time.second = s.params.time.closing
    let low := fun i => ((s.str i).nodes.map (·.addr)).head?
    let x : SweepSlot :=
      { state := .walking, zone := 0, filter := .both, pass := 1
        cursors := ⟨low .a, low .b, low .c, low .d⟩, offers := ⟨none, none, none, none⟩, visit := [], marks := []
        inFlight := 0, pause := none, issued := 0, done := 0, missed := 0, result := none }
    let started := ({ t with sweeps := { s.sweeps with closing := x } } : State).post
      { kind := .closingStarted, code := .closingBy true, value := some 0 }
    (closing → s.sweeps.closing.state = .inactive → ∃ r, exec .secondTick s = .next r
        ∧ Leads [.sweepWalk .closing .a, .sweepWalk .closing .b, .sweepWalk .closing .c, .sweepWalk .closing .d] started r)
      ∧ (¬(closing ∧ s.sweeps.closing.state = .inactive) → exec .secondTick s = .next t)
      ∧ (closing → exec .closingTime s = exec .secondTick s)
      ∧ (¬closing → exec .closingTime s = .next s)

/-- R177, R178: the minute tick at the Tenancy Table, over every unit: dwell minutes rise where the unit has a holder and are reported once at the limit
of the holder's class; occupancy minutes rise where the occupied flag is set and are reported once at the occupancy limit; nothing else of a unit
changes; the notices are posted in ascending unit order, OVERSTAY before OCCUPANCY_LONG; and the minute count rises (R171). That the count rises with
MINUTE_TICK, of the two acts of the tick, and that the tick leaves the rest of the time block as it was, is the model's choice (log entry 7, DESIGN
CHOICE). -/
def Obligations.MinuteTickCountsDwellAndOccupancy : Prop :=
  ∀ s : State, s.power.on = true →
    let dwell := fun u => if (s.unit u).holder.isSome then min 65535 ((s.unit u).dwell + 1) else (s.unit u).dwell
    let limit := fun u => ((s.unit u).holder.bind s.band?).map fun e => match e.cls with
      | .guest => s.params.time.guest | .child => s.params.time.child | .family => s.params.time.family | .staff => s.params.time.staff
    let late := fun u => decide (∃ l, limit u = some l ∧ l ≠ 0 ∧ l ≤ dwell u) && !(s.unit u).overstayReported
    let occ := fun u => if (s.unit u).occupied then min 65535 ((s.unit u).occupancy + 1) else (s.unit u).occupancy
    let long := fun u => (s.unit u).occupied && decide (s.params.time.occupancy ≤ occ u) && !(s.unit u).occupancyReported
    let notices := fun u : Nat =>
      (if late u then
        [s.unitNotice .overstay u (s.unit u).holder (((s.unit u).holder.bind s.band?).elim .none fun e => .bandClass e.cls) (some (dwell u))]
      else [])
      ++ (if long u then
        [s.unitNotice .occupancyLong u (s.unit u).holder (.mode ((s.unit u).config.elim .single (·.mode))) (some (occ u))] else [])
    let p := (((List.range 240).map (· + 1)).flatMap notices).foldl State.post s
    ∃ t, exec .minuteTick s = .next t
      ∧ (∀ u, isUnit u → t.unit u =
          { s.unit u with
            dwell := dwell u, overstayReported := (s.unit u).overstayReported || late u
            occupancy := occ u, occupancyReported := (s.unit u).occupancyReported || long u })
      ∧ t.time = { s.time with minuteCount := min 4294967295 (s.time.minuteCount + 1) }
      ∧ t.notices = p.notices ∧ t.link = p.link ∧ t.counters = p.counters
      ∧ Changes [.units, .time, .link, .notices, .counters] s t

/-- R36, R179: at the minute tick every nonzero validity falls by 1, an entry that goes from 1 to 0 is marked expired, and BAND_EXPIRED is posted for
each of these in ascending order, with the number of units it holds. BAND_EXPIRED of one band is that entry's share of the act, with effect only where its
validity is 1: the model's reading of that command, log entry 7. -/
def Obligations.ValidityCountsDownToExpiry : Prop :=
  ∀ s : State, s.power.on = true →
    let down := fun e : Band => if e.validity = 0 then e else { e with validity := e.validity - 1, expired := e.expired || e.validity == 1 }
    let say := fun (t : State) (e : Band) => t.post { kind := .bandExpired, band := some e.id, value := some e.holdings.length }
    exec .validityCountdown s = .next ((s.dir.filter fun e => e.validity == 1).foldl say { s with dir := s.dir.map down })
      ∧ ∀ b, exec (.bandExpired b) s = .next (match s.dir.find? (·.id == b) with
        | none => s
        | some e =>
          if e.validity = 1 then say { s with dir := s.dir.map fun x => if x.id = b then down x else x } e else s)

/-- R174, R180: SET_CLOCK writes the second and sets the flag, or refuses a second above 86,399, and answers with the clock as it stood before; QUERY_CLOCK
changes nothing and reports the clock, the timebase, the ticks and the closing second, with the seconds until it is next met. The minute count of
QUERY_CLOCK takes 4 bytes, and a reply of SET_CLOCK gives the second in 3 bytes with its flag after it: the model's reading of R208, log entry 13. -/
def Obligations.ClockIsSetAndRead : Prop :=
  ∀ (s : State) (tag : Byte) (second : BitVec 24), s.power.on = true →
    let i := Instr.setClock tag second
    let q := Instr.queryClock tag
    let o := s.taken i
    let was := u24 s.time.second ++ flag s.time.valid
    let close := s.params.time.closing
    exec i s = .next (
      if 86399 < second.toNat then i.reply s o .badValue []
      else i.reply s { o with time := { o.time with second := second.toNat, valid := true } } .ok was)
    ∧ exec q s = .next (q.reply s (s.taken q) .ok (
        was ++ u32 s.time.timebase.toNat ++ u32 s.time.minuteCount ++ u32 s.time.toSecond ++ u32 s.time.toMinute
          ++ u24 close ++ flag s.params.time.closingEnabled
          ++ optional 4 u32 (if s.time.valid = true ∧ s.params.time.closingEnabled = true then
              some (if close ≤ s.time.second then close + 86400 - s.time.second else close - s.time.second) else none)
          ++ flag (s.sweeps.closing.state != .inactive)))

/-! ## The Desk Link -/

/-- R183: the bytes of a frame on the line, from the start mark to the last CRC byte, taken one after another by a hunting receiver, give that frame,
and the receiver hunts again; a start mark inside the frame is data. -/
def Obligations.ReceiverAssemblesAFrame : Prop :=
  ∀ (s : State) (f : Frame), s.power.on = true → s.link.receiver = .hunting → f.body.length ≤ 255 →
    Host.Core.run core f.wire.length { s with pending := f.wire.map fun b => .characterReceived b false } =
      .next { s with pending := [], link := { s.link with completed := s.link.completed ++ [f] } }

/-- R182 to R184: while the receiver hunts, a byte other than the start mark, a framing fault and the gap time do nothing; inside a frame, a framing
fault, the gap time, and a body length above 255 each end it as a bad frame, counted, with the receiver hunting again. -/
def Obligations.BadFramesAreDiscardedAndCounted : Prop :=
  ∀ s : State, s.power.on = true →
    let bad : State :=
      { s with
        link := { s.link with receiver := .hunting }
        counters := { s.counters with framesBad := min 4294967295 (s.counters.framesBad + 1) } }
    (s.link.receiver = .hunting →
      exec .frameGapTimeout s = .next s
        ∧ ∀ b fault, exec (.characterReceived b fault) s = .next (
            if fault = false ∧ b = 0xC3#8 then { s with link := { s.link with receiver := .assembling [] 20 } } else s))
    ∧ (∀ bytes left, s.link.receiver = .assembling bytes left →
      exec .frameGapTimeout s = .next bad
        ∧ (∀ b, exec (.characterReceived b true) s = .next bad)
        ∧ ∀ l1 b, bytes = [l1] → 255 < 256 * l1.toNat + b.toNat → exec (.characterReceived b false) s = .next bad)

/-- R184, R185: a complete frame behind two others is discarded unread, marked and counted as an overrun; otherwise a frame whose CRC does not match is
discarded and counted; otherwise it waits behind the frame in hand. -/
def Obligations.CompleteFramesArePlaced : Prop :=
  ∀ (s : State) (f : Frame) (rest : List Frame), s.power.on = true → s.link.completed = f :: rest →
    let p : State := { s with link := { s.link with completed := rest } }
    let good := f.crc = crc16 (Frame.covered f.tag f.type f.body)
    (s.link.inHand.isSome = true → s.link.waiting.isSome = true →
      exec .frameComplete s = .next
        { p with
          link := { p.link with overrun := true }
          counters := { p.counters with overruns := min 4294967295 (p.counters.overruns + 1) } })
    ∧ (s.link.inHand.isSome = false ∨ s.link.waiting.isSome = false → ¬good →
      exec .frameComplete s = .next
        { p with counters := { p.counters with framesBad := min 4294967295 (p.counters.framesBad + 1) } })
    ∧ (s.link.inHand.isSome = true → s.link.waiting.isSome = false → good →
      exec .frameComplete s = .next { p with link := { p.link with waiting := some f } })

/-- R186, R187: a good frame that meets no frame in hand is taken and answered, whatever its type: the reply carries the tag, the type plus 0x80, a matching
CRC, and a body of a status, the link flags OVERRUN, NOTICES_WAITING and RELINKED, and content; the overrun mark is then clear, and the link LINKED. -/
def Obligations.EveryGoodFrameIsAnswered : Prop :=
  ∀ (s : State) (f : Frame) (rest : List Frame), s.power.on = true → s.link.completed = f :: rest → s.link.inHand = none → f.good = true →
    ∃ t r status flags content, exec .frameComplete s = .next t
      ∧ t.link.reply = some r ∧ t.link.inHand = some f ∧ t.link.waiting = s.link.waiting ∧ t.link.completed = rest
      ∧ t.link.overrun = false ∧ t.link.state = .linked
      ∧ r.tag = f.tag ∧ r.type = f.type + 0x80#8 ∧ r.good = true
      ∧ r.body = [BitVec.ofNat 8 (Status.code status), flags] ++ content
      ∧ flags.toNat = s.link.overrun.toNat + 2 * (!t.notices.stored.isEmpty).toNat + 4 * (s.link.state == .standalone).toNat

/-- R186, R189, R207, R208: for every request of the table with every operand, the frame that carries it does, when it is complete and none is in hand, what
the command does. No bit of a request is dropped or read twice. -/
def Obligations.RequestFramesDoTheirCommand : Prop :=
  ∀ (i : Instr) (f : Frame) (s : State), i.frame? = some f → s.power.on = true → s.link.inHand = none →
    f.good = true
      ∧ exec .frameComplete { s with link := { s.link with completed := f :: s.link.completed } } = exec i s

/-- R186, R189, R191, R208: a type that is none of the 37 is answered UNKNOWN_REQUEST, and a body that has not the length of its type BAD_LENGTH, with
status and flags alone and no effect but the return of the link; SET_PARAMETERS is measured against its group, and an unknown group is BAD_VALUE. -/
def Obligations.UnknownTypesAndWrongLengthsAreRefused : Prop :=
  ∀ (s : State) (f : Frame), s.power.on = true → s.link.inHand = none → s.link.completed = [f] → f.good = true →
    let i := Instr.identify 0
    let p : State := { s with link := { s.link with completed := [] } }
    let o : State := { p.taken i with link := { (p.taken i).link with inHand := some f } }
    let refused := fun st : Status =>
      let flags := o.link.overrun.toNat + 2 * (!o.notices.stored.isEmpty).toNat + 4 * (s.link.state == .standalone).toNat
      Host.Outcome.next (φ := Fault) (ρ := Refusal)
        { o with link := { o.link with
            overrun := false
            reply := some (Frame.make f.tag (f.type + 0x80#8) [BitVec.ofNat 8 st.code, BitVec.ofNat 8 flags]) } }
    (f.type ≠ 0x02#8 → requestLength f.type.toNat = none → exec .frameComplete s = refused .unknownRequest)
    ∧ (∀ n, requestLength f.type.toNat = some n → f.body.length ≠ n → exec .frameComplete s = refused .badLength)
    ∧ (f.type = 0x02#8 →
        (f.body = [] → exec .frameComplete s = refused .badLength)
        ∧ ∀ g rest, f.body = g :: rest →
            (groupLength g.toNat = none → exec .frameComplete s = refused .badValue)
            ∧ ∀ n, groupLength g.toNat = some n → rest.length ≠ n → exec .frameComplete s = refused .badLength)

/-- R188: the end of a reply's last byte releases the frame in hand and, in the same act, takes the waiting frame as though it had just been placed; while
no reply is being sent it is no event. -/
def Obligations.ReplyEndTakesTheWaitingFrame : Prop :=
  ∀ s : State, s.power.on = true →
    let freed : State := { s with link := { s.link with reply := none, inHand := none } }
    (s.link.reply = none → exec .replyEnd s = .next s)
    ∧ (s.link.reply.isSome = true → s.link.waiting = none → exec .replyEnd s = .next freed)
    ∧ (∀ f, s.link.reply.isSome = true → s.link.waiting = some f → f.good = true →
        exec .replyEnd s =
          exec .frameComplete { freed with link := { freed.link with waiting := none, completed := f :: s.link.completed } })

/-- R196: when the notice age timer runs out, the link enters STANDALONE with the timer HELD, and LINK_STATE is posted with the number of notices in the
queue just before it; a timer that does not run does not expire. -/
def Obligations.NoticeAgeExpiryEntersStandalone : Prop :=
  ∀ s : State, s.power.on = true →
    exec .noticeAgeTimerExpiry s = .next (match s.link.ageTimer with
      | .running _ =>
        ({ s with link := { s.link with state := .standalone, ageTimer := .held } } : State).post
          { kind := .linkState, code := .link .standalone, value := some s.notices.stored.length }
      | _ => s)

/-- R194, R197: IDENTIFY answers the three codes; taken while the link stands STANDALONE it returns the link, posts LINK_STATE with the provisional count,
and restarts the age timer from the limit in force. R193: GET_PARAMETERS answers the figures of a group in the order of R208, or BAD_VALUE for a code
outside 1 to 4, and changes nothing. -/
def Obligations.LinkAnswersForItself : Prop :=
  (∀ (s : State) (tag : Byte), s.power.on = true →
     let i := Instr.identify tag
     let h : State := { s with link := { s.link with inHand := i.frame? } }
     let p := ({ h with link := { h.link with state := .linked } } : State).post
       { kind := .linkState, code := .link .linked, value := some (s.dir.countP (·.provisional)) }
     let o : State :=
       if s.link.state = .standalone then { p with link := { p.link with ageTimer := .running (s.params.link.ageLimit * 1000) } } else h
     exec i s = .next (i.reply s o .ok [0x1C#8, 0x4E#8, 0x02#8, 0x40#8, 0x03#8]))
  ∧ ∀ (s : State) (tag group : Byte), s.power.on = true →
      let i := Instr.getParameters tag group
      let o := s.taken i
      let p := s.params
      exec i s = .next (match group.toNat with
        | 1 => i.reply s o .ok
            (u16 p.supply.kL ++ u16 p.supply.kC ++ u8 p.supply.d ++ u16 p.supply.lw ++ u16 p.supply.hw ++ u16 p.supply.c)
        | 2 => i.reply s o .ok (u8 p.strings.base ++ u8 p.strings.mult ++ u8 p.strings.allowance ++ u16 p.strings.settle ++ u16 p.strings.gap
            ++ u8 p.strings.auto.toNat ++ u8 p.strings.interval)
        | 3 => i.reply s o .ok (u24 p.time.closing ++ u8 p.time.closingEnabled.toNat ++ u16 p.time.urgency ++ u8 p.time.evacLockers.toNat
            ++ u16 p.time.guest ++ u16 p.time.child ++ u16 p.time.family ++ u16 p.time.staff ++ u8 p.time.occupancy)
        | 4 => i.reply s o .ok (u8 p.link.ageLimit ++ u8 p.link.admitUnknown.toNat)
        | _ => i.reply s o .badValue [])

/-- R116, R117, R191: a SUPPLY group within its ranges replaces all six figures, keeps the account, re-evaluates THROTTLED against the new watermarks and
starts a grant pass; any other is refused BAD_VALUE whole. -/
def Obligations.SupplyGroupIsChecked : Prop :=
  ∀ (s : State) (tag : Byte) (kL kC : BitVec 16) (d : Byte) (lw hw c : BitVec 16), s.power.on = true →
    let i := Instr.setParametersSupply tag kL kC d lw hw c
    let o := s.taken i
    let sound := (1 ≤ kL.toNat ∧ kL.toNat ≤ 4095) ∧ (1 ≤ kC.toNat ∧ kC.toNat ≤ 4095) ∧ 1 ≤ d.toNat
      ∧ lw.toNat < hw.toNat ∧ hw.toNat ≤ c.toNat ∧ max kL.toNat kC.toNat ≤ c.toNat
    exec i s = .next (
      if sound then
        i.reply s
          { o with
            params := { o.params with supply := ⟨kL.toNat, kC.toNat, d.toNat, lw.toNat, hw.toNat, c.toNat⟩ }
            supply := { o.supply with
              throttled := if hw.toNat ≤ o.supply.account then true else if o.supply.account ≤ lw.toNat then false
                else o.supply.throttled }
            arb := { o.arb with grantPass := true } }
          .ok (u16 kL.toNat ++ u16 kC.toNat ++ [d] ++ u16 lw.toNat ++ u16 hw.toNat ++ u16 c.toNat)
      else i.reply s o .badValue [])

/-- R127: a STRINGS group within its ranges replaces the seven figures, and disabling auto-recovery stops every recovery timer; any other is refused
BAD_VALUE whole. R176, R192: a TIME group, and a LINK group, within its ranges replaces its figures and nothing else; any other is refused BAD_VALUE whole. -/
def Obligations.OtherGroupsAreChecked : Prop :=
  (∀ (s : State) (tag base mult allowance : Byte) (settle gap : BitVec 16) (auto interval : Byte), s.power.on = true →
     let i := Instr.setParametersStrings tag base mult allowance settle gap auto interval
     let o := s.taken i
     let sound := base.toNat ≤ 2 ∧ mult.toNat ≤ 63 ∧ allowance.toNat ≤ 15 ∧ (50 ≤ settle.toNat ∧ settle.toNat ≤ 2000) ∧ gap.toNat ≤ 1000
       ∧ auto.toNat ≤ 1 ∧ (1 ≤ interval.toNat ∧ interval.toNat ≤ 60)
     let p : State := { o with params := { o.params with
       strings := ⟨base.toNat, mult.toNat, allowance.toNat, settle.toNat, gap.toNat, auto.toNat == 1, interval.toNat⟩ } }
     let stop := fun c : StringCtl => { c with recoveryTimer := none }
     exec i s = .next (
       if sound then
         i.reply s
           (if auto.toNat = 1 then p else
             { p with strings := ⟨stop p.strings.a, stop p.strings.b, stop p.strings.c, stop p.strings.d⟩ })
           .ok ([base, mult, allowance] ++ u16 settle.toNat ++ u16 gap.toNat ++ [auto, interval])
       else i.reply s o .badValue []))
  ∧ ∀ (s : State) (tag : Byte), s.power.on = true →
      (∀ (closing : BitVec 24) (enable : Byte) (urgency : BitVec 16) (lockers : Byte) (guest child family staff : BitVec 16) (occupancy : Byte),
        let i := Instr.setParametersTime tag closing enable urgency lockers guest child family staff occupancy
        let o := s.taken i
        let sound := closing.toNat ≤ 86399 ∧ enable.toNat ≤ 1 ∧ (500 ≤ urgency.toNat ∧ urgency.toNat ≤ 10000) ∧ lockers.toNat ≤ 1
          ∧ guest.toNat ≤ 1440 ∧ child.toNat ≤ 1440 ∧ family.toNat ≤ 1440 ∧ staff.toNat ≤ 1440
          ∧ (1 ≤ occupancy.toNat ∧ occupancy.toNat ≤ 240)
        exec i s = .next (
          if sound then
            i.reply s
              { o with params := { o.params with
                  time := ⟨closing.toNat, enable.toNat == 1, urgency.toNat, lockers.toNat == 1, guest.toNat, child.toNat, family.toNat,
                    staff.toNat, occupancy.toNat⟩ } }
              .ok (u24 closing.toNat ++ [enable] ++ u16 urgency.toNat ++ [lockers] ++ u16 guest.toNat ++ u16 child.toNat ++ u16 family.toNat
                ++ u16 staff.toNat ++ [occupancy])
          else i.reply s o .badValue []))
      ∧ ∀ age policy : Byte,
        let i := Instr.setParametersLink tag age policy
        let o := s.taken i
        exec i s = .next (
          if (2 ≤ age.toNat ∧ age.toNat ≤ 120) ∧ policy.toNat ≤ 1 then
            i.reply s { o with params := { o.params with link := ⟨age.toNat, policy.toNat == 1⟩ } } .ok [age, policy]
          else i.reply s o .badValue [])

/-! ## Units -/

/-- R21: CONFIGURE_UNIT is refused NO_SUCH_UNIT, BAD_VALUE, NOT_QUIESCED, UNIT_IN_USE or ADDRESS_TAKEN, in that order, and a refusal changes nothing;
otherwise it is answered OK. -/
def Obligations.ConfigureUnitIsChecked : Prop :=
  ∀ (s : State) (tag unit kind string node zone mode interval : Byte), s.power.on = true →
    let i := Instr.configureUnit tag unit kind string node zone mode interval
    let u := unit.toNat
    let sound := kind.toNat ≤ 1 ∧ string.toNat ≤ 3 ∧ (1 ≤ node.toNat ∧ node.toNat ≤ 60) ∧ (1 ≤ zone.toNat ∧ zone.toNat ≤ 15)
      ∧ mode.toNat ≤ 2 ∧ ¬(mode.toNat = 2 ∧ kind.toNat = 0)
    let taken := ∃ v j, isUnit v ∧ v ≠ u ∧ string? string = some j ∧ s.unitNode v = some (j, node.toNat)
    let refused := fun st => exec i s = .next (i.reply s (s.taken i) st [])
    (¬isUnit u → refused .noSuchUnit)
    ∧ (isUnit u → ¬sound → refused .badValue)
    ∧ (isUnit u → sound → s.arb.service ≠ .quiesced → refused .notQuiesced)
    ∧ (isUnit u → sound → s.arb.service = .quiesced → (s.unit u).state ∉ [.unconfigured, .vacant, .withdrawn] → refused .unitInUse)
    ∧ (isUnit u → sound → s.arb.service = .quiesced → (s.unit u).state ∈ [.unconfigured, .vacant, .withdrawn] → taken →
        refused .addressTaken)
    ∧ (isUnit u → sound → s.arb.service = .quiesced → (s.unit u).state ∈ [.unconfigured, .vacant, .withdrawn] → ¬taken →
        ∃ t, exec i s = .next (i.reply s t .ok []))

/-- R22, R162: an accepted CONFIGURE_UNIT writes the six fields, sets the counts and flags afresh, gives an UNCONFIGURED unit the state VACANT as
adjusted by R8, keeps occupied and door while the node stays, and leaves every other unit as it was. R125: a new address joins its roster as an added
node, and an IDLE string enters ACTIVE with score 0 and round count 0, posts STRING_STATE and starts its first round at once; the old address leaves its
roster, a frame to it on the line is stale, and a string without addresses enters IDLE with score 0, its round, gap and recovery timers stopped, with
STRING_STATE. Every other node record, every roster where the address stays and every other string is kept. The new address joins before the old one
leaves (log entry 18), a string that enters IDLE keeps its round count and its overruns (log entry 25), and a line held for a grant pass sends nothing
(log entry 28): the model's. Where a slot has the unit on offer, on whichever string, its candidate is then dropped and marked for repeat, and the walk
there resumes: EVACUATION before CLOSING, the model's order (log entry 16), and so is the change of the rosters with its STRING_STATE ahead of the drops
and their walks (log entry 18). -/
def Obligations.ConfigureUnitWritesTheUnit : Prop :=
  ∀ (s : State) (tag unit kind string node zone mode interval : Byte) (c : UnitConfig), s.power.on = true →
    let i := Instr.configureUnit tag unit kind string node zone mode interval
    let u := unit.toNat
    let r := s.unit u
    let stays := s.unitNode u = some (c.string, c.node)
    let occupied := r.occupied && c.kind == .cabin && decide stays
    let written :=
      { r with
        config := some c, dwell := 0, overstayReported := false, occupied := occupied, occupancy := 0, occupancyReported := false
        uses := 0, tamper := false, last := none, door := if stays then r.door else none
        state := if r.state = .withdrawn then .withdrawn else if c.mode = .freeUse ∧ occupied = true then .occupied else .vacant }
    let base := (s.taken i).setUnit u written
    let joined := base.nodeJoins c.string c.node
    let moves := fun j a => s.unitNode u = some (j, a) ∧ ¬stays
    isUnit u → unitConfig? kind string node zone mode interval = some c → s.arb.service = .quiesced →
    r.state ∈ [.unconfigured, .vacant, .withdrawn] → (∀ v, isUnit v → v ≠ u → s.unitNode v ≠ some (c.string, c.node)) →
    (s.node? c.string c.node).isSome = decide stays →
    ∃ b m t, exec i s = .next (i.reply s t .ok [])
      ∧ b.Drops .evacuation (b.offeredOn .evacuation u) true m ∧ m.Drops .closing (m.offeredOn .closing u) true t
      ∧ b = (if stays then base else match s.unitNode u with | none => joined | some (j, a) => joined.nodeLeaves j a)
      ∧ b.unit u = written
      ∧ (∀ v, v ≠ u → b.unit v = s.unit v)
      ∧ (stays → b.strings = s.strings)
      ∧ (¬stays → b.node? c.string c.node = some (NodeRecord.added c.node)
          ∧ ∀ j a, s.unitNode u = some (j, a) → b.node? j a = none)
      ∧ (∀ j a, ¬moves j a → (j, a) ≠ (c.string, c.node) → b.node? j a = s.node? j a)
      ∧ (∀ j, j ≠ c.string → (∀ a, ¬moves j a) → b.str j = s.str j)
      ∧ (¬stays → (s.str c.string).state = .idle → (∀ a, ¬moves c.string a) →
          (b.str c.string).state = .active ∧ (b.str c.string).score = 0 ∧ (b.str c.string).roundCount = 0
          ∧ (b.str c.string).inRound = true ∧ (b.str c.string).roundTimer = some s.roundPeriod)
      ∧ (∀ j a, moves j a → j ≠ c.string → (∀ n ∈ (s.str j).nodes, n.addr = a) →
          (b.str j).state = .idle ∧ (b.str j).score = 0 ∧ (b.str j).nodes = [] ∧ (b.str j).roundTimer = none
          ∧ (b.str j).gapTimer = none ∧ (b.str j).recoveryTimer = none ∧ (b.str j).inRound = false)
      ∧ (∀ j a x, moves j a → (s.str j).exchange = some x → x.node = a → (b.str j).exchange = some { x with stale := true })
      ∧ { b.arb with grantPass := s.arb.grantPass } = s.arb ∧ b.sweeps = s.sweeps
      ∧ Changes [.units, .arb, .strings, .link, .notices, .counters] s b ∧ t.strings = b.strings

/-- R23, R162: REMOVE_UNIT is refused NO_SUCH_UNIT, NOT_QUIESCED, BAD_STATE or UNIT_IN_USE, in that order; accepted, it gives the unit the values of a
cold start, takes its node off the roster, and takes the unit out of the sweeps' marks and visit sets. R125: the node record is discarded and a frame to
the node on the line is stale; the last address removed takes the string to IDLE with score 0, its round, gap and recovery timers stopped, with
STRING_STATE; every other node record and every other string is kept. A string that enters IDLE keeps its round count and its overruns (log entry 25),
and a line held for a grant pass sends nothing (log entry 28): the model's. Where a slot has the unit on offer its candidate is then dropped without a
mark, and the walk there resumes: EVACUATION before CLOSING, the model's order (log entry 16), and so is the change of the roster with its STRING_STATE
ahead of the drops and their walks (log entry 18). -/
def Obligations.RemoveUnitTakesItOut : Prop :=
  ∀ (s : State) (tag unit : Byte), s.power.on = true →
    let i := Instr.removeUnit tag unit
    let u := unit.toNat
    let st := (s.unit u).state
    let refused := fun code => exec i s = .next (i.reply s (s.taken i) code [])
    let base := (s.taken i).setUnit u UnitRecord.cold
    let gone := match s.unitNode u with | none => base | some (j, a) => base.nodeLeaves j a
    let out := fun x : SweepSlot => { x with marks := x.marks.filter (· != u), visit := x.visit.filter (· != u) }
    (¬isUnit u → refused .noSuchUnit)
    ∧ (isUnit u → s.arb.service ≠ .quiesced → refused .notQuiesced)
    ∧ (isUnit u → s.arb.service = .quiesced → st = .unconfigured → refused .badState)
    ∧ (isUnit u → s.arb.service = .quiesced → st ∉ [.unconfigured, .vacant, .withdrawn] → refused .unitInUse)
    ∧ (isUnit u → s.arb.service = .quiesced → st ∈ [.vacant, .withdrawn] →
        ∃ b m t, exec i s = .next (i.reply s t .ok [])
          ∧ b.Drops .evacuation (b.offeredOn .evacuation u) false m ∧ m.Drops .closing (m.offeredOn .closing u) false t
          ∧ b = { gone with sweeps := { s.sweeps with evacuation := out s.sweeps.evacuation, closing := out s.sweeps.closing } }
          ∧ b.unit u = UnitRecord.cold ∧ (∀ v, v ≠ u → b.unit v = s.unit v)
          ∧ (∀ j a, s.unitNode u = some (j, a) → b.node? j a = none)
          ∧ (∀ j a, s.unitNode u ≠ some (j, a) → b.node? j a = s.node? j a)
          ∧ (∀ j, (∀ a, s.unitNode u ≠ some (j, a)) → b.str j = s.str j)
          ∧ (∀ j a, s.unitNode u = some (j, a) → (∀ n ∈ (s.str j).nodes, n.addr = a) →
              (b.str j).state = .idle ∧ (b.str j).score = 0 ∧ (b.str j).nodes = [] ∧ (b.str j).roundTimer = none
              ∧ (b.str j).gapTimer = none ∧ (b.str j).recoveryTimer = none ∧ (b.str j).inRound = false)
          ∧ (∀ j a x, s.unitNode u = some (j, a) → (s.str j).exchange = some x → x.node = a →
              (b.str j).exchange = some { x with stale := true })
          ∧ (∀ k, b.slot k = { s.slot k with marks := (s.slot k).marks.filter (· != u), visit := (s.slot k).visit.filter (· != u) })
          ∧ { b.arb with grantPass := s.arb.grantPass } = s.arb
          ∧ Changes [.units, .arb, .strings, .sweeps, .link, .notices, .counters] s b ∧ t.unit u = UnitRecord.cold ∧ t.strings = b.strings)

/-- R24, R25: WITHDRAW_UNIT, RESTORE_UNIT and MARK_CLEAN, over every state of the unit. -/
def Obligations.UnitsLeaveAndReturnToService : Prop :=
  ∀ (s : State) (tag unit : Byte), s.power.on = true →
    let u := unit.toNat
    let r := s.unit u
    let back : UnitState := if r.freeUse = true ∧ r.occupied = true then .occupied else .vacant
    let w := Instr.withdrawUnit tag unit
    let e := Instr.restoreUnit tag unit
    let c := Instr.markClean tag unit
    exec w s = .next (
        if ¬isUnit u then w.reply s (s.taken w) .noSuchUnit []
        else match r.state with
          | .vacant => w.reply s ((s.taken w).setUnit u { r with state := .withdrawn }) .ok []
          | .withdrawn => w.reply s (s.taken w) .ok []
          | .unconfigured => w.reply s (s.taken w) .badState []
          | _ => w.reply s (s.taken w) .unitInUse [])
      ∧ exec e s = .next (
        if ¬isUnit u then e.reply s (s.taken e) .noSuchUnit []
        else if r.state = .withdrawn then e.reply s ((s.taken e).setUnit u { r with state := back }) .ok []
        else e.reply s (s.taken e) .badState [])
      ∧ exec c s = .next (
        if ¬isUnit u then c.reply s (s.taken c) .noSuchUnit []
        else if r.state = .cleaning then c.reply s ((s.taken c).setUnit u { r with uses := 0, state := back }) .ok []
        else c.reply s (s.taken c) .badState [])

/-- R26, R27, R209: QUERY_UNIT and LIST_UNITS change nothing. QUERY_UNIT answers the 30 bytes of the unit report; LIST_UNITS the first 24 units, ascending from
the start unit, whose state is in the set and whose kind and zone pass, each with its state, kind, zone and holder, and the number of the 25th, or 0. The
layout of a LIST_UNITS reply is the model's reading of R208, log entry 13. -/
def Obligations.UnitsAreReported : Prop :=
  ∀ (s : State) (tag unit : Byte) (states : BitVec 16) (filter zone start : Byte), s.power.on = true →
    let q := Instr.queryUnit tag unit
    let l := Instr.listUnits tag states filter zone start
    let kindPasses := fun k : UnitKind => filter == 2 || (filter == 0 && k == .cabin) || (filter == 1 && k == .locker)
    let fits := fun u => states.getLsbD (stateCode (s.unit u).state) && match (s.unit u).config with
      | none => zone == 0
      | some c => kindPasses c.kind && (zone == 0 || c.zone == zone.toNat)
    let found := ((List.range 240).map (· + 1)).filter fun u => decide (start.toNat ≤ u) && fits u
    exec q s = .next (if isUnit unit.toNat then q.reply s (s.taken q) .ok (s.unitBytes unit.toNat) else q.reply s (s.taken q) .noSuchUnit [])
      ∧ exec l s = .next (
        if ¬isUnit start.toNat then l.reply s (s.taken l) .noSuchUnit []
        else if (∀ n, n < 12 → states.getLsbD n = false) ∨ 15 < zone.toNat ∨ 2 < filter.toNat then l.reply s (s.taken l) .badValue []
        else l.reply s (s.taken l) .ok
          (u8 (found.take 24).length ++ ((found.take 24).map s.listedUnit).flatten ++ u8 ((found.drop 24).head?.getD 0)))

/-! ## Bands -/

/-- R43, R44, R34: REGISTER_BAND is refused BAD_VALUE, ALREADY_REGISTERED or DIRECTORY_FULL, in that order; accepted, it puts in its place an entry with the
given figures, the class defaults for an allowance not given, no mark set and no holdings. -/
def Obligations.RegisterBandMakesAnEntry : Prop :=
  ∀ (s : State) (tag : Byte) (band : BandId) (cls group : Byte) (validity : BitVec 16) (lockers cabins : Byte), s.power.on = true →
    let i := Instr.registerBand tag band cls group validity lockers cabins
    let o := s.taken i
    let sound := band ≠ 0 ∧ cls.toNat ≤ 3 ∧ validity.toNat ≤ 1440 ∧ (lockers = 0xFF#8 ∨ lockers.toNat ≤ 3)
      ∧ (cabins = 0xFF#8 ∨ cabins.toNat ≤ 1)
      ∧ (cls.toNat = 3 → (lockers = 0xFF#8 ∨ lockers = 0) ∧ (cabins = 0xFF#8 ∨ cabins = 0))
    let e : Band :=
      { id := band
        cls := if cls = 0 then .guest else if cls = 1 then .child else if cls = 2 then .family else .staff
        group := group.toNat
        lockers := if lockers = 0xFF#8 then (if cls = 2 then 3 else if cls = 3 then 0 else 1) else lockers.toNat
        cabins := if cabins = 0xFF#8 then (if cls = 2 then 1 else 0) else cabins.toNat
        validity := validity.toNat, expired := false, lost := false, provisional := false, holdings := [] }
    (¬sound → exec i s = .next (i.reply s o .badValue []))
    ∧ (sound → (s.dir.any (·.id == band)) = true → exec i s = .next (i.reply s o .alreadyRegistered []))
    ∧ (sound → (s.dir.any (·.id == band)) = false → 1024 ≤ s.dir.length → exec i s = .next (i.reply s o .directoryFull []))
    ∧ (sound → (s.dir.any (·.id == band)) = false → s.dir.length < 1024 →
        exec i s = .next (i.reply s { o with dir := s.dir.takeWhile (·.id ≤ band) ++ e :: s.dir.dropWhile (·.id ≤ band) } .ok []))

/-- R45, R46: AMEND_BAND is refused BAD_VALUE, NO_SUCH_BAND, BAD_VALUE for a STAFF allowance, or ALLOWANCE_EXCEEDED, in that order; accepted, it writes the
named items and the resulting allowances, clears the provisional mark and, with a named validity, the expired mark, keeps all else of the entry and
every other entry, and answers the 14 + 3n bytes of the band report (R209). -/
def Obligations.AmendBandWritesTheNamedItems : Prop :=
  ∀ (s : State) (tag : Byte) (band : BandId) (named cls group lockers cabins : Byte) (validity : BitVec 16), s.power.on = true →
    let i := Instr.amendBand tag band named cls group lockers cabins validity
    let o := s.taken i
    let n := fun k => named.getLsbD k
    let bad := band = 0 ∨ (n 0 = true ∧ 3 < cls.toNat) ∨ (n 2 = true ∧ 3 < lockers.toNat) ∨ (n 3 = true ∧ 1 < cabins.toNat)
      ∨ (n 4 = true ∧ 1440 < validity.toNat)
    let given : BandClass := if cls = 0 then .guest else if cls = 1 then .child else if cls = 2 then .family else .staff
    let result := fun e : Band =>
      { e with
        cls := if n 0 then given else e.cls
        group := if n 1 then group.toNat else e.group
        lockers := if n 2 then lockers.toNat else if n 0 then (match given with | .family => 3 | .staff => 0 | _ => 1) else e.lockers
        cabins := if n 3 then cabins.toNat else if n 0 then (match given with | .family => 1 | _ => 0) else e.cabins
        validity := if n 4 then validity.toNat else e.validity
        expired := if n 4 then false else e.expired
        provisional := false }
    let held := fun (e : Band) k => e.holdings.countP fun u => (s.unit u).config.elim false (·.kind == k)
    exec i s = .next (
      if bad then i.reply s o .badValue []
      else match s.dir.find? (·.id == band) with
        | none => i.reply s o .noSuchBand []
        | some e =>
          if (result e).cls = .staff ∧ ((n 2 = true ∧ 0 < lockers.toNat) ∨ (n 3 = true ∧ 0 < cabins.toNat)) then i.reply s o .badValue []
          else if (result e).lockers < held e .locker ∨ (result e).cabins < held e .cabin then i.reply s o .allowanceExceeded []
          else
            let t : State := { o with dir := s.dir.map fun x => if x.id = band then result x else x }
            i.reply s t .ok (t.bandBytes (result e)))

/-- R47: CHECK_OUT_BAND is refused BAD_VALUE, NO_SUCH_BAND, UNIT_BUSY with the holdings in LOCKING or UNLOCKING, or in mode NORMAL HOLDINGS_REMAIN with
those in HELD, JAMMED or VERIFY, in that order, and a refusal changes nothing. R48, R16: an accepted CHECK_OUT_BAND deletes the entry and releases every
holding: the holder goes, an OPEN_HELD unit becomes VACANT as adjusted by R8, a HELD one FORFEITED, a JAMMED or VERIFY one keeps state and intent; no other
unit and no other entry changes, and the reply gives each former holding with its kind and new state. That the refusals list units alone, without kind and
state, is the model's choice (log entry 13, DESIGN CHOICE). -/
def Obligations.CheckOutBandReleasesEveryHolding : Prop :=
  (∀ (s : State) (tag : Byte) (band : BandId) (mode : Byte), s.power.on = true →
     let i := Instr.checkOutBand tag band mode
     let o := s.taken i
     let list := fun us : List Nat => u8 us.length ++ (us.map u8).flatten
     let inState := fun (e : Band) (sts : List UnitState) => e.holdings.filter fun u => sts.contains (s.unit u).state
     (band = 0 ∨ 1 < mode.toNat → exec i s = .next (i.reply s o .badValue []))
     ∧ (band ≠ 0 → mode.toNat ≤ 1 → s.dir.find? (·.id == band) = none → exec i s = .next (i.reply s o .noSuchBand []))
     ∧ ∀ e, band ≠ 0 → mode.toNat ≤ 1 → s.dir.find? (·.id == band) = some e →
         let busy := inState e [.locking, .unlocking]
         let remain := inState e [.held, .jammed, .verify]
         if busy ≠ [] then exec i s = .next (i.reply s o .unitBusy (list busy))
         else if mode = 0 ∧ remain ≠ [] then exec i s = .next (i.reply s o .holdingsRemain (list remain))
         else ∃ t content, exec i s = .next (i.reply s t .ok content))
  ∧ ∀ (s : State) (tag : Byte) (band : BandId) (mode : Byte) (e : Band), s.power.on = true → s.TenancyInv →
      let i := Instr.checkOutBand tag band mode
      let o := s.taken i
      band ≠ 0 → mode.toNat ≤ 1 → s.dir.find? (·.id == band) = some e →
      (∀ u ∈ e.holdings, (s.unit u).state ∉ [.locking, .unlocking]) →
      (mode = 0 → ∀ u ∈ e.holdings, (s.unit u).state ∉ [.held, .jammed, .verify]) →
      ∃ t, exec i s = .next (i.reply s t .ok (t.holdingsListed e.holdings))
        ∧ t.dir = s.dir.filter (·.id != band)
        ∧ (∀ u, u ∈ e.holdings → t.unit u =
            { s.unit u with
              holder := none, overstayReported := false
              state := match (s.unit u).state with
                | .openHeld => if (s.unit u).freeUse = true ∧ (s.unit u).occupied = true then .occupied else .vacant
                | .held => .forfeited
                | st => st })
        ∧ (∀ u, u ∉ e.holdings → t.unit u = s.unit u)
        ∧ Changes [.units, .dir] o t

/-- R50, R51, R4: TRANSFER_HOLDINGS is refused in the order of R50; accepted, the old band's holdings move to the end of the new band's, each unit's holder
is rewritten and nothing else of it, and the reply lists the new band's holdings. That UNIT_BUSY lists units alone, without kind and state, is the model's
choice (log entry 13, DESIGN CHOICE). -/
def Obligations.TransferMovesEveryHolding : Prop :=
  ∀ (s : State) (tag : Byte) (old new : BandId), s.power.on = true →
    let i := Instr.transferHoldings tag old new
    let o := s.taken i
    let held := fun (e : Band) k => e.holdings.countP fun u => (s.unit u).config.elim false (·.kind == k)
    let list := fun us : List Nat => u8 us.length ++ (us.map u8).flatten
    if old = 0 ∨ new = 0 ∨ old = new then exec i s = .next (i.reply s o .badValue [])
    else match s.dir.find? (·.id == old), s.dir.find? (·.id == new) with
      | some a, some b =>
        let busy := a.holdings.filter fun u => [UnitState.locking, .unlocking].contains (s.unit u).state
        if b.lost = true then exec i s = .next (i.reply s o .bandLost [])
        else if b.expired = true then exec i s = .next (i.reply s o .bandExpired [])
        else if b.lockers < held b .locker + held a .locker ∨ b.cabins < held b .cabin + held a .cabin then
          exec i s = .next (i.reply s o .allowanceExceeded [])
        else if busy ≠ [] then exec i s = .next (i.reply s o .unitBusy (list busy))
        else ∃ t, exec i s = .next (i.reply s t .ok (s.holdingsListed (b.holdings ++ a.holdings)))
          ∧ t.dir = s.dir.map (fun x =>
              if x.id = old then { x with holdings := [] } else if x.id = new then { x with holdings := x.holdings ++ a.holdings } else x)
          ∧ (∀ u, t.unit u = if isUnit u ∧ u ∈ a.holdings then { s.unit u with holder := some new } else s.unit u)
          ∧ Changes [.units, .dir] o t
      | _, _ => exec i s = .next (i.reply s o .noSuchBand [])

/-- R49, R52, R53, R54: REPORT_LOST marks the band and lists its holdings; QUERY_BAND answers the band report; LIST_BANDS the first 16 entries, ascending
from the start, for which every named condition holds, and the ID of the 17th, or 0; CLEAR_DIRECTORY empties the Directory in QUIESCED where no band holds
a unit. The model's choices: LIST_BANDS ignores bits 4 to 7 of its selection (log entry 21), and CLEAR_DIRECTORY
answers with the number of entries removed, or at HOLDINGS_REMAIN with the number of bands that hold units, in 1 byte by R208, and the
first of them (log entry 13). -/
def Obligations.BandsAreMarkedListedAndCleared : Prop :=
  ∀ (s : State) (tag : Byte) (band start : BandId) (selection : Byte), s.power.on = true →
    let r := Instr.reportLost tag band
    let q := Instr.queryBand tag band
    let l := Instr.listBands tag selection start
    let c := Instr.clearDirectory tag
    let named := fun (e : Band) =>
      (selection.getLsbD 0 = true → e.lost = true) ∧ (selection.getLsbD 1 = true → e.provisional = true)
        ∧ (selection.getLsbD 2 = true → e.expired = true) ∧ (selection.getLsbD 3 = true → e.holdings ≠ [])
    let found := s.dir.filter fun e => decide (start.toNat ≤ e.id.toNat ∧ named e)
    let holding := s.dir.filter fun e => decide (e.holdings ≠ [])
    exec r s = .next (
        if band = 0 then r.reply s (s.taken r) .badValue []
        else match s.dir.find? (·.id == band) with
          | none => r.reply s (s.taken r) .noSuchBand []
          | some e =>
            r.reply s { s.taken r with dir := s.dir.map fun x => if x.id = band then { x with lost := true } else x } .ok
              (s.holdingsListed e.holdings))
      ∧ exec q s = .next (
        if band = 0 then q.reply s (s.taken q) .badValue []
        else match s.dir.find? (·.id == band) with
          | none => q.reply s (s.taken q) .noSuchBand []
          | some e => q.reply s (s.taken q) .ok (s.bandBytes e))
      ∧ exec l s = .next (
        if start = 0 then l.reply s (s.taken l) .badValue []
        else l.reply s (s.taken l) .ok
          (u8 (found.take 16).length
            ++ ((found.take 16).map fun e =>
                u32 e.id.toNat ++ classByte e.cls ++ u8 e.group ++ flag e.expired ++ flag e.lost ++ flag e.provisional
                  ++ u8 e.holdings.length).flatten
            ++ u32 ((found.drop 16).head?.elim 0 (·.id.toNat))))
      ∧ exec c s = .next (
        if s.arb.service ≠ .quiesced then c.reply s (s.taken c) .notQuiesced []
        else match holding with
          | e :: _ => c.reply s (s.taken c) .holdingsRemain (u8 holding.length ++ u32 e.id.toNat)
          | [] => c.reply s { s.taken c with dir := [] } .ok (u16 s.dir.length))

/-! ## Demands and service -/

/-- R83 to R87: DEMAND is refused in the order of R84, with no effect. A FREE at an OPEN_HELD unit releases it in the act, takes a tag and posts
DEMAND_DONE; any other takes the unit's intent and enters its record and its demand, under the next tag, which then moves on past every tag in use. -/
def Obligations.DemandIsCheckedAndTaken : Prop :=
  ∀ (s : State) (tag unit action : Byte), s.power.on = true → s.arb.demands.length ≤ 8 →
    let i := Instr.demand tag unit action
    let o := s.taken i
    let u := unit.toNat
    let r := s.unit u
    let next := s.arb.nextTag
    let act := if action = 0 then StaffAction.openUnit else if action = 1 then .lockUnit else .freeUnit
    let cause := if action = 0 then Cause.staffOpen else if action = 1 then .staffLock else .staffFree
    let allowed := if action = 0 then [UnitState.held, .jammed, .forfeited, .occupied, .withdrawn] else if action = 1 then [.openHeld]
      else [.held, .jammed, .forfeited, .verify, .openHeld]
    let busy := r.state ∈ [.locking, .unlocking]
    let atOnce := action = 2 ∧ r.state = .openHeld
    let refused := fun st => exec i s = .next (i.reply s o st [])
    (¬isUnit u → refused .noSuchUnit)
    ∧ (isUnit u → 2 < action.toNat → refused .badValue)
    ∧ (isUnit u → action.toNat ≤ 2 → busy → refused .unitBusy)
    ∧ (isUnit u → action.toNat ≤ 2 → ¬busy → r.state ∉ allowed → refused .badState)
    ∧ (isUnit u → action.toNat ≤ 2 → r.state ∈ allowed → atOnce →
        ∃ n, NextTag next s.arb.demands n
          ∧ exec i s = .next (i.reply s
              (({ o.setUnit u { r.freed with state := r.adjusted .vacant } with
                  dir := s.dirWithout u, arb := { s.arb with nextTag := n } } : State).post
                (s.unitNotice .demandDone u r.holder (.demand .done) (some next)))
              .ok (u8 next)))
    ∧ (isUnit u → action.toNat ≤ 2 → r.state ∈ allowed → ¬atOnce →
        if s.arb.demands.length = 8 then refused .demandLimit
        else if 32 ≤ s.arb.queue.length then refused .queueFull
        else
          let d : Demand := { tag := next, unit := u, action := act, inFlight := false }
          let t := o.recordTaken u cause .staff (some act) none (some next)
          ∃ n, NextTag next (s.arb.demands ++ [d]) n
            ∧ exec i s = .next (i.reply s { t with arb := { t.arb with demands := s.arb.demands ++ [d], nextTag := n } } .ok (u8 next)))

/-- R89, R7: CANCEL_DEMAND of a QUEUED demand removes its record and the demand, withdraws the unit's intent, and posts no DEMAND_DONE; a tag of 0, a tag
that no demand holds, and a demand IN_FLIGHT are refused with no effect. -/
def Obligations.CancelDemandWithdraws : Prop :=
  ∀ (s : State) (tag demandTag : Byte), s.power.on = true →
    let i := Instr.cancelDemand tag demandTag
    let o := s.taken i
    exec i s = .next (
      if demandTag = 0 then i.reply s o .badValue []
      else match s.arb.demands.find? (·.tag == demandTag.toNat) with
        | none => i.reply s o .noSuchDemand []
        | some d =>
          if d.inFlight = true then i.reply s o .inFlight []
          else
            i.reply s
              { o.withdrawn d.unit with
                arb := { s.arb with
                  queue := s.arb.queue.filter (·.unit != d.unit), demands := s.arb.demands.filter (·.tag != d.tag) } }
              .ok [])

/-- R7 to R13: what the Tenancy Table does with an outcome and with a withdrawal, for every unit, intent, holder and mode, and the adjustment of a target
state. The operations named are those that completions, cancellations and removals share. R146, R147, R88, R163, R164 and R104: a completion moves the
counters, starts the gap, takes effect on the unit, closes its demand, counts for its sweep and may bring QUIESCED. The spec gives these effects and not
their whole order: that of the clause on completions, and with it the order of their notices, is the model's (log entry 17, DESIGN CHOICE), and so is the
line held for the grant pass after a gap of 0 (log entry 28). -/
def Obligations.OutcomesTakeEffectOnTheUnit : Prop :=
  (∀ (s : State) (u : Nat) (o : Completion) (limited : Bool), s.takeOutcome u o limited = s.outcomeTaken u o limited)
  ∧ (∀ (s : State) (u : Nat), s.withdrawIntent u = s.withdrawn u)
  ∧ (∀ (s : State) (u : Nat) (why : WithdrawReason), s.withdrawGuest u why = s.guestWithdrawn u why)
  ∧ (∀ (s : State) (i : StringId) (o : Completion) (cleared : Bool), o ≠ .doneLate → s.complete i o cleared = s.ended i o cleared)
  ∧ ∀ (r : UnitRecord) (target : UnitState), adjust r target = r.adjusted target

/-- R103, R104, R105, R96: QUIESCE waits for actuations in flight or enters QUIESCED at once with its notice; RESUME enters RUNNING and starts a grant pass;
and the closing-urgency timer, where it runs, sets the flag at its expiry and starts a grant pass. -/
def Obligations.ServiceStopsAndResumes : Prop :=
  ∀ (s : State) (tag : Byte), s.power.on = true →
    let q := Instr.quiesce tag
    let r := Instr.resume tag
    let stand := fun (o : State) service => ({ o with arb := { s.arb with service := service } } : State)
    exec q s = .next (match s.arb.service with
      | .quiescing => q.reply s (s.taken q) .ok (u8 1)
      | .quiesced => q.reply s (s.taken q) .ok (u8 2)
      | .running =>
        if ∃ i ∈ allStrings, (s.str i).inFlight ≠ none then q.reply s (stand (s.taken q) .quiescing) .ok (u8 1)
        else q.reply s ((stand (s.taken q) .quiesced).post { kind := .quiesced, value := some s.arb.queue.length }) .ok (u8 2))
    ∧ exec r s = .next (
        if s.arb.service = .running then r.reply s (s.taken r) .ok []
        else r.reply s { s.taken r with arb := { s.arb with service := .running, grantPass := true } } .ok [])
    ∧ exec .closingUrgencyTimerExpiry s = .next (
        if s.arb.urgencyTimer = none then s
        else { s with arb := { s.arb with urgent := true, urgencyTimer := none, grantPass := true } })

/-- R106, R122, R150: what QUERY_DISPATCH, QUERY_SUPPLY and QUERY_STRING report, the refusal of their operands, and the latches that the last two clear
after their reply. The order of the items is that of the rules, and their layout, with the order of the demands and of a string's candidates, the model's
where R106 and R208 leave it open (log entry 13); the codes of the door, of an UNKNOWN bolt and of an UNKNOWN inside bolt are the model's (log entry 14);
and the round period is that of the figures now in force, also where the running round started under others (log entry 27, the model's choice). -/
def Obligations.DispatchSupplyAndStringsAreReported : Prop :=
  ∀ (s : State) (tag start clear string : Byte), s.power.on = true →
    let q := Instr.queryDispatch tag start
    let p := Instr.querySupply tag clear
    let g := Instr.queryString tag string start clear
    let n := start.toNat
    let age := fun t : Millis => u32 (s.time.timebase - t).toNat
    let record := fun r : ActRecord =>
      u8 (r.semantics.isSome.toNat + 2 * r.band.isSome.toNat + 4 * r.tag.isSome.toNat) ++ u8 r.unit ++ u8 (directionCode r.direction)
        ++ u8 (originCode r.origin) ++ u8 (r.semantics.elim 0 actionCode) ++ u32 (r.band.elim 0 (·.toNat)) ++ u8 (r.tag.getD 0)
        ++ age r.enqueuedAt
    let offer := fun (k : SlotId) (j : StringId) =>
      ((s.slot k).offers.get j).toList.map fun o => u8 o.unit ++ u8 (match k with | .evacuation => 3 | .closing => 4)
    let line := fun j : StringId =>
      optional 2 (fun f : InFlight => u8 f.unit ++ u8 (originCode f.origin)) (s.str j).inFlight
        ++ flag (s.str j).gapTimer.isSome
        ++ entries id (offer .evacuation j ++ offer .closing j)
    let inhibit := fun j : StringId => match (s.str j).state with | .degraded => u8 1 ++ u8 3 | .off => u8 1 ++ u8 4 | _ => u8 0 ++ u8 0
    let here := (s.arb.queue.drop (n - 1)).take 8
    let flying := fun c : StringCtl => c.inFlight.isSome
    let ticks := fun x => (x + s.params.supply.d - 1) / s.params.supply.d
    let fit := fun cost => u32 (ticks (s.supply.account + cost - s.params.supply.c))
    let f := s.params.supply
    exec q s = .next (
      if n < 1 ∨ 32 < n then q.reply s (s.taken q) .badValue []
      else q.reply s (s.taken q) .ok
        (u8 (serviceCode s.arb.service) ++ flag s.arb.urgent ++ optional 4 u32 s.arb.urgencyTimer ++ u8 s.arb.queue.length
          ++ u8 here.length ++ (here.map record).flatten ++ u8 (if s.arb.queue.length < n + 8 then 0 else n + 8)
          ++ u8 s.arb.demands.length
          ++ (s.arb.demands.map fun d => u8 d.tag ++ u8 d.unit ++ u8 (actionCode d.action) ++ flag d.inFlight).flatten
          ++ line .a ++ line .b ++ line .c ++ line .d
          ++ flag s.supply.lowLevel ++ flag s.supply.throttled ++ flag s.sweeps.alarm ++ flag (s.sweeps.evacuation.state != .inactive)
          ++ inhibit .a ++ inhibit .b ++ inhibit .c ++ inhibit .d ++ u8 s.arb.nextTag))
    ∧ exec p s = .next (
      if 1 < clear.toNat then p.reply s (s.taken p) .badValue []
      else p.reply s
        (if clear = 1 then { s.taken p with supply := { s.supply with lowSeen := false, limitSeen := false } } else s.taken p) .ok
        (u16 s.supply.account ++ flag s.supply.throttled
          ++ u16 f.kL ++ u16 f.kC ++ u8 f.d ++ u16 f.lw ++ u16 f.hw ++ u16 f.c
          ++ flag s.supply.lowLevel ++ flag s.supply.limitLevel ++ flag s.supply.lowSeen ++ flag s.supply.limitSeen
          ++ u8 (s.strings.toList.countP flying)
          ++ u8 (s.strings.toList.countP fun c => c.inFlight.elim false (·.limited))
          ++ u16 (f.c - s.supply.account)
          ++ u32 (if s.supply.throttled then ticks (s.supply.account - f.lw) else 0)
          ++ fit f.kL ++ fit f.kC))
    ∧ (3 < string.toNat ∨ n < 1 ∨ 60 < n ∨ 1 < clear.toNat → exec g s = .next (g.reply s (s.taken g) .badValue []))
    ∧ ∀ j, string? string = some j → 1 ≤ n → n ≤ 60 → clear.toNat ≤ 1 →
        let c := s.str j
        let rest := c.nodes.filter fun x => n ≤ x.addr
        let listed := rest.take 12
        let node := fun x : NodeRecord =>
          flag x.lastSeq.isSome ++ u8 x.addr ++ u8 ((s.unitAt j x.addr).getD 0) ++ u8 (presenceCode x.presence) ++ u8 x.misses
            ++ u8 (doorCode x.door) ++ u8 (boltCode x.bolt) ++ u8 (insideCode x.inside) ++ u8 (x.lastSeq.getD 0)
            ++ u8 (indicatorCode x.pending) ++ flag x.readerMark ++ flag x.actuatorMark ++ flag x.readerLatch ++ flag x.actuatorLatch
        let flight := fun y : InFlight =>
          u8 y.unit ++ u8 (directionCode y.direction) ++ u8 (originCode y.origin) ++ u8 (phaseCode y.phase) ++ flag y.limited
            ++ optional 4 u32 c.settleTimer
        let cleared : StringCtl :=
          { c with nodes := c.nodes.map fun x =>
              if x.addr ∈ listed.map (·.addr) then { x with readerLatch := false, actuatorLatch := false } else x }
        exec g s = .next (g.reply s
          (if clear = 1 then { s.taken g with strings := s.strings.set j cleared } else s.taken g) .ok
          (u8 (stringStateCode c.state) ++ u16 c.score ++ u32 s.roundPeriod ++ u8 c.roundCount ++ flag c.inRound
            ++ optional 4 u32 c.recoveryTimer ++ flag s.params.strings.auto ++ optional 10 flight c.inFlight ++ optional 4 u32 c.gapTimer
            ++ u8 c.nodes.length ++ u8 listed.length ++ (listed.map node).flatten ++ u8 ((rest.drop 12).head?.elim 0 (·.addr))))

/-! ## Grants -/

/-- R95, R97, R99: a candidate is eligible exactly where the seven conditions hold; the candidates are the queued records and the offers, in rank order, the
records of a rank in queue order and the offers of a rank oldest first and then by string; and a grant pass takes the first eligible one. -/
def Obligations.GrantPassLooksInRankOrder : Prop :=
  ∀ s : State,
    let rank : Candidate → Nat := fun
      | .offer .evacuation _ _ => 1
      | .record r => match r.origin with | .staff => 2 | .guestUnlock => 4 | _ => 5
      | .offer .closing _ _ => if s.arb.urgent then 3 else 6
    let age := fun t : Millis => (s.time.timebase - t).toNat
    let queued := [Origin.staff, .guestUnlock, .guestLock]
    (∀ u o, s.eligible u o = true ↔ ∃ c n, (s.unit u).config = some c ∧ s.node? c.string c.node = some n
        ∧ s.supply.lowLevel = false
        ∧ ((s.str c.string).state ≠ .off ∧ (s.str c.string).inFlight = none ∧ (s.str c.string).gapTimer = none)
        ∧ (n.presence ≠ .absent ∧ n.actuatorMark = false)
        ∧ (s.supply.account + (match c.kind with | .locker => s.params.supply.kL | .cabin => s.params.supply.kC) ≤ s.params.supply.c
            ∧ (o ≠ .evacuation → s.supply.throttled = false))
        ∧ (s.arb.service = .running ∨ o = .evacuation)
        ∧ ((s.sweeps.alarm = false ∧ s.sweeps.evacuation.state = .inactive) ∨ o = .evacuation ∨ o = .staff)
        ∧ ((s.str c.string).state ≠ .degraded ∨ o = .evacuation ∨ o = .staff))
    ∧ (∀ r, .record r ∈ s.candidates ↔ r ∈ s.arb.queue ∧ r.origin ∈ queued)
    ∧ (∀ k i o, .offer k i o ∈ s.candidates ↔ (s.slot k).offers.get i = some o)
    ∧ s.candidates.Pairwise (fun a b => rank a ≤ rank b)
    ∧ (∀ g ∈ queued, (s.candidates.filterMap fun | .record r => if r.origin = g then some r else none | .offer _ _ _ => none)
        = s.arb.queue.filter (·.origin == g))
    ∧ s.candidates.Pairwise (fun a b => ∀ k i j o p, a = .offer k i o → b = .offer k j p →
        age p.offeredAt < age o.offeredAt ∨ (age p.offeredAt = age o.offeredAt ∧ stringCode i < stringCode j))
    ∧ (∀ c, s.firstEligible = some c → s.eligible c.unit c.origin = true
        ∧ ∃ before after, s.candidates = before ++ c :: after ∧ ∀ x ∈ before, s.eligible x.unit x.origin = false)
    ∧ (s.firstEligible = none → ∀ x ∈ s.candidates, s.eligible x.unit x.origin = false)

/-- R99, R100, R112, R120, R141, R148: one look of a grant pass at a queued record. The cost is charged and THROTTLED re-evaluated, the record leaves the
queue and becomes the string's actuation in flight, LIMITED where CURRENT_LIMIT stands asserted, its demand is IN_FLIGHT, and the ACTUATE is the next
exchange, on a busy line after the exchange on it. A look that finds no candidate ends the pass, and a line that was held for it goes on; that a line is
held for a pass, by a field of its own, is the model's choice (log entry 28). That GRANT_RECORD leaves an offer to GRANT_SWEEP_CANDIDATE, and that a look
with none ends the pass whichever of the two commands makes it, is the model's choice (log entry 12, DESIGN CHOICE). -/
def Obligations.RecordsAreGranted : Prop :=
  ∀ s : State, s.power.on = true →
    (s.arb.grantPass = false → exec .grantRecord s = .next s)
    ∧ (s.arb.grantPass = true → s.firstEligible = none → exec .grantRecord s = .next s.passEnded)
    ∧ ((∀ i, (s.str i).held = false) → s.passEnded = { s with arb := { s.arb with grantPass := false } })
    ∧ (∀ k i o, s.firstEligible = some (.offer k i o) → exec .grantRecord s = .next s)
    ∧ ∀ r c, s.arb.grantPass = true → s.firstEligible = some (.record r) → (s.unit r.unit).config = some c →
      let account := s.supply.account + match c.kind with | .locker => s.params.supply.kL | .cabin => s.params.supply.kC
      let f : InFlight :=
        { unit := r.unit, node := c.node, direction := r.direction, origin := r.origin, semantics := r.semantics, band := r.band, tag := r.tag
          phase := .commanding, limited := s.supply.limitLevel, slot := none }
      ∃ t, exec .grantRecord s = .next t
        ∧ t.supply = { s.supply with
            account := account, throttled := s.supply.throttled || decide (s.params.supply.hw ≤ account) }
        ∧ t.arb = { s.arb with
            queue := s.arb.queue.filter (·.unit != r.unit)
            demands := s.arb.demands.map fun d => if r.tag = some d.tag then { d with inFlight := true } else d }
        ∧ t.counters.dispatched = min 4294967295 (s.counters.dispatched + 1)
        ∧ (t.str c.string).inFlight = some f ∧ (t.str c.string).nodes = (s.str c.string).nodes
        ∧ ((s.str c.string).exchange.isSome = true → t.str c.string = { s.str c.string with inFlight := some f, held := false })
        ∧ (∀ n, (s.str c.string).exchange = none → s.node? c.string c.node = some n →
            (t.str c.string).exchange =
              some { node := c.node, command := .actuate r.direction, ack := n.lastSeq, code := n.pending, stale := false, replaced := false }
            ∧ (t.str c.string).lineOut = commandFrame c.node (.actuate r.direction) n.lastSeq n.pending)
        ∧ (∀ j, j ≠ c.string → t.str j = s.str j)
        ∧ Changes [.arb, .supply, .strings, .counters] s t

/-- R99, R100, R101, R112, R120, R141, R148, R161, R96: one look of a grant pass at a sweep candidate. Accepted, the unit takes the intent of the sweep
with its present state as return state, the candidate leaves the slot, issued and in flight rise, a CLOSING grant clears the urgency flag, and the rest is
as at a record: the cost is charged, the actuation is in flight on its string, and the ACTUATE is the next exchange, on a busy line after the exchange on
it. Refused, nothing is charged; the candidate is handed back, judged again, and the walk resumes. That GRANT_SWEEP_CANDIDATE leaves a record to
GRANT_RECORD, and that a look with none ends the pass whichever of the two commands makes it, is the model's choice (log entry 12, DESIGN CHOICE), and so
are the lines that the end of a pass lets go on (log entry 28). -/
def Obligations.SweepCandidatesAreGranted : Prop :=
  ∀ s : State, s.power.on = true →
    (s.arb.grantPass = false → exec .grantSweepCandidate s = .next s)
    ∧ (s.arb.grantPass = true → s.firstEligible = none → exec .grantSweepCandidate s = .next s.passEnded)
    ∧ (∀ r, s.firstEligible = some (.record r) → exec .grantSweepCandidate s = .next s)
    ∧ ∀ k i o c, s.arb.grantPass = true → s.firstEligible = some (.offer k i o) → (s.unit o.unit).config = some c →
      let u := o.unit
      let moving := s.arb.queue.any (·.unit == u) || s.strings.toList.any fun y => y.inFlight.elim false (·.unit == u)
      let others := ∃ j ∈ allStrings, j ≠ i ∧ (s.slot k).offers.get j ≠ none
      let off := (s.slot k).offers.set i none
      (s.judge k u = .offer ∧ moving = false →
        let account := s.supply.account + match c.kind with | .locker => s.params.supply.kL | .cabin => s.params.supply.kC
        let cause := match k with | .evacuation => Cause.evacuation | .closing => .closing
        let f : InFlight :=
          { unit := u, node := c.node, direction := .unlock, origin := match k with | .evacuation => .evacuation | .closing => .closing
            semantics := none, band := none, tag := none, phase := .commanding, limited := s.supply.limitLevel, slot := some k }
        ∃ t, exec .grantSweepCandidate s = .next t
          ∧ t.supply = { s.supply with
              account := account, throttled := s.supply.throttled || decide (s.params.supply.hw ≤ account) }
          ∧ (∀ v, t.unit v = if v = u then (s.unit u).intends cause else s.unit v)
          ∧ (∀ l, t.slot l = if l = k then
                { s.slot k with offers := off, issued := (s.slot k).issued + 1, inFlight := (s.slot k).inFlight + 1 } else s.slot l)
          ∧ t.arb = (match k with
              | .evacuation => s.arb
              | .closing => { s.arb with urgent := false, urgencyTimer := if others then some s.params.time.urgency else none })
          ∧ t.counters.dispatched = min 4294967295 (s.counters.dispatched + 1)
          ∧ (t.str c.string).inFlight = some f ∧ (t.str c.string).nodes = (s.str c.string).nodes
          ∧ ((s.str c.string).exchange.isSome = true → t.str c.string = { s.str c.string with inFlight := some f, held := false })
          ∧ (∀ n, (s.str c.string).exchange = none → s.node? c.string c.node = some n →
              (t.str c.string).exchange =
                some { node := c.node, command := .actuate .unlock, ack := n.lastSeq, code := n.pending, stale := false, replaced := false }
              ∧ (t.str c.string).lineOut = commandFrame c.node (.actuate .unlock) n.lastSeq n.pending)
          ∧ (∀ j, j ≠ c.string → t.str j = s.str j)
          ∧ Changes [.units, .arb, .supply, .strings, .sweeps, .counters] s t)
      ∧ (¬(s.judge k u = .offer ∧ moving = false) →
        let b : State :=
          { s.setSlot k { s.slot k with offers := off } with
            arb := if k = .closing ∧ ¬others then { s.arb with urgent := false, urgencyTimer := none } else s.arb }
        let v := b.visited k u
        ∃ t, exec .grantSweepCandidate s = .next t
          ∧ Leads [.sweepWalk k i] (if b.visits k u = true then v.judged k u (v.judge k u) else b) t)

/-- R97, R99, R111, R112: whatever the command and whatever the state, an actuation goes in flight on a free string, and the account rises, only at a grant; and
then SUPPLY_LOW is not asserted, the account ends at or below the ceiling, THROTTLED was clear and the service RUNNING unless the origin is EVACUATION, and
during an alarm the origin is EVACUATION or STAFF. -/
def Obligations.DispatchOnlyWhenAllowed : Prop :=
  ∀ (c : Instr) (s t : State), exec c s = .next t →
    (∀ i f, (s.str i).inFlight = none → (t.str i).inFlight = some f →
      (c = .grantRecord ∨ c = .grantSweepCandidate)
        ∧ s.supply.lowLevel = false ∧ (s.str i).gapTimer = none ∧ (s.str i).state ≠ .off
        ∧ s.supply.account ≤ t.supply.account ∧ t.supply.account ≤ s.params.supply.c
        ∧ (f.origin ≠ .evacuation → s.supply.throttled = false ∧ s.arb.service = .running)
        ∧ (f.origin ≠ .evacuation → f.origin ≠ .staff →
            s.sweeps.alarm = false ∧ s.sweeps.evacuation.state = .inactive ∧ (s.str i).state ≠ .degraded))
    ∧ (s.supply.account < t.supply.account →
      (c = .grantRecord ∨ c = .grantSweepCandidate) ∧ s.supply.lowLevel = false ∧ t.supply.account ≤ s.params.supply.c
        ∧ ∃ i f, (s.str i).inFlight = none ∧ (t.str i).inFlight = some f)

/-! ## Strings -/

/-- R129, R130, R139, R140, R144, R147: the expiry of a string's round, settle, gap and recovery timer, and RESTART_STRING. A timer that does not run does
not expire. A round starts with the first address it visits, at the period in force, once the line is neither busy nor held for a grant pass; one with no
address ends at its start, and the round count moves on. On a free line with an actuation in flight the next exchange is the one that R130 gives. A line
held for a grant pass is the model's own field (log entry 28), and the order of what a completion at the settle expiry does is the model's (log entry 17).
-/
def Obligations.StringTimersRunOut : Prop :=
  ∀ (s : State) (i : StringId), s.power.on = true →
    let c := s.str i
    let period := s.roundPeriod
    let visited := c.nodes.filter fun n => c.roundCount = 0 ∨ n.presence ≠ .absent
    let started := { c with roundTimer := some period, inRound := true }
    let closed := { started with cursor := none, inRound := false, roundCount := (c.roundCount + 1) % 4 }
    let poll := fun (c : StringCtl) (n : NodeRecord) =>
      let ack := if n.presence = .absent then none else n.lastSeq
      let code := if n.presence = .absent then .dark else n.pending
      { c with
        cursor := some n.addr
        exchange := some { node := n.addr, command := .poll, ack := ack, code := code, stale := false, replaced := false }
        lastSettle := false, lineOut := commandFrame n.addr .poll ack code }
    let probe :=
      { c with
        recoveryTimer := none, score := 0, roundCount := 0, held := false, nodes := c.nodes.map fun n : NodeRecord => { n.gone with lastSeq := none }
        state := .active, roundTimer := some period, inRound := true }
    let restarted := ({ s with
        strings := s.strings.set i (match probe.nodes with | [] => c | n :: _ => poll probe n)
        arb := { s.arb with grantPass := true } } : State).post
      { kind := .stringState, string := some i, code := .string .active, value := some 0 }
    let waiting := c.state = .off ∧ c.nodes ≠ [] ∧ c.exchange = none ∧ c.inFlight = none
    (c.roundTimer = none → exec (.roundTimerExpiry i) s = .next s)
    ∧ (c.roundTimer ≠ none → c.inRound = true →
        exec (.roundTimerExpiry i) s = .next { s with strings := s.strings.set i { c with roundTimer := none } })
    ∧ (c.roundTimer ≠ none → c.inRound = false → c.exchange ≠ none ∨ c.held = true → visited ≠ [] →
        exec (.roundTimerExpiry i) s = .next { s with strings := s.strings.set i { started with cursor := none } })
    ∧ (∀ n rest, c.roundTimer ≠ none → c.inRound = false → c.exchange = none → c.held = false → c.inFlight = none → visited = n :: rest →
        (∀ m ∈ c.nodes, m.addr = n.addr → m = n) →
        exec (.roundTimerExpiry i) s = .next { s with strings := s.strings.set i (poll started n) })
    ∧ (c.roundTimer ≠ none → c.inRound = false → c.inFlight = none → visited = [] →
        exec (.roundTimerExpiry i) s = .next { s with strings := s.strings.set i closed })
    ∧ (c.roundTimer ≠ none → c.inRound = false → c.exchange ≠ none ∨ c.held = true → visited = [] →
        exec (.roundTimerExpiry i) s = .next { s with strings := s.strings.set i closed })
    ∧ (c.roundTimer ≠ none → c.inRound = false → c.exchange = none → c.held = false → visited ≠ [] →
        exec (.roundTimerExpiry i) s = .next { s with strings := s.strings.set i ({ started with cursor := none } : StringCtl).chooses })
    ∧ (c.roundTimer ≠ none → c.inRound = false → c.exchange = none → c.held = false → visited = [] →
        exec (.roundTimerExpiry i) s = .next { s with strings := s.strings.set i closed.chooses })
    ∧ exec (.settleTimerExpiry i) s = .next (if c.settleTimer = none then s else s.ended i .jammed false)
    ∧ exec (.gapTimerExpiry i) s = .next (
        if c.gapTimer = none then s
        else { s with strings := s.strings.set i { c with gapTimer := none }, arb := { s.arb with grantPass := true } })
    ∧ (c.recoveryTimer = none ∨ c.state ≠ .off → exec (.recoveryTimerExpiry i) s = .next s)
    ∧ (c.recoveryTimer ≠ none → waiting → exec (.recoveryTimerExpiry i) s = .next restarted)
    ∧ ∀ tag string, let r := Instr.restartString tag string
        (string? string = none → exec r s = .next (r.reply s (s.taken r) .badValue []))
        ∧ (string? string = some i → c.state ≠ .off → exec r s = .next (r.reply s (s.taken r) .notOff []))
        ∧ (string? string = some i → waiting → ∃ t, exec r s = .next (r.reply s t .ok [])
            ∧ t.str i = restarted.str i ∧ t.arb = restarted.arb ∧ Changes [.strings, .arb, .link, .notices, .counters] s t)

/-- R149, R92, R162: an accepted RESET_STRING completes the actuation in flight UNCERTAIN; removes the queued records of the string's units in queue
order, each with GUEST_WITHDRAWN of STRING_RESET or DEMAND_DONE of CANCELLED; drops and marks the string's candidates; makes every node ABSENT with its
latches and reported positions kept; stops the four timers but for the round that begins at once; leaves the string ACTIVE, or IDLE with an empty
roster, with STRING_STATE at a change; leaves a frame on the line stale; and leaves the other strings as they were. The walks whose candidates were
dropped resume last, after STRING_STATE, EVACUATION before CLOSING (log entry 16). That order, the queue order of the removals (log entry 18), the order
within the completion and of a CLEANING_DUE ahead of DEMAND_DONE (log entry 17), and that a round cut short counts no overrun (log entry 25), are the
model's. -/
def Obligations.ResetStringClearsTheString : Prop :=
  ∀ (s : State) (tag string : Byte), s.power.on = true →
    let i := Instr.resetString tag string
    (string? string = none → exec i s = .next (i.reply s (s.taken i) .badValue []))
    ∧ ∀ j, string? string = some j →
      let c := s.str j
      let fresh := fun n : NodeRecord =>
        { n with presence := .absent, misses := 0, readerMark := false, actuatorMark := false, lastSeq := none, pending := .dark }
      let ofString := fun r : ActRecord => ∃ a, s.unitNode r.unit = some (j, a)
      let records := s.arb.queue.filter fun r => (s.unit r.unit).config.elim false (·.string == j)
      ∃ t, exec i s = .next (i.reply s t .ok [])
        ∧ (records.foldl State.recordReset ((s.taken i).ended j .uncertain true)).StringDrops j (·.stringReset j) t
        ∧ (t.str j).inFlight = none ∧ (t.str j).score = 0 ∧ (t.str j).roundCount = 0 ∧ (t.str j).nodes = c.nodes.map fresh
        ∧ (t.str j).settleTimer = none ∧ (t.str j).gapTimer = none ∧ (t.str j).recoveryTimer = none ∧ (t.str j).held = false
        ∧ (t.str j).state = (if c.nodes = [] then .idle else .active) ∧ (t.str j).inRound = !c.nodes.isEmpty
        ∧ (t.str j).roundTimer.isSome = !c.nodes.isEmpty
        ∧ (∀ x, c.exchange = some x → (t.str j).exchange = some { x with stale := true })
        ∧ (∀ r ∈ t.arb.queue, ¬ofString r)
        ∧ (∀ r ∈ s.arb.queue, ¬(∃ q ∈ s.arb.queue, q.unit = r.unit ∧ ofString q) → r ∈ t.arb.queue)
        ∧ (∀ r ∈ s.arb.queue, ofString r → r.origin = .staff → ∀ d ∈ t.arb.demands, r.tag ≠ some d.tag)
        ∧ (∀ f, c.inFlight = some f → ∀ d ∈ t.arb.demands, f.tag ≠ some d.tag)
        ∧ (∀ l, l ≠ j → t.str l = s.str l)

/-- R131, R134, R136 to R138, R91, R99, R162: the end of an exchange without a good reply. What comes back to a stale frame, reply or miss, or to one of a
string or a node that is gone, moves nothing (R125); bytes that are no good reply are the miss or the clash that they are, by whichever of the two commands
they come (log entry 19, the model's reading); a probe of an ABSENT node moves its counters alone; any other miss makes its node SILENT, or ABSENT at the
third: NODE_LOST, its actuation completed UNCERTAIN, its unit's guest record withdrawn with NODE_LOST, its candidates dropped and marked. The score rises
by 8, to 256 at most, with STRING_STATE where the state changes. At 256 the string goes OFF: its actuation completed, every node ABSENT, the guest records
of its units withdrawn with STRING_OFF, and its candidates dropped and marked. The order at OFF is the model's, all nodes, then the guest records, then the
candidates (log entry 18), EVACUATION before CLOSING (log entry 16), and the round that OFF ends leaves the round count and the overruns (log entry 25); so
are the order within a completion (log entry 17) and a line that is held for a grant pass, on which nothing is sent (log entry 28). A verdict reply
whose reason does not fit its verdict is no miss: the model's too (log entry 34). -/
def Obligations.MissesAreCounted : Prop :=
  ∀ (s : State) (i : StringId) (bytes : List Byte), s.power.on = true →
    let c := s.str i
    (c.exchange = none → exec (.nodeMiss i bytes) s = .next s ∧ exec (.nodeReplyGood i bytes) s = .next s)
    ∧ ∀ x, c.exchange = some x →
      let live := x.stale = false ∧ c.state ≠ .idle ∧ c.state ≠ .off
      let clash := judgeReply x.node x.command bytes = .clash
      let score := min 256 (c.score + 8)
      let more := fun n => min 4294967295 (n + 1)
      let k := s.counters.strings.get i
      let bare : State := { s with strings := s.strings.set i { c with exchange := none } }
      let tallied : State :=
        { bare with counters := { s.counters with
            strings := s.counters.strings.set i { k with misses := more k.misses, clashes := if clash then more k.clashes else k.clashes } } }
      (¬live ∨ s.node? i x.node = none →
        exec (.nodeMiss i bytes) s = .next (bare.wentOn i) ∧ exec (.nodeReplyGood i bytes) s = .next (bare.wentOn i))
      ∧ ((∀ r, judgeReply x.node x.command bytes ≠ .good r) → exec (.nodeReplyGood i bytes) s = exec (.nodeMiss i bytes) s)
      ∧ ∀ n, live → s.node? i x.node = some n →
        let unit := s.unitAt i x.node
        let silent := tallied.nodeWritten i x.node fun m => { m with misses := m.misses + 1, presence := .silent }
        let lost := (tallied.nodeWritten i x.node NodeRecord.gone).post (s.nodeNotice .nodeLost i x.node .none)
        let stopped := if c.inFlight.elim false (·.node == x.node) then lost.ended i .uncertain false else lost
        let freed := match unit with | none => stopped | some u => stopped.guestWithdrawn u .nodeLost
        let on := fun (b : State) k => if ((b.slot k).offers.get i).any fun o => unit == some o.unit then some i else none
        let scored := fun (p : State) => (({ p with strings := p.strings.set i { p.str i with score := score } } : State).stringEnters i
          (stateOfScore score)).wentOn i
        let recovery := if s.params.strings.auto then some (s.params.strings.interval * 1000) else none
        let offAt := fun (q : State) => (({ q with strings := q.strings.set i { q.str i with recoveryTimer := recovery } } : State).wentOn i)
        (n.presence = .absent → exec (.nodeMiss i bytes) s = .next (tallied.wentOn i))
        ∧ (n.presence ≠ .absent → ∃ m p t, exec (.nodeMiss i bytes) s = .next t
          ∧ (n.misses < 2 → p = silent)
          ∧ (2 ≤ n.misses → freed.Drops .evacuation (on freed .evacuation) true m ∧ m.Drops .closing (on m .closing) true p)
          ∧ (score < 256 → t = scored p)
          ∧ (256 ≤ score → ∃ q, ((p.stringOff i).nodesGone i).StringDrops i id q ∧ t = offAt q)
          ∧ (t.str i).score = score ∧ (t.str i).state = (if 256 ≤ score then .off else stateOfScore score)
          ∧ (n.misses < 2 → score < 256 →
              (t.str i).nodes = (c.nodes.map fun m => if m.addr = x.node then { m with misses := m.misses + 1, presence := .silent } else m)
              ∧ (t.str i).inFlight = c.inFlight
              ∧ Changes [.arb, .strings, .link, .notices, .counters] s t)
          ∧ (2 ≤ n.misses → score < 256 →
              t.node? i x.node =
                some { n with presence := .absent, misses := 0, readerMark := false, actuatorMark := false, pending := .dark }
              ∧ (∀ a, a ≠ x.node → t.node? i a = s.node? i a)
              ∧ (t.str i).inFlight = (if c.inFlight.elim false (·.node == x.node) then none else c.inFlight))
          ∧ (2 ≤ n.misses → ∀ u, s.unitAt i x.node = some u →
              (∀ r ∈ t.arb.queue, r.unit = u → r.origin = .staff) ∧ (∀ k o, (t.slot k).offers.get i = some o → o.unit ≠ u))
          ∧ (256 ≤ score →
              (t.str i).inFlight = none ∧ (t.str i).exchange = none ∧ (t.str i).inRound = false ∧ (t.str i).roundTimer = none
              ∧ (t.str i).settleTimer = none ∧ (t.str i).gapTimer = none ∧ (t.str i).recoveryTimer = recovery
              ∧ (t.str i).nodes.map (·.addr) = c.nodes.map (·.addr)
              ∧ (∀ m ∈ (t.str i).nodes, m.presence = .absent ∧ m.pending = .dark ∧ m.readerMark = false ∧ m.actuatorMark = false)
              ∧ (∀ a u, (s.node? i a).isSome = true → s.unitAt i a = some u → ∀ r ∈ t.arb.queue, r.unit = u → r.origin = .staff))
          ∧ (∀ j, j ≠ i → t.str j = s.str j))

/-- R133, R135, R137, R142, R143, R146, R148, R57, R99, R162: a good reply to a frame that is not stale, on a string that runs rounds. The score falls
by 1 and the state follows it, with STRING_STATE; the node is PRESENT, with NODE_FOUND where it was ABSENT and a grant pass where it was not PRESENT; it
has the reported marks, latches, positions, code and seq, with NODE_FAULT for each mark newly set; an actuator fault newly set drops and marks the
candidates of its unit, and one cleared starts a grant pass; the actuation in flight on the node is completed, settles or stands; the node report
reaches the unit; and a new presentation is acknowledged and handed on, a repeat counted. The roster is ascending without repeats, the law of R125 that
every step keeps (EveryStepKeepsStringsAndSweeps). The model's order: READER before ACTUATOR, NODE_FAULT ahead of the notices of the walks that a drop
resumes, and that within a completion (log entry 17), EVACUATION before CLOSING (log entry 16); its readings of the report after a REFUSE and after a
verdict (log entries 26 and 29); a verdict taken whatever its reason (log entry 34); a decision about the unit that the node serves in this act (log entry
33); and its field of a line held for a grant pass (log entry 28). -/
def Obligations.GoodRepliesAreTaken : Prop :=
  ∀ (s : State) (i : StringId) (bytes : List Byte) (x : Exchange) (r : NodeReply) (n : NodeRecord), s.power.on = true →
    let c := s.str i
    c.exchange = some x → x.stale = false → c.state ≠ .idle → c.state ≠ .off → s.node? i x.node = some n →
    judgeReply x.node x.command bytes = .good r → (c.nodes.map (·.addr)).Pairwise (· < ·) →
    let last := if n.presence = .absent then none else n.lastSeq
    let unit := s.unitAt i x.node
    let busy := s.decisions.any fun d => d.str == i && d.node == x.node
    let new := r.presentation.isSome = true ∧ unit.isSome = true ∧ last ≠ r.presentation.map (·.1) ∧ busy = false
    let here := c.inFlight.elim false (·.node == x.node)
    let toLock := c.inFlight.elim false (·.direction == .lock)
    let commanding := c.inFlight.elim false (·.phase == .commanding)
    let reached := r.bolt = if toLock then .locked else .unlocked
    let completes := here = true
      ∧ ((commanding = true ∧ r.verdict = some .refuse) ∨ (¬(commanding = true ∧ r.verdict ≠ some .accept) ∧ reached))
    let settles := here = true ∧ commanding = true ∧ r.verdict = some .accept ∧ ¬reached
    let fault := r.actuatorFault && !n.actuatorMark
    let on := fun (b : State) k => if fault && ((b.slot k).offers.get i).any fun o => unit == some o.unit then some i else none
    let marked := s.replyMarked i x.node n r
    ∃ m p t, exec (.nodeReplyGood i bytes) s = .next t
      ∧ marked.Drops .evacuation (on marked .evacuation) true m ∧ m.Drops .closing (on m .closing) true p
      ∧ t = (p.replyTaken i x r).wentOn i
      ∧ (t.counters.strings.get i).good = min 4294967295 ((s.counters.strings.get i).good + 1)
      ∧ (t.str i).score = c.score - 1 ∧ (t.str i).state = stateOfScore (c.score - 1)
      ∧ t.node? i x.node = some
          { n with
            presence := .present, misses := 0, door := some r.door, bolt := some r.bolt, inside := some r.inside
            readerMark := r.readerFault, actuatorMark := r.actuatorFault
            readerLatch := n.readerLatch || (r.readerFault && !n.readerMark)
            actuatorLatch := n.actuatorLatch || fault
            pending := if x.replaced then n.pending else .dark
            lastSeq := if new then r.presentation.map (·.1) else last }
      ∧ (∀ a, a ≠ x.node → t.node? i a = s.node? i a) ∧ (∀ j, j ≠ i → t.str j = s.str j)
      ∧ (t.str i).inFlight = (if completes then none else if settles then c.inFlight.map fun f => { f with phase := .settling } else c.inFlight)
      ∧ (t.str i).settleTimer = (if completes then none else if settles then some s.params.strings.settle else c.settleTimer)
      ∧ (t.str i).gapTimer =
          (if completes then (if s.params.strings.gap = 0 then none else some s.params.strings.gap) else c.gapTimer)
      ∧ t.decisions = s.decisions ++ (match unit, r.presentation with
          | some u, some (seq, band) =>
            if new then
              [{ str := i, node := x.node, unit := u, band := band, seq := seq, stage := .lookup, staff := false, admitted := false }]
            else []
          | _, _ => [])
      ∧ t.counters.repeats = (if r.presentation.isSome = true ∧ unit.isSome = true ∧ last = r.presentation.map (·.1)
          then min 4294967295 (s.counters.repeats + 1) else s.counters.repeats)

/-- R14, R15, R17 to R20, R59, R163: what a node report does to its unit, with the door, tamper, the occupied flag and occupancy minutes, the inside
bolt of a FREE_USE cabin, the resolution of VERIFY and JAMMED, the notices TAMPER, CLEANING_DUE, UNIT_VERIFIED, ACTUATION_DONE of DONE_LATE and
UNIT_RELEASED, the done-late counter and the Directory; and that a good reply's report reaches its unit after a completion of the same reply, and after
the candidates that an actuator fault drops. A unit that the reply's own REFUSE withdraws to VERIFY is resolved by its report (log entry 26), and a unit
that the verdict withdraws to JAMMED or VERIFY waits for the next one (log entry 29): the model's choices. A count that a DEMAND OPEN before the first
report would reset is kept, log entry 23. The candidates are dropped on EVACUATION before CLOSING (log entry 16), both faults of one reply are noticed
READER first and ahead of the notices of the walks that resume, and UNIT_VERIFIED or ACTUATION_DONE stands ahead of CLEANING_DUE (log entry 17): the
model's orders. That a verdict is taken whatever its reason is the model's too (log entry 34). -/
def Obligations.NodeReportsReachTheUnit : Prop :=
  (∀ (s : State) (u : Nat) (door : Door) (bolt : Bolt) (inside : InsideBolt),
    s.nodeReport u door bolt inside = s.reportTaken u door bolt inside
      ∧ (isUnit u → (s.reportTaken u door bolt inside).unit u = (s.unit u).reported door bolt inside)
      ∧ (∀ v, v ≠ u → (s.reportTaken u door bolt inside).unit v = s.unit v)
      ∧ Changes [.units, .dir, .link, .notices, .counters] s (s.reportTaken u door bolt inside))
  ∧ ∀ (s : State) (i : StringId) (bytes : List Byte) (x : Exchange) (r : NodeReply) (n : NodeRecord) (u : Nat), s.power.on = true →
    let c := s.str i
    c.exchange = some x → x.stale = false → c.state ≠ .idle → c.state ≠ .off → s.node? i x.node = some n →
    judgeReply x.node x.command bytes = .good r → s.unitAt i x.node = some u →
    let reached := fun f : InFlight => r.bolt = match f.direction with | .lock => .locked | .unlock => .unlocked
    let outcome : Option Completion :=
      match c.inFlight with
      | none => none
      | some f =>
        if f.node ≠ x.node then none
        else match f.phase, r.verdict with
          | .commanding, none => none
          | .commanding, some .refuse => some .refusedByNode
          | .commanding, some .accept => if reached f then some .done else none
          | .settling, _ => if reached f then some .done else none
    let on := fun (b : State) k =>
      if (r.actuatorFault && !n.actuatorMark) && ((b.slot k).offers.get i).any fun o => o.unit == u then some i else none
    let marked := s.replyMarked i x.node n r
    ∃ m p t, exec (.nodeReplyGood i bytes) s = .next t
      ∧ marked.Drops .evacuation (on marked .evacuation) true m ∧ m.Drops .closing (on m .closing) true p
      ∧ let before := fun v => match outcome with | none => p.unit v | some o => (p.ended i o false).unit v
        (r.actuatorFault = false → ∀ v, p.unit v = s.unit v)
        ∧ t.unit u = (before u).reported r.door r.bolt r.inside
        ∧ ∀ v, v ≠ u → t.unit v = before v

/-! ## Presentations -/

/-- R60 to R63, R38, R69: the lookup act and the admission act of the decision in progress at a node. Suspended service refuses; a lost band is refused
with a sighting; an unknown band is refused, or admitted by a GUEST entry where the link stands STANDALONE under policy ADMIT; any other goes on to the
unit act. A band that has gained an entry by the time of its admission goes on with that entry: the model's choice, log entry 9. A decision at a node that
has left its roster ends SERVICE_SUSPENDED with no code written: the model's choice, log entry 20 (DEDUCED). A decision stays about the unit that the node
served at the hand-over, whichever unit the node serves now: the model's choice, log entry 33. -/
def Obligations.PresentationsAreLookedUp : Prop :=
  ∀ (s : State) (i : StringId) (a : Nat), s.power.on = true →
    let standing := fun st => s.decisions.find? fun d => d.str == i && d.node == a && d.stage == st
    let goes := fun (t : State) (d : Decision) =>
      ({ t with decisions := s.decisions.map fun e => if e.str = d.str ∧ e.node = d.node then d else e } : State)
    let found := fun (t : State) (d : Decision) (e : Band) (entered : Bool) =>
      if e.lost = true then t.decided { d with admitted := entered } .bandLost
      else goes t { d with stage := .unitAct, staff := e.cls == .staff, admitted := entered }
    exec (.presentationLookup i a) s = .next (match standing .lookup with
      | none => s
      | some d =>
        let e := s.dir.find? (·.id == d.band)
        if s.suspendedFor d (e.elim false fun e => e.cls == .staff && !e.lost) = true then s.decided d .serviceSuspended
        else match e with
          | some e => found s d e false
          | none =>
            if d.band ≠ 0 ∧ s.link.state = .standalone ∧ s.params.link.admitUnknown = true then goes s { d with stage := .admission }
            else s.decided d .unknownBand)
    ∧ exec (.standaloneAdmission i a) s = .next (match standing .admission with
      | none => s
      | some d =>
        match s.dir.find? (·.id == d.band) with
        | some e => found s d e false
        | none =>
          if 1024 ≤ s.dir.length then s.decided d .directoryFull
          else
            let e : Band :=
              { id := d.band, cls := .guest, group := 0, lockers := 1, cabins := 0, validity := 0, expired := false, lost := false
                provisional := true, holdings := [] }
            let t : State := { s with dir := s.dir.takeWhile (·.id ≤ d.band) ++ e :: s.dir.dropWhile (·.id ≤ d.band) }
            found t d e true)

/-- R60, R64 to R72, R6, R74, R76 to R78: the unit act decides a presentation in the order of its steps, does what the outcome calls for in the one act, and
ends the decision with its indicator code, its notices and its counter. The model's choices: a decision at a node that has left its roster ends
SERVICE_SUSPENDED with no code written (log entry 20, DEDUCED), the door is the unit's door field in the unit act (log entry 30), and the unit is the one
that the node served at the hand-over, whichever unit it serves now (log entry 33). -/
def Obligations.PresentationsAreDecidedAtTheUnit : Prop :=
  ∀ (s : State) (i : StringId) (a : Nat), s.power.on = true →
    exec (.presentationUnitAct i a) s = .next (match s.decisions.find? fun d => d.str == i && d.node == a && d.stage == .unitAct with
      | none => s
      | some d => (s.presented d (s.verdict d)).decided d (s.verdict d))

/-! ## Sweeps -/

/-- R157 to R160, R164: a walk takes a string's roster addresses from the cursor up, one after another. An address whose unit is not visited is passed; a
visited unit is judged by the table of its sweep, after the supersede of an evacuation; a judgement other than offer takes effect and the walk goes on; the
first offer ends it, with the cursor at the next address; and at END the test for the end of the pass is made. -/
def Obligations.WalksJudgeUnitsInOrder : Prop :=
  (∀ (s : State) (k : SlotId) (u : Nat),
    let r := s.unit u
    let x := s.slot k
    let can := ∃ j a n, s.unitNode u = some (j, a) ∧ s.node? j a = some n ∧ (s.str j).state ≠ .off ∧ n.presence ≠ .absent
      ∧ n.actuatorMark = false
    let inside := r.config.map (·.kind) = some .cabin ∧ r.occupied = true
    let wanted := match k with
      | .closing => r.state ∈ [.held, .forfeited]
      | .evacuation => r.state ∈ [.held, .forfeited, .occupied] ∨ (r.state ∈ [.vacant, .openHeld] ∧ inside)
    (s.judge k u = .offer ↔ wanted ∧ can)
      ∧ (s.judge k u = .markForRepeat ↔ (wanted ∧ ¬can) ∨ r.state ∈ [.locking, .unlocking, .jammed, .verify])
      ∧ (s.judge k u = .releaseAtOnce ↔ k = .closing ∧ r.state = .openHeld)
      ∧ (s.visits k u = true ↔ ∃ c, r.config = some c ∧ r.state ≠ .withdrawn ∧ (x.zone = 0 ∨ c.zone = x.zone)
          ∧ (match x.filter with | .cabins => c.kind = .cabin | .lockers => c.kind = .locker | .both => True)
          ∧ (x.pass ≤ 1 ∨ u ∈ x.visit)))
  ∧ ∀ (s : State) (k : SlotId) (i : StringId), s.power.on = true →
    let x := s.slot k
    let cursor := fun (t : State) (c : Option Nat) => t.setSlot k { t.slot k with cursors := (t.slot k).cursors.set i c }
    let ahead := fun a => ((s.str i).nodes.map (·.addr)).filter (a ≤ ·)
    (x.state ≠ .walking ∨ x.offers.get i ≠ none ∨ x.cursors.get i = none → exec (.sweepWalk k i) s = .next (s.passTested k))
    ∧ (∀ c, x.state = .walking → x.offers.get i = none → x.cursors.get i = some c → ahead c = [] →
        exec (.sweepWalk k i) s = .next ((cursor s none).passTested k))
    ∧ ∀ c a rest, x.state = .walking → x.offers.get i = none → x.cursors.get i = some c → ahead c = a :: rest →
        ((s.str i).nodes.map (·.addr)).Pairwise (· < ·) →
        let on := fun t => exec (.sweepWalk k i) (cursor t (some (a + 1)))
        (s.unitAt i a = none → exec (.sweepWalk k i) s = on s)
        ∧ ∀ u, s.unitAt i a = some u →
            let v := s.visited k u
            let first := s.arb.urgent = false ∧ ∀ j ∈ allStrings, s.sweeps.closing.offers.get j = none
            (s.visits k u = false → exec (.sweepWalk k i) s = on s)
            ∧ (s.visits k u = true → v.judge k u ≠ .offer → exec (.sweepWalk k i) s = on (v.judged k u (v.judge k u)))
            ∧ (s.visits k u = true → v.judge k u = .offer →
                let o : Offer := { unit := u, offeredAt := s.time.timebase }
                let t := v.setSlot k { v.slot k with offers := (v.slot k).offers.set i (some o), cursors := (v.slot k).cursors.set i rest.head? }
                exec (.sweepWalk k i) s = .next { t with
                  arb := { v.arb with
                    grantPass := true
                    urgencyTimer := if k = .closing ∧ first then some s.params.time.urgency else v.arb.urgencyTimer } })

/-- R155, R156, R164, R165, R168: RELEASE_ZONE starts a closing sweep and STOP_SWEEP ends one, each refused as its rule says; the pause timer of a slot
begins its next pass, from the marks; and QUERY_SWEEP reports a slot, every item but the state and the result being absent for an INACTIVE one. The layout
of an absent item is the model's, log entry 13, and so are the code of an ending, log entry 14, and the order of CLOSING_STARTED ahead of the notices of
the walks, log entry 17. -/
def Obligations.SweepsStartStopAndGoOn : Prop :=
  ∀ (s : State) (tag zone filter slot : Byte), s.power.on = true →
    let i := Instr.releaseZone tag zone filter
    let o := s.taken i
    let e := Instr.stopSweep tag
    let q := Instr.querySweep tag slot
    let low := fun j => ((s.str j).nodes.map (·.addr)).head?
    let walks := fun k => [Instr.sweepWalk k .a, .sweepWalk k .b, .sweepWalk k .c, .sweepWalk k .d]
    let fresh : SweepSlot :=
      { state := .walking, zone := zone.toNat, filter := if filter = 0 then .cabins else if filter = 1 then .lockers else .both, pass := 1
        cursors := ⟨low .a, low .b, low .c, low .d⟩
        offers := ⟨none, none, none, none⟩, visit := [], marks := []
        inFlight := 0, pause := none, issued := 0, done := 0, missed := 0, result := none }
    let detach := fun c : StringCtl =>
      { c with inFlight := c.inFlight.map fun f => { f with slot := if f.slot = some .closing then none else f.slot } }
    (2 < filter.toNat ∨ 15 < zone.toNat → exec i s = .next (i.reply s o .badValue []))
    ∧ (filter.toNat ≤ 2 → zone.toNat ≤ 15 → s.sweeps.closing.state ≠ .inactive → exec i s = .next (i.reply s o .sweepActive []))
    ∧ (filter.toNat ≤ 2 → zone.toNat ≤ 15 → s.sweeps.closing.state = .inactive →
        ∃ t, exec i s = .next (i.reply s t .ok [])
          ∧ Leads (walks .closing)
              (({ o with sweeps := { s.sweeps with closing := fresh } } : State).post
                { kind := .closingStarted, code := .closingBy false, value := some zone.toNat }) t)
    ∧ exec e s = .next (
        if s.sweeps.closing.state = .inactive then e.reply s (s.taken e) .noSweep []
        else e.reply s
          (({ s.taken e with
              strings := ⟨detach s.strings.a, detach s.strings.b, detach s.strings.c, detach s.strings.d⟩ } : State).sweepEnded
            .closing .closingStopped) .ok [])
    ∧ (∀ k, let x := s.slot k
        let has := fun j => ∃ u ∈ x.marks, (s.unit u).config.map (·.string) = some j
        let first := fun j => if has j then low j else none
        (x.pause = none → exec (.pauseTimerExpiry k) s = .next s)
        ∧ (x.pause ≠ none → ∃ t, exec (.pauseTimerExpiry k) s = .next t
            ∧ Leads (walks k)
                (s.setSlot k { x with
                  state := .walking, pass := x.pass + 1, visit := x.marks, marks := [], pause := none
                  cursors := ⟨first .a, first .b, first .c, first .d⟩ }) t))
    ∧ (1 < slot.toNat → exec q s = .next (q.reply s (s.taken q) .badValue []))
    ∧ (slot.toNat ≤ 1 →
        let x := s.slot (if slot = 0 then .evacuation else .closing)
        let idle := x.state = .inactive
        let here := fun (bytes : List Byte) => if idle then List.replicate (bytes.length + 1) 0#8 else u8 1 ++ bytes
        let marks := x.marks.take 32
        let string := fun j =>
          here (u8 ((x.cursors.get j).getD 0))
            ++ optional 9 (fun p : Offer => u8 p.unit ++ u32 p.offeredAt.toNat ++ u32 (s.time.timebase - p.offeredAt).toNat) (x.offers.get j)
        exec q s = .next (q.reply s (s.taken q) .ok
          (u8 (match x.state with | .inactive => 0 | .walking => 1 | .paused => 2)
            ++ here (u8 x.zone) ++ here (u8 (match x.filter with | .cabins => 0 | .lockers => 1 | .both => 2)) ++ here (u8 x.pass)
            ++ optional 4 u32 x.pause ++ string .a ++ string .b ++ string .c ++ string .d
            ++ here (u8 x.inFlight) ++ here (u16 x.issued) ++ here (u16 x.done) ++ here (u16 x.missed)
            ++ here (u8 x.marks.length)
            ++ (if idle then [0#8, 0#8] else u8 1 ++ u8 marks.length ++ (marks.map u8).flatten)
            ++ here (u8 x.visit.length)
            ++ optional 7 (fun z : SweepResult => u8 (endingCode z.ending) ++ u16 z.issued ++ u16 z.done ++ u16 z.missed) x.result)))

/-! ## Notices and census -/

/-- R200 to R205, R195: a notice of a disabled kind is not stored, one that meets 64 is dropped and counted, any other is stored at the end with the next
seq and the stamp, with ATTN and the age timer. FETCH_NOTICES hands over the oldest, SET_NOTICE_ENABLES keeps START enabled, CENSUS takes the snapshot that
READ_CENSUS reads, and CLEAR_COUNTERS clears the selected groups of live counters alone. The bytes are those of chapter 11, and where it leaves the layout
of a reply open, as those of SET_NOTICE_ENABLES and CENSUS, the model's (log entry 13). -/
def Obligations.NoticesAndCensusAreKept : Prop :=
  (∀ (s : State) (d : NoticeData),
    let n : Notice := { seq := s.notices.nextSeq, stamp := if s.time.valid then some s.time.second else none, data := d }
    s.post d =
      if d.kind ≠ .start ∧ s.enables.getLsbD (noticeKindCode d.kind) = false then s
      else if 64 ≤ s.notices.stored.length then
        { s with
          notices := { s.notices with dropped := min 255 (s.notices.dropped + 1) }
          counters := { s.counters with noticesDropped := min 4294967295 (s.counters.noticesDropped + 1) } }
      else
        { s with
          notices := { s.notices with stored := s.notices.stored ++ [n], nextSeq := s.notices.nextSeq + 1, attn := true }
          link := { s.link with ageTimer :=
            if s.notices.stored = [] ∧ s.link.ageTimer = .preset then .running (s.params.link.ageLimit * 1000) else s.link.ageTimer } })
  ∧ ∀ (s : State) (tag count sect selection : Byte) (marks : BitVec 24), s.power.on = true →
    let f := Instr.fetchNotices tag count
    let e := Instr.setNoticeEnables tag marks
    let c := Instr.census tag
    let r := Instr.readCensus tag sect
    let z := Instr.clearCounters tag selection
    let enabled := marks ||| 0x800000#24
    let number := if s.census.number = 65535 then 1 else s.census.number + 1
    let o := s.taken f
    let left := o.notices.stored.drop count.toNat
    let given := o.notices.stored.take count.toNat
    let h := s.taken c
    let code := fun n => ((List.range 240).filter fun u => stateCode (s.unit (u + 1)).state == n).length
    exec f s = .next (
      if count.toNat < 1 ∨ 16 < count.toNat then f.reply s o .badValue []
      else f.reply s
        { o with
          notices := { o.notices with stored := left, dropped := 0, attn := !left.isEmpty }
          link := { o.link with ageTimer := match o.link.ageTimer with
            | .running _ => if left = [] then .preset else .running (s.params.link.ageLimit * 1000)
            | t => t } }
        .ok (u8 o.notices.dropped ++ u8 given.length ++ u8 left.length ++ (given.map noticeBytes).flatten))
    ∧ exec e s = .next (e.reply s { s.taken e with enables := enabled } .ok (u24 enabled.toNat))
    ∧ (s.census.number ≤ 65535 → exec c s = .next (c.reply s
        { h with census := { number := number, snapshot := some (h.counters,
            { unitCounts := (List.range 12).map code
              fill := s.dir.length, provisional := s.dir.countP (·.provisional), queueFill := s.arb.queue.length
              demands := s.arb.demands.length, account := s.supply.account, throttled := s.supply.throttled
              strings := ⟨(s.strings.a.state, s.strings.a.score), (s.strings.b.state, s.strings.b.score),
                (s.strings.c.state, s.strings.c.score), (s.strings.d.state, s.strings.d.score)⟩
              service := s.arb.service, link := .linked
              evacuationActive := s.sweeps.evacuation.state != .inactive, closingActive := s.sweeps.closing.state != .inactive
              notices := h.notices.stored.length, dropped := h.notices.dropped
              timebase := s.time.timebase, second := s.time.second, valid := s.time.valid }) } }
        .ok (u16 number ++ u32 s.time.timebase.toNat)))
    ∧ (4 < sect.toNat → exec r s = .next (r.reply s (s.taken r) .badValue []))
    ∧ (sect.toNat ≤ 4 → s.census.number = 0 ∨ s.census.snapshot = none → exec r s = .next (r.reply s (s.taken r) .badState []))
    ∧ (∀ n m, s.census.number ≠ 0 → s.census.snapshot = some (n, m) →
        let line := fun x : StringCounters => u32 x.good ++ u32 x.misses ++ u32 x.clashes ++ u32 x.overruns
        let state := fun x : StringState × Nat => u8 (stringStateCode x.1) ++ u16 x.2
        let reads := fun bytes => exec r s = .next (r.reply s (s.taken r) .ok (u16 s.census.number ++ bytes))
        (sect = 0 → reads (u32 n.accepted ++ u32 n.refused ++ u32 n.repeats))
        ∧ (sect = 1 → reads (u32 n.dispatched ++ u32 n.done ++ u32 n.doneLate ++ u32 n.jammed ++ u32 n.uncertain ++ u32 n.refusedByNode
            ++ u32 n.limited))
        ∧ (sect = 2 → reads (line n.strings.a ++ line n.strings.b ++ line n.strings.c ++ line n.strings.d))
        ∧ (sect = 3 → reads (u32 n.framesBad ++ u32 n.overruns ++ u32 n.noticesDropped))
        ∧ (sect = 4 → reads ((m.unitCounts.map u8).flatten ++ u16 m.fill ++ u16 m.provisional ++ u8 m.queueFill ++ u8 m.demands
            ++ u16 m.account ++ flag m.throttled ++ state m.strings.a ++ state m.strings.b ++ state m.strings.c ++ state m.strings.d
            ++ u8 (serviceCode m.service) ++ flag (m.link == .standalone) ++ u8 (m.evacuationActive.toNat + 2 * m.closingActive.toNat)
            ++ u8 m.notices ++ u8 m.dropped ++ u32 m.timebase.toNat ++ u24 m.second ++ flag m.valid)))
    ∧ exec z s = .next (
        if selection.toNat < 1 ∨ 15 < selection.toNat then z.reply s (s.taken z) .badValue []
        else
          let n := (s.taken z).counters
          let keep := fun k (x : Nat) => if selection.getLsbD k then 0 else x
          z.reply s
            { s.taken z with counters :=
              { accepted := keep 0 n.accepted, refused := keep 0 n.refused, repeats := keep 0 n.repeats
                dispatched := keep 1 n.dispatched, done := keep 1 n.done, doneLate := keep 1 n.doneLate, jammed := keep 1 n.jammed
                uncertain := keep 1 n.uncertain, refusedByNode := keep 1 n.refusedByNode, limited := keep 1 n.limited
                strings := if selection.getLsbD 2 then ⟨⟨0, 0, 0, 0⟩, ⟨0, 0, 0, 0⟩, ⟨0, 0, 0, 0⟩, ⟨0, 0, 0, 0⟩⟩ else n.strings
                framesBad := keep 3 n.framesBad, overruns := keep 3 n.overruns, noticesDropped := keep 3 n.noticesDropped } }
            .ok [])

/-! ## Lock-string frames -/

/-- R131, R132, R207, R210, R211: the two CRCs have the check values of R207 and R211; the frame in which a node sends a reply of the right kind is
judged that very reply, an address clash at any other address, and, with its CRC-8 spoilt or its last byte lost, a miss. With further bytes behind it,
it is a miss at every address: the model's choice, for the spec is silent on bytes after the declared end (log entry 32). A sound verdict reply to an
ACTUATE is a miss where its verdict or its reason lies outside the codes; within them the verdict is taken, also where the reason does not fit it: the
model's choice (log entry 34). -/
def Obligations.LineFramesAreJudged : Prop :=
  crc16 [0x31#8, 0x32#8, 0x33#8, 0x34#8, 0x35#8, 0x36#8, 0x37#8, 0x38#8, 0x39#8] = 0x29B1#16
  ∧ crc8 [0x31#8, 0x32#8, 0x33#8, 0x34#8, 0x35#8, 0x36#8, 0x37#8, 0x38#8, 0x39#8] = 0xF4#8
  ∧ ∀ (node : Nat) (cmd : NodeCommand) (r : NodeReply), node < 256 → (∀ p ∈ r.presentation, p.1 < 16) →
      let kind := match cmd with | .poll => r.verdict = none | .actuate _ => r.verdict ≠ none
      let frame := replyFrame node r
      (kind → judgeReply node cmd frame = .good r)
        ∧ (¬kind → judgeReply node cmd frame = .miss)
        ∧ (∀ other, other ≠ node → judgeReply other cmd frame = .clash)
        ∧ (∀ other flip, flip ≠ 0#8 → judgeReply other cmd (frame.dropLast ++ [frame.getLastD 0 ^^^ flip]) = .miss)
        ∧ (∀ other, judgeReply other cmd frame.dropLast = .miss)
        ∧ (∀ other more, more ≠ [] → judgeReply other cmd (frame ++ more) = .miss)
        ∧ (r.verdict ≠ none → ∀ (dir : Direction) (v reason : Byte),
            let covered := frame.take 9 ++ [v, reason]
            judgeReply node (.actuate dir) (covered ++ [crc8 covered]) =
              if 1 < v.toNat ∨ 2 < reason.toNat then .miss
              else .good { r with verdict := some (if v = 0 then .accept else .refuse) })

/-! ## What every step keeps -/

/-- R28, R109, R115 to R117, R119, R120, R127, R153, R172, R176, R192, R195, R196, R200: the figures stay in their ranges, THROTTLED agrees with the
account and the watermarks, the recorded lines agree with the pins, the integrity code matches while main power is up (a flag in the model, log entry 10,
DESIGN CHOICE), the Notice Queue and ATTN with each other, and the age timer with the link, at every step. -/
def Obligations.EveryStepKeepsTheFigures : Prop :=
  ∀ s t : State, s.SupplyInv → s.FiguresInv → s.NoticeInv → s.LineInv → step s = .next t →
    t.SupplyInv ∧ t.FiguresInv ∧ t.NoticeInv ∧ t.LineInv

/-- R1, R21, R124, R125, R137, R147, R152, R164, R165: every roster stands in strictly ascending order with exactly the node addresses, 1 to 60, that
configured units name on its string, no two units share a string and node address, the state of every string follows its roster and its score, a line is
held only while a grant pass is due (the model's field, log entry 28), and every sweep slot keeps the law of its passes, at every step. -/
def Obligations.EveryStepKeepsStringsAndSweeps : Prop :=
  ∀ s t : State, s.StringInv → s.SweepInv → step s = .next t → t.StringInv ∧ t.SweepInv

/-- R2, R3, R4, R33, R39, R80, R81, R83: the law of tenancy at every step: what a unit's state demands of its record, one holder listed once by its band, one
movement owed to a unit in LOCKING or UNLOCKING and none to any other, an ascending Directory, a bounded queue, and distinct demand tags. -/
def Obligations.EveryStepKeepsTenancy : Prop :=
  ∀ s t : State, s.TenancyInv → step s = .next t → t.TenancyInv

/-- Every invariant holds in the state after a cold start, which no premise of the statements above shuts out. -/
def Obligations.ResetMeetsEveryInvariant : Prop :=
  let s := State.reset
  s.SupplyInv ∧ s.FiguresInv ∧ s.NoticeInv ∧ s.LineInv ∧ s.StringInv ∧ s.SweepInv ∧ s.TenancyInv
end

