-- ==== Sys2Proof/Laws/State.lean ====
section
/-! SUPPORT. The state updates, field by field: what each block update leaves in each field of State. -/

namespace Sys2Proof.Machine

@[simp] theorem State.setUnits_units (s : State) (x : Vector UnitRecord 240) : (s.setUnits x).units = x := rfl
@[simp] theorem State.setUnits_dir (s : State) (x : Vector UnitRecord 240) : (s.setUnits x).dir = s.dir := rfl
@[simp] theorem State.setUnits_decisions (s : State) (x : Vector UnitRecord 240) : (s.setUnits x).decisions = s.decisions := rfl
@[simp] theorem State.setUnits_arb (s : State) (x : Vector UnitRecord 240) : (s.setUnits x).arb = s.arb := rfl
@[simp] theorem State.setUnits_supply (s : State) (x : Vector UnitRecord 240) : (s.setUnits x).supply = s.supply := rfl
@[simp] theorem State.setUnits_strings (s : State) (x : Vector UnitRecord 240) : (s.setUnits x).strings = s.strings := rfl
@[simp] theorem State.setUnits_sweeps (s : State) (x : Vector UnitRecord 240) : (s.setUnits x).sweeps = s.sweeps := rfl
@[simp] theorem State.setUnits_time (s : State) (x : Vector UnitRecord 240) : (s.setUnits x).time = s.time := rfl
@[simp] theorem State.setUnits_link (s : State) (x : Vector UnitRecord 240) : (s.setUnits x).link = s.link := rfl
@[simp] theorem State.setUnits_notices (s : State) (x : Vector UnitRecord 240) : (s.setUnits x).notices = s.notices := rfl
@[simp] theorem State.setUnits_enables (s : State) (x : Vector UnitRecord 240) : (s.setUnits x).enables = s.enables := rfl
@[simp] theorem State.setUnits_counters (s : State) (x : Vector UnitRecord 240) : (s.setUnits x).counters = s.counters := rfl
@[simp] theorem State.setUnits_census (s : State) (x : Vector UnitRecord 240) : (s.setUnits x).census = s.census := rfl
@[simp] theorem State.setUnits_params (s : State) (x : Vector UnitRecord 240) : (s.setUnits x).params = s.params := rfl
@[simp] theorem State.setUnits_pins (s : State) (x : Vector UnitRecord 240) : (s.setUnits x).pins = s.pins := rfl
@[simp] theorem State.setUnits_power (s : State) (x : Vector UnitRecord 240) : (s.setUnits x).power = s.power := rfl
@[simp] theorem State.setUnits_pending (s : State) (x : Vector UnitRecord 240) : (s.setUnits x).pending = s.pending := rfl

@[simp] theorem State.setDir_units (s : State) (x : List Band) : (s.setDir x).units = s.units := rfl
@[simp] theorem State.setDir_dir (s : State) (x : List Band) : (s.setDir x).dir = x := rfl
@[simp] theorem State.setDir_decisions (s : State) (x : List Band) : (s.setDir x).decisions = s.decisions := rfl
@[simp] theorem State.setDir_arb (s : State) (x : List Band) : (s.setDir x).arb = s.arb := rfl
@[simp] theorem State.setDir_supply (s : State) (x : List Band) : (s.setDir x).supply = s.supply := rfl
@[simp] theorem State.setDir_strings (s : State) (x : List Band) : (s.setDir x).strings = s.strings := rfl
@[simp] theorem State.setDir_sweeps (s : State) (x : List Band) : (s.setDir x).sweeps = s.sweeps := rfl
@[simp] theorem State.setDir_time (s : State) (x : List Band) : (s.setDir x).time = s.time := rfl
@[simp] theorem State.setDir_link (s : State) (x : List Band) : (s.setDir x).link = s.link := rfl
@[simp] theorem State.setDir_notices (s : State) (x : List Band) : (s.setDir x).notices = s.notices := rfl
@[simp] theorem State.setDir_enables (s : State) (x : List Band) : (s.setDir x).enables = s.enables := rfl
@[simp] theorem State.setDir_counters (s : State) (x : List Band) : (s.setDir x).counters = s.counters := rfl
@[simp] theorem State.setDir_census (s : State) (x : List Band) : (s.setDir x).census = s.census := rfl
@[simp] theorem State.setDir_params (s : State) (x : List Band) : (s.setDir x).params = s.params := rfl
@[simp] theorem State.setDir_pins (s : State) (x : List Band) : (s.setDir x).pins = s.pins := rfl
@[simp] theorem State.setDir_power (s : State) (x : List Band) : (s.setDir x).power = s.power := rfl
@[simp] theorem State.setDir_pending (s : State) (x : List Band) : (s.setDir x).pending = s.pending := rfl

@[simp] theorem State.setDecisions_units (s : State) (x : List Decision) : (s.setDecisions x).units = s.units := rfl
@[simp] theorem State.setDecisions_dir (s : State) (x : List Decision) : (s.setDecisions x).dir = s.dir := rfl
@[simp] theorem State.setDecisions_decisions (s : State) (x : List Decision) : (s.setDecisions x).decisions = x := rfl
@[simp] theorem State.setDecisions_arb (s : State) (x : List Decision) : (s.setDecisions x).arb = s.arb := rfl
@[simp] theorem State.setDecisions_supply (s : State) (x : List Decision) : (s.setDecisions x).supply = s.supply := rfl
@[simp] theorem State.setDecisions_strings (s : State) (x : List Decision) : (s.setDecisions x).strings = s.strings := rfl
@[simp] theorem State.setDecisions_sweeps (s : State) (x : List Decision) : (s.setDecisions x).sweeps = s.sweeps := rfl
@[simp] theorem State.setDecisions_time (s : State) (x : List Decision) : (s.setDecisions x).time = s.time := rfl
@[simp] theorem State.setDecisions_link (s : State) (x : List Decision) : (s.setDecisions x).link = s.link := rfl
@[simp] theorem State.setDecisions_notices (s : State) (x : List Decision) : (s.setDecisions x).notices = s.notices := rfl
@[simp] theorem State.setDecisions_enables (s : State) (x : List Decision) : (s.setDecisions x).enables = s.enables := rfl
@[simp] theorem State.setDecisions_counters (s : State) (x : List Decision) : (s.setDecisions x).counters = s.counters := rfl
@[simp] theorem State.setDecisions_census (s : State) (x : List Decision) : (s.setDecisions x).census = s.census := rfl
@[simp] theorem State.setDecisions_params (s : State) (x : List Decision) : (s.setDecisions x).params = s.params := rfl
@[simp] theorem State.setDecisions_pins (s : State) (x : List Decision) : (s.setDecisions x).pins = s.pins := rfl
@[simp] theorem State.setDecisions_power (s : State) (x : List Decision) : (s.setDecisions x).power = s.power := rfl
@[simp] theorem State.setDecisions_pending (s : State) (x : List Decision) : (s.setDecisions x).pending = s.pending := rfl

@[simp] theorem State.setArb_units (s : State) (x : Arbiter) : (s.setArb x).units = s.units := rfl
@[simp] theorem State.setArb_dir (s : State) (x : Arbiter) : (s.setArb x).dir = s.dir := rfl
@[simp] theorem State.setArb_decisions (s : State) (x : Arbiter) : (s.setArb x).decisions = s.decisions := rfl
@[simp] theorem State.setArb_arb (s : State) (x : Arbiter) : (s.setArb x).arb = x := rfl
@[simp] theorem State.setArb_supply (s : State) (x : Arbiter) : (s.setArb x).supply = s.supply := rfl
@[simp] theorem State.setArb_strings (s : State) (x : Arbiter) : (s.setArb x).strings = s.strings := rfl
@[simp] theorem State.setArb_sweeps (s : State) (x : Arbiter) : (s.setArb x).sweeps = s.sweeps := rfl
@[simp] theorem State.setArb_time (s : State) (x : Arbiter) : (s.setArb x).time = s.time := rfl
@[simp] theorem State.setArb_link (s : State) (x : Arbiter) : (s.setArb x).link = s.link := rfl
@[simp] theorem State.setArb_notices (s : State) (x : Arbiter) : (s.setArb x).notices = s.notices := rfl
@[simp] theorem State.setArb_enables (s : State) (x : Arbiter) : (s.setArb x).enables = s.enables := rfl
@[simp] theorem State.setArb_counters (s : State) (x : Arbiter) : (s.setArb x).counters = s.counters := rfl
@[simp] theorem State.setArb_census (s : State) (x : Arbiter) : (s.setArb x).census = s.census := rfl
@[simp] theorem State.setArb_params (s : State) (x : Arbiter) : (s.setArb x).params = s.params := rfl
@[simp] theorem State.setArb_pins (s : State) (x : Arbiter) : (s.setArb x).pins = s.pins := rfl
@[simp] theorem State.setArb_power (s : State) (x : Arbiter) : (s.setArb x).power = s.power := rfl
@[simp] theorem State.setArb_pending (s : State) (x : Arbiter) : (s.setArb x).pending = s.pending := rfl

@[simp] theorem State.setSupply_units (s : State) (x : Supply) : (s.setSupply x).units = s.units := rfl
@[simp] theorem State.setSupply_dir (s : State) (x : Supply) : (s.setSupply x).dir = s.dir := rfl
@[simp] theorem State.setSupply_decisions (s : State) (x : Supply) : (s.setSupply x).decisions = s.decisions := rfl
@[simp] theorem State.setSupply_arb (s : State) (x : Supply) : (s.setSupply x).arb = s.arb := rfl
@[simp] theorem State.setSupply_supply (s : State) (x : Supply) : (s.setSupply x).supply = x := rfl
@[simp] theorem State.setSupply_strings (s : State) (x : Supply) : (s.setSupply x).strings = s.strings := rfl
@[simp] theorem State.setSupply_sweeps (s : State) (x : Supply) : (s.setSupply x).sweeps = s.sweeps := rfl
@[simp] theorem State.setSupply_time (s : State) (x : Supply) : (s.setSupply x).time = s.time := rfl
@[simp] theorem State.setSupply_link (s : State) (x : Supply) : (s.setSupply x).link = s.link := rfl
@[simp] theorem State.setSupply_notices (s : State) (x : Supply) : (s.setSupply x).notices = s.notices := rfl
@[simp] theorem State.setSupply_enables (s : State) (x : Supply) : (s.setSupply x).enables = s.enables := rfl
@[simp] theorem State.setSupply_counters (s : State) (x : Supply) : (s.setSupply x).counters = s.counters := rfl
@[simp] theorem State.setSupply_census (s : State) (x : Supply) : (s.setSupply x).census = s.census := rfl
@[simp] theorem State.setSupply_params (s : State) (x : Supply) : (s.setSupply x).params = s.params := rfl
@[simp] theorem State.setSupply_pins (s : State) (x : Supply) : (s.setSupply x).pins = s.pins := rfl
@[simp] theorem State.setSupply_power (s : State) (x : Supply) : (s.setSupply x).power = s.power := rfl
@[simp] theorem State.setSupply_pending (s : State) (x : Supply) : (s.setSupply x).pending = s.pending := rfl

@[simp] theorem State.setStrings_units (s : State) (x : PerString StringCtl) : (s.setStrings x).units = s.units := rfl
@[simp] theorem State.setStrings_dir (s : State) (x : PerString StringCtl) : (s.setStrings x).dir = s.dir := rfl
@[simp] theorem State.setStrings_decisions (s : State) (x : PerString StringCtl) : (s.setStrings x).decisions = s.decisions := rfl
@[simp] theorem State.setStrings_arb (s : State) (x : PerString StringCtl) : (s.setStrings x).arb = s.arb := rfl
@[simp] theorem State.setStrings_supply (s : State) (x : PerString StringCtl) : (s.setStrings x).supply = s.supply := rfl
@[simp] theorem State.setStrings_strings (s : State) (x : PerString StringCtl) : (s.setStrings x).strings = x := rfl
@[simp] theorem State.setStrings_sweeps (s : State) (x : PerString StringCtl) : (s.setStrings x).sweeps = s.sweeps := rfl
@[simp] theorem State.setStrings_time (s : State) (x : PerString StringCtl) : (s.setStrings x).time = s.time := rfl
@[simp] theorem State.setStrings_link (s : State) (x : PerString StringCtl) : (s.setStrings x).link = s.link := rfl
@[simp] theorem State.setStrings_notices (s : State) (x : PerString StringCtl) : (s.setStrings x).notices = s.notices := rfl
@[simp] theorem State.setStrings_enables (s : State) (x : PerString StringCtl) : (s.setStrings x).enables = s.enables := rfl
@[simp] theorem State.setStrings_counters (s : State) (x : PerString StringCtl) : (s.setStrings x).counters = s.counters := rfl
@[simp] theorem State.setStrings_census (s : State) (x : PerString StringCtl) : (s.setStrings x).census = s.census := rfl
@[simp] theorem State.setStrings_params (s : State) (x : PerString StringCtl) : (s.setStrings x).params = s.params := rfl
@[simp] theorem State.setStrings_pins (s : State) (x : PerString StringCtl) : (s.setStrings x).pins = s.pins := rfl
@[simp] theorem State.setStrings_power (s : State) (x : PerString StringCtl) : (s.setStrings x).power = s.power := rfl
@[simp] theorem State.setStrings_pending (s : State) (x : PerString StringCtl) : (s.setStrings x).pending = s.pending := rfl

@[simp] theorem State.setSweeps_units (s : State) (x : Sweeps) : (s.setSweeps x).units = s.units := rfl
@[simp] theorem State.setSweeps_dir (s : State) (x : Sweeps) : (s.setSweeps x).dir = s.dir := rfl
@[simp] theorem State.setSweeps_decisions (s : State) (x : Sweeps) : (s.setSweeps x).decisions = s.decisions := rfl
@[simp] theorem State.setSweeps_arb (s : State) (x : Sweeps) : (s.setSweeps x).arb = s.arb := rfl
@[simp] theorem State.setSweeps_supply (s : State) (x : Sweeps) : (s.setSweeps x).supply = s.supply := rfl
@[simp] theorem State.setSweeps_strings (s : State) (x : Sweeps) : (s.setSweeps x).strings = s.strings := rfl
@[simp] theorem State.setSweeps_sweeps (s : State) (x : Sweeps) : (s.setSweeps x).sweeps = x := rfl
@[simp] theorem State.setSweeps_time (s : State) (x : Sweeps) : (s.setSweeps x).time = s.time := rfl
@[simp] theorem State.setSweeps_link (s : State) (x : Sweeps) : (s.setSweeps x).link = s.link := rfl
@[simp] theorem State.setSweeps_notices (s : State) (x : Sweeps) : (s.setSweeps x).notices = s.notices := rfl
@[simp] theorem State.setSweeps_enables (s : State) (x : Sweeps) : (s.setSweeps x).enables = s.enables := rfl
@[simp] theorem State.setSweeps_counters (s : State) (x : Sweeps) : (s.setSweeps x).counters = s.counters := rfl
@[simp] theorem State.setSweeps_census (s : State) (x : Sweeps) : (s.setSweeps x).census = s.census := rfl
@[simp] theorem State.setSweeps_params (s : State) (x : Sweeps) : (s.setSweeps x).params = s.params := rfl
@[simp] theorem State.setSweeps_pins (s : State) (x : Sweeps) : (s.setSweeps x).pins = s.pins := rfl
@[simp] theorem State.setSweeps_power (s : State) (x : Sweeps) : (s.setSweeps x).power = s.power := rfl
@[simp] theorem State.setSweeps_pending (s : State) (x : Sweeps) : (s.setSweeps x).pending = s.pending := rfl

@[simp] theorem State.setTime_units (s : State) (x : TimeBlock) : (s.setTime x).units = s.units := rfl
@[simp] theorem State.setTime_dir (s : State) (x : TimeBlock) : (s.setTime x).dir = s.dir := rfl
@[simp] theorem State.setTime_decisions (s : State) (x : TimeBlock) : (s.setTime x).decisions = s.decisions := rfl
@[simp] theorem State.setTime_arb (s : State) (x : TimeBlock) : (s.setTime x).arb = s.arb := rfl
@[simp] theorem State.setTime_supply (s : State) (x : TimeBlock) : (s.setTime x).supply = s.supply := rfl
@[simp] theorem State.setTime_strings (s : State) (x : TimeBlock) : (s.setTime x).strings = s.strings := rfl
@[simp] theorem State.setTime_sweeps (s : State) (x : TimeBlock) : (s.setTime x).sweeps = s.sweeps := rfl
@[simp] theorem State.setTime_time (s : State) (x : TimeBlock) : (s.setTime x).time = x := rfl
@[simp] theorem State.setTime_link (s : State) (x : TimeBlock) : (s.setTime x).link = s.link := rfl
@[simp] theorem State.setTime_notices (s : State) (x : TimeBlock) : (s.setTime x).notices = s.notices := rfl
@[simp] theorem State.setTime_enables (s : State) (x : TimeBlock) : (s.setTime x).enables = s.enables := rfl
@[simp] theorem State.setTime_counters (s : State) (x : TimeBlock) : (s.setTime x).counters = s.counters := rfl
@[simp] theorem State.setTime_census (s : State) (x : TimeBlock) : (s.setTime x).census = s.census := rfl
@[simp] theorem State.setTime_params (s : State) (x : TimeBlock) : (s.setTime x).params = s.params := rfl
@[simp] theorem State.setTime_pins (s : State) (x : TimeBlock) : (s.setTime x).pins = s.pins := rfl
@[simp] theorem State.setTime_power (s : State) (x : TimeBlock) : (s.setTime x).power = s.power := rfl
@[simp] theorem State.setTime_pending (s : State) (x : TimeBlock) : (s.setTime x).pending = s.pending := rfl

@[simp] theorem State.setLink_units (s : State) (x : DeskLink) : (s.setLink x).units = s.units := rfl
@[simp] theorem State.setLink_dir (s : State) (x : DeskLink) : (s.setLink x).dir = s.dir := rfl
@[simp] theorem State.setLink_decisions (s : State) (x : DeskLink) : (s.setLink x).decisions = s.decisions := rfl
@[simp] theorem State.setLink_arb (s : State) (x : DeskLink) : (s.setLink x).arb = s.arb := rfl
@[simp] theorem State.setLink_supply (s : State) (x : DeskLink) : (s.setLink x).supply = s.supply := rfl
@[simp] theorem State.setLink_strings (s : State) (x : DeskLink) : (s.setLink x).strings = s.strings := rfl
@[simp] theorem State.setLink_sweeps (s : State) (x : DeskLink) : (s.setLink x).sweeps = s.sweeps := rfl
@[simp] theorem State.setLink_time (s : State) (x : DeskLink) : (s.setLink x).time = s.time := rfl
@[simp] theorem State.setLink_link (s : State) (x : DeskLink) : (s.setLink x).link = x := rfl
@[simp] theorem State.setLink_notices (s : State) (x : DeskLink) : (s.setLink x).notices = s.notices := rfl
@[simp] theorem State.setLink_enables (s : State) (x : DeskLink) : (s.setLink x).enables = s.enables := rfl
@[simp] theorem State.setLink_counters (s : State) (x : DeskLink) : (s.setLink x).counters = s.counters := rfl
@[simp] theorem State.setLink_census (s : State) (x : DeskLink) : (s.setLink x).census = s.census := rfl
@[simp] theorem State.setLink_params (s : State) (x : DeskLink) : (s.setLink x).params = s.params := rfl
@[simp] theorem State.setLink_pins (s : State) (x : DeskLink) : (s.setLink x).pins = s.pins := rfl
@[simp] theorem State.setLink_power (s : State) (x : DeskLink) : (s.setLink x).power = s.power := rfl
@[simp] theorem State.setLink_pending (s : State) (x : DeskLink) : (s.setLink x).pending = s.pending := rfl

@[simp] theorem State.setNotices_units (s : State) (x : NoticeQueue) : (s.setNotices x).units = s.units := rfl
@[simp] theorem State.setNotices_dir (s : State) (x : NoticeQueue) : (s.setNotices x).dir = s.dir := rfl
@[simp] theorem State.setNotices_decisions (s : State) (x : NoticeQueue) : (s.setNotices x).decisions = s.decisions := rfl
@[simp] theorem State.setNotices_arb (s : State) (x : NoticeQueue) : (s.setNotices x).arb = s.arb := rfl
@[simp] theorem State.setNotices_supply (s : State) (x : NoticeQueue) : (s.setNotices x).supply = s.supply := rfl
@[simp] theorem State.setNotices_strings (s : State) (x : NoticeQueue) : (s.setNotices x).strings = s.strings := rfl
@[simp] theorem State.setNotices_sweeps (s : State) (x : NoticeQueue) : (s.setNotices x).sweeps = s.sweeps := rfl
@[simp] theorem State.setNotices_time (s : State) (x : NoticeQueue) : (s.setNotices x).time = s.time := rfl
@[simp] theorem State.setNotices_link (s : State) (x : NoticeQueue) : (s.setNotices x).link = s.link := rfl
@[simp] theorem State.setNotices_notices (s : State) (x : NoticeQueue) : (s.setNotices x).notices = x := rfl
@[simp] theorem State.setNotices_enables (s : State) (x : NoticeQueue) : (s.setNotices x).enables = s.enables := rfl
@[simp] theorem State.setNotices_counters (s : State) (x : NoticeQueue) : (s.setNotices x).counters = s.counters := rfl
@[simp] theorem State.setNotices_census (s : State) (x : NoticeQueue) : (s.setNotices x).census = s.census := rfl
@[simp] theorem State.setNotices_params (s : State) (x : NoticeQueue) : (s.setNotices x).params = s.params := rfl
@[simp] theorem State.setNotices_pins (s : State) (x : NoticeQueue) : (s.setNotices x).pins = s.pins := rfl
@[simp] theorem State.setNotices_power (s : State) (x : NoticeQueue) : (s.setNotices x).power = s.power := rfl
@[simp] theorem State.setNotices_pending (s : State) (x : NoticeQueue) : (s.setNotices x).pending = s.pending := rfl

@[simp] theorem State.setEnables_units (s : State) (x : BitVec 24) : (s.setEnables x).units = s.units := rfl
@[simp] theorem State.setEnables_dir (s : State) (x : BitVec 24) : (s.setEnables x).dir = s.dir := rfl
@[simp] theorem State.setEnables_decisions (s : State) (x : BitVec 24) : (s.setEnables x).decisions = s.decisions := rfl
@[simp] theorem State.setEnables_arb (s : State) (x : BitVec 24) : (s.setEnables x).arb = s.arb := rfl
@[simp] theorem State.setEnables_supply (s : State) (x : BitVec 24) : (s.setEnables x).supply = s.supply := rfl
@[simp] theorem State.setEnables_strings (s : State) (x : BitVec 24) : (s.setEnables x).strings = s.strings := rfl
@[simp] theorem State.setEnables_sweeps (s : State) (x : BitVec 24) : (s.setEnables x).sweeps = s.sweeps := rfl
@[simp] theorem State.setEnables_time (s : State) (x : BitVec 24) : (s.setEnables x).time = s.time := rfl
@[simp] theorem State.setEnables_link (s : State) (x : BitVec 24) : (s.setEnables x).link = s.link := rfl
@[simp] theorem State.setEnables_notices (s : State) (x : BitVec 24) : (s.setEnables x).notices = s.notices := rfl
@[simp] theorem State.setEnables_enables (s : State) (x : BitVec 24) : (s.setEnables x).enables = x := rfl
@[simp] theorem State.setEnables_counters (s : State) (x : BitVec 24) : (s.setEnables x).counters = s.counters := rfl
@[simp] theorem State.setEnables_census (s : State) (x : BitVec 24) : (s.setEnables x).census = s.census := rfl
@[simp] theorem State.setEnables_params (s : State) (x : BitVec 24) : (s.setEnables x).params = s.params := rfl
@[simp] theorem State.setEnables_pins (s : State) (x : BitVec 24) : (s.setEnables x).pins = s.pins := rfl
@[simp] theorem State.setEnables_power (s : State) (x : BitVec 24) : (s.setEnables x).power = s.power := rfl
@[simp] theorem State.setEnables_pending (s : State) (x : BitVec 24) : (s.setEnables x).pending = s.pending := rfl

@[simp] theorem State.setCounters_units (s : State) (x : Counters) : (s.setCounters x).units = s.units := rfl
@[simp] theorem State.setCounters_dir (s : State) (x : Counters) : (s.setCounters x).dir = s.dir := rfl
@[simp] theorem State.setCounters_decisions (s : State) (x : Counters) : (s.setCounters x).decisions = s.decisions := rfl
@[simp] theorem State.setCounters_arb (s : State) (x : Counters) : (s.setCounters x).arb = s.arb := rfl
@[simp] theorem State.setCounters_supply (s : State) (x : Counters) : (s.setCounters x).supply = s.supply := rfl
@[simp] theorem State.setCounters_strings (s : State) (x : Counters) : (s.setCounters x).strings = s.strings := rfl
@[simp] theorem State.setCounters_sweeps (s : State) (x : Counters) : (s.setCounters x).sweeps = s.sweeps := rfl
@[simp] theorem State.setCounters_time (s : State) (x : Counters) : (s.setCounters x).time = s.time := rfl
@[simp] theorem State.setCounters_link (s : State) (x : Counters) : (s.setCounters x).link = s.link := rfl
@[simp] theorem State.setCounters_notices (s : State) (x : Counters) : (s.setCounters x).notices = s.notices := rfl
@[simp] theorem State.setCounters_enables (s : State) (x : Counters) : (s.setCounters x).enables = s.enables := rfl
@[simp] theorem State.setCounters_counters (s : State) (x : Counters) : (s.setCounters x).counters = x := rfl
@[simp] theorem State.setCounters_census (s : State) (x : Counters) : (s.setCounters x).census = s.census := rfl
@[simp] theorem State.setCounters_params (s : State) (x : Counters) : (s.setCounters x).params = s.params := rfl
@[simp] theorem State.setCounters_pins (s : State) (x : Counters) : (s.setCounters x).pins = s.pins := rfl
@[simp] theorem State.setCounters_power (s : State) (x : Counters) : (s.setCounters x).power = s.power := rfl
@[simp] theorem State.setCounters_pending (s : State) (x : Counters) : (s.setCounters x).pending = s.pending := rfl

@[simp] theorem State.setCensus_units (s : State) (x : CensusStore) : (s.setCensus x).units = s.units := rfl
@[simp] theorem State.setCensus_dir (s : State) (x : CensusStore) : (s.setCensus x).dir = s.dir := rfl
@[simp] theorem State.setCensus_decisions (s : State) (x : CensusStore) : (s.setCensus x).decisions = s.decisions := rfl
@[simp] theorem State.setCensus_arb (s : State) (x : CensusStore) : (s.setCensus x).arb = s.arb := rfl
@[simp] theorem State.setCensus_supply (s : State) (x : CensusStore) : (s.setCensus x).supply = s.supply := rfl
@[simp] theorem State.setCensus_strings (s : State) (x : CensusStore) : (s.setCensus x).strings = s.strings := rfl
@[simp] theorem State.setCensus_sweeps (s : State) (x : CensusStore) : (s.setCensus x).sweeps = s.sweeps := rfl
@[simp] theorem State.setCensus_time (s : State) (x : CensusStore) : (s.setCensus x).time = s.time := rfl
@[simp] theorem State.setCensus_link (s : State) (x : CensusStore) : (s.setCensus x).link = s.link := rfl
@[simp] theorem State.setCensus_notices (s : State) (x : CensusStore) : (s.setCensus x).notices = s.notices := rfl
@[simp] theorem State.setCensus_enables (s : State) (x : CensusStore) : (s.setCensus x).enables = s.enables := rfl
@[simp] theorem State.setCensus_counters (s : State) (x : CensusStore) : (s.setCensus x).counters = s.counters := rfl
@[simp] theorem State.setCensus_census (s : State) (x : CensusStore) : (s.setCensus x).census = x := rfl
@[simp] theorem State.setCensus_params (s : State) (x : CensusStore) : (s.setCensus x).params = s.params := rfl
@[simp] theorem State.setCensus_pins (s : State) (x : CensusStore) : (s.setCensus x).pins = s.pins := rfl
@[simp] theorem State.setCensus_power (s : State) (x : CensusStore) : (s.setCensus x).power = s.power := rfl
@[simp] theorem State.setCensus_pending (s : State) (x : CensusStore) : (s.setCensus x).pending = s.pending := rfl

@[simp] theorem State.setParams_units (s : State) (x : Params) : (s.setParams x).units = s.units := rfl
@[simp] theorem State.setParams_dir (s : State) (x : Params) : (s.setParams x).dir = s.dir := rfl
@[simp] theorem State.setParams_decisions (s : State) (x : Params) : (s.setParams x).decisions = s.decisions := rfl
@[simp] theorem State.setParams_arb (s : State) (x : Params) : (s.setParams x).arb = s.arb := rfl
@[simp] theorem State.setParams_supply (s : State) (x : Params) : (s.setParams x).supply = s.supply := rfl
@[simp] theorem State.setParams_strings (s : State) (x : Params) : (s.setParams x).strings = s.strings := rfl
@[simp] theorem State.setParams_sweeps (s : State) (x : Params) : (s.setParams x).sweeps = s.sweeps := rfl
@[simp] theorem State.setParams_time (s : State) (x : Params) : (s.setParams x).time = s.time := rfl
@[simp] theorem State.setParams_link (s : State) (x : Params) : (s.setParams x).link = s.link := rfl
@[simp] theorem State.setParams_notices (s : State) (x : Params) : (s.setParams x).notices = s.notices := rfl
@[simp] theorem State.setParams_enables (s : State) (x : Params) : (s.setParams x).enables = s.enables := rfl
@[simp] theorem State.setParams_counters (s : State) (x : Params) : (s.setParams x).counters = s.counters := rfl
@[simp] theorem State.setParams_census (s : State) (x : Params) : (s.setParams x).census = s.census := rfl
@[simp] theorem State.setParams_params (s : State) (x : Params) : (s.setParams x).params = x := rfl
@[simp] theorem State.setParams_pins (s : State) (x : Params) : (s.setParams x).pins = s.pins := rfl
@[simp] theorem State.setParams_power (s : State) (x : Params) : (s.setParams x).power = s.power := rfl
@[simp] theorem State.setParams_pending (s : State) (x : Params) : (s.setParams x).pending = s.pending := rfl

@[simp] theorem State.setPins_units (s : State) (x : Pins) : (s.setPins x).units = s.units := rfl
@[simp] theorem State.setPins_dir (s : State) (x : Pins) : (s.setPins x).dir = s.dir := rfl
@[simp] theorem State.setPins_decisions (s : State) (x : Pins) : (s.setPins x).decisions = s.decisions := rfl
@[simp] theorem State.setPins_arb (s : State) (x : Pins) : (s.setPins x).arb = s.arb := rfl
@[simp] theorem State.setPins_supply (s : State) (x : Pins) : (s.setPins x).supply = s.supply := rfl
@[simp] theorem State.setPins_strings (s : State) (x : Pins) : (s.setPins x).strings = s.strings := rfl
@[simp] theorem State.setPins_sweeps (s : State) (x : Pins) : (s.setPins x).sweeps = s.sweeps := rfl
@[simp] theorem State.setPins_time (s : State) (x : Pins) : (s.setPins x).time = s.time := rfl
@[simp] theorem State.setPins_link (s : State) (x : Pins) : (s.setPins x).link = s.link := rfl
@[simp] theorem State.setPins_notices (s : State) (x : Pins) : (s.setPins x).notices = s.notices := rfl
@[simp] theorem State.setPins_enables (s : State) (x : Pins) : (s.setPins x).enables = s.enables := rfl
@[simp] theorem State.setPins_counters (s : State) (x : Pins) : (s.setPins x).counters = s.counters := rfl
@[simp] theorem State.setPins_census (s : State) (x : Pins) : (s.setPins x).census = s.census := rfl
@[simp] theorem State.setPins_params (s : State) (x : Pins) : (s.setPins x).params = s.params := rfl
@[simp] theorem State.setPins_pins (s : State) (x : Pins) : (s.setPins x).pins = x := rfl
@[simp] theorem State.setPins_power (s : State) (x : Pins) : (s.setPins x).power = s.power := rfl
@[simp] theorem State.setPins_pending (s : State) (x : Pins) : (s.setPins x).pending = s.pending := rfl

@[simp] theorem State.setPower_units (s : State) (x : Power) : (s.setPower x).units = s.units := rfl
@[simp] theorem State.setPower_dir (s : State) (x : Power) : (s.setPower x).dir = s.dir := rfl
@[simp] theorem State.setPower_decisions (s : State) (x : Power) : (s.setPower x).decisions = s.decisions := rfl
@[simp] theorem State.setPower_arb (s : State) (x : Power) : (s.setPower x).arb = s.arb := rfl
@[simp] theorem State.setPower_supply (s : State) (x : Power) : (s.setPower x).supply = s.supply := rfl
@[simp] theorem State.setPower_strings (s : State) (x : Power) : (s.setPower x).strings = s.strings := rfl
@[simp] theorem State.setPower_sweeps (s : State) (x : Power) : (s.setPower x).sweeps = s.sweeps := rfl
@[simp] theorem State.setPower_time (s : State) (x : Power) : (s.setPower x).time = s.time := rfl
@[simp] theorem State.setPower_link (s : State) (x : Power) : (s.setPower x).link = s.link := rfl
@[simp] theorem State.setPower_notices (s : State) (x : Power) : (s.setPower x).notices = s.notices := rfl
@[simp] theorem State.setPower_enables (s : State) (x : Power) : (s.setPower x).enables = s.enables := rfl
@[simp] theorem State.setPower_counters (s : State) (x : Power) : (s.setPower x).counters = s.counters := rfl
@[simp] theorem State.setPower_census (s : State) (x : Power) : (s.setPower x).census = s.census := rfl
@[simp] theorem State.setPower_params (s : State) (x : Power) : (s.setPower x).params = s.params := rfl
@[simp] theorem State.setPower_pins (s : State) (x : Power) : (s.setPower x).pins = s.pins := rfl
@[simp] theorem State.setPower_power (s : State) (x : Power) : (s.setPower x).power = x := rfl
@[simp] theorem State.setPower_pending (s : State) (x : Power) : (s.setPower x).pending = s.pending := rfl

@[simp] theorem State.setPending_units (s : State) (x : List Instr) : (s.setPending x).units = s.units := rfl
@[simp] theorem State.setPending_dir (s : State) (x : List Instr) : (s.setPending x).dir = s.dir := rfl
@[simp] theorem State.setPending_decisions (s : State) (x : List Instr) : (s.setPending x).decisions = s.decisions := rfl
@[simp] theorem State.setPending_arb (s : State) (x : List Instr) : (s.setPending x).arb = s.arb := rfl
@[simp] theorem State.setPending_supply (s : State) (x : List Instr) : (s.setPending x).supply = s.supply := rfl
@[simp] theorem State.setPending_strings (s : State) (x : List Instr) : (s.setPending x).strings = s.strings := rfl
@[simp] theorem State.setPending_sweeps (s : State) (x : List Instr) : (s.setPending x).sweeps = s.sweeps := rfl
@[simp] theorem State.setPending_time (s : State) (x : List Instr) : (s.setPending x).time = s.time := rfl
@[simp] theorem State.setPending_link (s : State) (x : List Instr) : (s.setPending x).link = s.link := rfl
@[simp] theorem State.setPending_notices (s : State) (x : List Instr) : (s.setPending x).notices = s.notices := rfl
@[simp] theorem State.setPending_enables (s : State) (x : List Instr) : (s.setPending x).enables = s.enables := rfl
@[simp] theorem State.setPending_counters (s : State) (x : List Instr) : (s.setPending x).counters = s.counters := rfl
@[simp] theorem State.setPending_census (s : State) (x : List Instr) : (s.setPending x).census = s.census := rfl
@[simp] theorem State.setPending_params (s : State) (x : List Instr) : (s.setPending x).params = s.params := rfl
@[simp] theorem State.setPending_pins (s : State) (x : List Instr) : (s.setPending x).pins = s.pins := rfl
@[simp] theorem State.setPending_power (s : State) (x : List Instr) : (s.setPending x).power = s.power := rfl
@[simp] theorem State.setPending_pending (s : State) (x : List Instr) : (s.setPending x).pending = x := rfl

end Sys2Proof.Machine
end

