-- ==== Sys2Proof/Laws/Changes.lean ====
section
/-! SUPPORT. What each shared operation can change: one lemma per operation, which says that it changes the blocks it lists and no other. A lemma reads
"through the operation": the state after it differs from a state `s` in the blocks `bs` exactly when the state before it does, where `bs` holds
every block that the operation can change. -/

namespace Sys2Proof.Machine

variable {s t r : State} {bs cs : List Block}

/-! ## The relation -/

@[simp] theorem Changes.refl : Changes bs s s := by intro b _; cases b <;> rfl

theorem Changes.trans (h : Changes bs s t) (h' : Changes bs t r) : Changes bs s r := by
  intro b hb
  have h1 := h b hb
  have h2 := h' b hb
  cases b <;> exact Eq.trans h2 h1

theorem Changes.trans' (h' : Changes bs t r) (h : Changes bs s t) : Changes bs s r := h.trans h'

theorem Changes.symm (h : Changes bs s t) : Changes bs t s := by
  intro b hb
  have h1 := h b hb
  cases b <;> exact Eq.symm h1

theorem Changes.mono (h : Changes cs s t) (hc : cs ⊆ bs) : Changes bs s t := fun b hb => h b fun hm => hb (hc hm)

/-- An operation that changes no block outside `bs` may be passed over. -/
theorem Changes.through (h : Changes cs t r) (hc : cs ⊆ bs) : Changes bs s r ↔ Changes bs s t :=
  ⟨fun x => x.trans (h.mono hc).symm, fun x => x.trans (h.mono hc)⟩

theorem Changes.throughOne {b : Block} (h : ∀ c, c ≠ b → c.same t r) (hb : b ∈ bs) : Changes bs s r ↔ Changes bs s t :=
  Changes.through (cs := [b]) (fun c hc => h c (by simpa using hc)) (by simpa using hb)

theorem Changes.foldl {α : Type} {f : State → α → State} (h : ∀ {s a}, Changes bs s (f s a)) (xs : List α) (s : State) :
    Changes bs s (xs.foldl f s) := by
  induction xs generalizing s with
  | nil => exact Changes.refl
  | cons x xs ih => exact (h (a := x)).trans (ih _)

/-! ## Block updates -/

@[simp] theorem changes_setUnits (x : Vector UnitRecord 240) (h : Block.units ∈ bs) : Changes bs s (t.setUnits x) ↔ Changes bs s t :=
  Changes.throughOne (by intro b hb; cases b <;> first | rfl | exact absurd rfl hb) h

@[simp] theorem changes_setDir (x : List Band) (h : Block.dir ∈ bs) : Changes bs s (t.setDir x) ↔ Changes bs s t :=
  Changes.throughOne (by intro b hb; cases b <;> first | rfl | exact absurd rfl hb) h

@[simp] theorem changes_setDecisions (x : List Decision) (h : Block.decisions ∈ bs) : Changes bs s (t.setDecisions x) ↔ Changes bs s t :=
  Changes.throughOne (by intro b hb; cases b <;> first | rfl | exact absurd rfl hb) h

@[simp] theorem changes_setArb (x : Arbiter) (h : Block.arb ∈ bs) : Changes bs s (t.setArb x) ↔ Changes bs s t :=
  Changes.throughOne (by intro b hb; cases b <;> first | rfl | exact absurd rfl hb) h

@[simp] theorem changes_setSupply (x : Supply) (h : Block.supply ∈ bs) : Changes bs s (t.setSupply x) ↔ Changes bs s t :=
  Changes.throughOne (by intro b hb; cases b <;> first | rfl | exact absurd rfl hb) h

@[simp] theorem changes_setStrings (x : PerString StringCtl) (h : Block.strings ∈ bs) : Changes bs s (t.setStrings x) ↔ Changes bs s t :=
  Changes.throughOne (by intro b hb; cases b <;> first | rfl | exact absurd rfl hb) h

@[simp] theorem changes_setSweeps (x : Sweeps) (h : Block.sweeps ∈ bs) : Changes bs s (t.setSweeps x) ↔ Changes bs s t :=
  Changes.throughOne (by intro b hb; cases b <;> first | rfl | exact absurd rfl hb) h

@[simp] theorem changes_setTime (x : TimeBlock) (h : Block.time ∈ bs) : Changes bs s (t.setTime x) ↔ Changes bs s t :=
  Changes.throughOne (by intro b hb; cases b <;> first | rfl | exact absurd rfl hb) h

@[simp] theorem changes_setLink (x : DeskLink) (h : Block.link ∈ bs) : Changes bs s (t.setLink x) ↔ Changes bs s t :=
  Changes.throughOne (by intro b hb; cases b <;> first | rfl | exact absurd rfl hb) h

@[simp] theorem changes_setNotices (x : NoticeQueue) (h : Block.notices ∈ bs) : Changes bs s (t.setNotices x) ↔ Changes bs s t :=
  Changes.throughOne (by intro b hb; cases b <;> first | rfl | exact absurd rfl hb) h

@[simp] theorem changes_setEnables (x : BitVec 24) (h : Block.enables ∈ bs) : Changes bs s (t.setEnables x) ↔ Changes bs s t :=
  Changes.throughOne (by intro b hb; cases b <;> first | rfl | exact absurd rfl hb) h

@[simp] theorem changes_setCounters (x : Counters) (h : Block.counters ∈ bs) : Changes bs s (t.setCounters x) ↔ Changes bs s t :=
  Changes.throughOne (by intro b hb; cases b <;> first | rfl | exact absurd rfl hb) h

@[simp] theorem changes_setCensus (x : CensusStore) (h : Block.census ∈ bs) : Changes bs s (t.setCensus x) ↔ Changes bs s t :=
  Changes.throughOne (by intro b hb; cases b <;> first | rfl | exact absurd rfl hb) h

@[simp] theorem changes_setParams (x : Params) (h : Block.params ∈ bs) : Changes bs s (t.setParams x) ↔ Changes bs s t :=
  Changes.throughOne (by intro b hb; cases b <;> first | rfl | exact absurd rfl hb) h

@[simp] theorem changes_setPins (x : Pins) (h : Block.pins ∈ bs) : Changes bs s (t.setPins x) ↔ Changes bs s t :=
  Changes.throughOne (by intro b hb; cases b <;> first | rfl | exact absurd rfl hb) h

@[simp] theorem changes_setPower (x : Power) (h : Block.power ∈ bs) : Changes bs s (t.setPower x) ↔ Changes bs s t :=
  Changes.throughOne (by intro b hb; cases b <;> first | rfl | exact absurd rfl hb) h

@[simp] theorem changes_setPending (x : List Instr) (h : Block.pending ∈ bs) : Changes bs s (t.setPending x) ↔ Changes bs s t :=
  Changes.throughOne (by intro b hb; cases b <;> first | rfl | exact absurd rfl hb) h

/-! ## Ops -/

@[simp] theorem changes_setStr (i : StringId) (c : StringCtl) (h : [.strings] ⊆ bs) :
    Changes bs s (t.setStr i c) ↔ Changes bs s t :=
  Changes.through (by simp [State.setStr]) h

@[simp] theorem changes_setSlot (k : SlotId) (x : SweepSlot) (h : [.sweeps] ⊆ bs) :
    Changes bs s (t.setSlot k x) ↔ Changes bs s t :=
  Changes.through (by unfold State.setSlot; (repeat' split) <;> simp) h

@[simp] theorem changes_modNode (i : StringId) (addr : Nat) (f : NodeRecord → NodeRecord) (h : [.strings] ⊆ bs) :
    Changes bs s (t.modNode i addr f) ↔ Changes bs s t :=
  Changes.through (by simp [State.modNode]) h

@[simp] theorem changes_setUnit (u : Nat) (r : UnitRecord) (h : [.units] ⊆ bs) :
    Changes bs s (t.setUnit u r) ↔ Changes bs s t :=
  Changes.through (by unfold State.setUnit; (repeat' split) <;> simp) h

@[simp] theorem changes_modUnit (u : Nat) (f : UnitRecord → UnitRecord) (h : [.units] ⊆ bs) :
    Changes bs s (t.modUnit u f) ↔ Changes bs s t :=
  Changes.through (by simp [State.modUnit]) h

@[simp] theorem changes_modBand (b : BandId) (f : Band → Band) (h : [.dir] ⊆ bs) :
    Changes bs s (t.modBand b f) ↔ Changes bs s t :=
  Changes.through (by simp [State.modBand]) h

@[simp] theorem changes_count (f : Counters → Counters) (h : [.counters] ⊆ bs) :
    Changes bs s (t.count f) ↔ Changes bs s t :=
  Changes.through (by simp [State.count]) h

@[simp] theorem changes_countString (i : StringId) (f : StringCounters → StringCounters) (h : [.counters] ⊆ bs) :
    Changes bs s (t.countString i f) ↔ Changes bs s t :=
  Changes.through (by simp [State.countString]) h

@[simp] theorem changes_dropNotice (h : [.notices, .counters] ⊆ bs) :
    Changes bs s t.dropNotice ↔ Changes bs s t :=
  Changes.through (by simp [State.dropNotice]) h

@[simp] theorem changes_storeNotice (d : NoticeData) (h : [.link, .notices] ⊆ bs) :
    Changes bs s (t.storeNotice d) ↔ Changes bs s t :=
  Changes.through (by unfold State.storeNotice; (repeat' split) <;> simp) h

@[simp] theorem changes_post (d : NoticeData) (h : [.link, .notices, .counters] ⊆ bs) :
    Changes bs s (t.post d) ↔ Changes bs s t :=
  Changes.through (by unfold State.post; (repeat' split) <;> simp) h

@[simp] theorem changes_postUnit (kind : NoticeKind) (u : Nat) (band : Option BandId) (code : NoticeCode) (value : Option Nat) (h : [.link, .notices, .counters] ⊆ bs) :
    Changes bs s (t.postUnit kind u band code value) ↔ Changes bs s t :=
  Changes.through (by simp [State.postUnit]) h

@[simp] theorem changes_startPass (h : [.arb] ⊆ bs) :
    Changes bs s t.startPass ↔ Changes bs s t :=
  Changes.through (by simp [State.startPass]) h

/-! ## Holdings -/

@[simp] theorem changes_bind (u : Nat) (b : BandId) (h : [.units, .dir] ⊆ bs) :
    Changes bs s (t.bind u b) ↔ Changes bs s t :=
  Changes.through (by simp [State.bind]) h

@[simp] theorem changes_removeHolder (u : Nat) (h : [.units, .dir] ⊆ bs) :
    Changes bs s (t.removeHolder u) ↔ Changes bs s t :=
  Changes.through (by unfold State.removeHolder; (repeat' split) <;> simp) h

@[simp] theorem changes_enter (u : Nat) (x : UnitState) (h : [.units, .link, .notices, .counters] ⊆ bs) :
    Changes bs s (t.enter u x) ↔ Changes bs s t :=
  Changes.through (by unfold State.enter; dsimp only; split <;> simp) h

@[simp] theorem changes_takeIntent (u : Nat) (c : Cause) (h : [.units] ⊆ bs) :
    Changes bs s (t.takeIntent u c) ↔ Changes bs s t :=
  Changes.through (by unfold State.takeIntent; (repeat' split) <;> simp) h

@[simp] theorem changes_withdrawIntent (u : Nat) (h : [.units, .dir, .link, .notices, .counters] ⊆ bs) :
    Changes bs s (t.withdrawIntent u) ↔ Changes bs s t :=
  Changes.through (by unfold State.withdrawIntent; (repeat' split) <;> simp) h

@[simp] theorem changes_releaseByClosing (u : Nat) (w : Bool) (h : [.units, .dir, .link, .notices, .counters] ⊆ bs) :
    Changes bs s (t.releaseByClosing u w) ↔ Changes bs s t :=
  Changes.through (by unfold State.releaseByClosing; (repeat' split) <;> simp) h

@[simp] theorem changes_applyDone (u : Nat) (h : [.units, .dir, .link, .notices, .counters] ⊆ bs) :
    Changes bs s (t.applyDone u) ↔ Changes bs s t :=
  Changes.through (by unfold State.applyDone; dsimp only; (repeat' split) <;> simp) h

@[simp] theorem changes_applyOutcome (u : Nat) (o : Completion) (h : [.units, .dir, .link, .notices, .counters] ⊆ bs) :
    Changes bs s (t.applyOutcome u o) ↔ Changes bs s t :=
  Changes.through (by unfold State.applyOutcome; (repeat' split) <;> simp) h

@[simp] theorem changes_takeOutcome (u : Nat) (o : Completion) (l : Bool) (h : [.units, .dir, .link, .notices, .counters] ⊆ bs) :
    Changes bs s (t.takeOutcome u o l) ↔ Changes bs s t :=
  Changes.through (by simp [State.takeOutcome]) h

@[simp] theorem changes_reportTamper (u : Nat) (d : Door) (b : Bolt) (h : [.units, .link, .notices, .counters] ⊆ bs) :
    Changes bs s (t.reportTamper u d b) ↔ Changes bs s t :=
  Changes.through (by unfold State.reportTamper; dsimp only; (repeat' split) <;> simp) h

@[simp] theorem changes_followInside (u : Nat) (x : InsideBolt) (h : [.units, .link, .notices, .counters] ⊆ bs) :
    Changes bs s (t.followInside u x) ↔ Changes bs s t :=
  Changes.through (by unfold State.followInside; dsimp only; (repeat' split) <;> simp) h

@[simp] theorem changes_resolveBolt (u : Nat) (b : Bolt) (h : [.units, .dir, .link, .notices, .counters] ⊆ bs) :
    Changes bs s (t.resolveBolt u b) ↔ Changes bs s t :=
  Changes.through (by unfold State.resolveBolt; dsimp only; (repeat' split) <;> simp) h

@[simp] theorem changes_nodeReport (u : Nat) (d : Door) (b : Bolt) (x : InsideBolt) (h : [.units, .dir, .link, .notices, .counters] ⊆ bs) :
    Changes bs s (t.nodeReport u d b x) ↔ Changes bs s t :=
  Changes.through (by simp [State.nodeReport]) h

/-! ## Queue -/

@[simp] theorem changes_admitRecord (u : Nat) (o : Origin) (a : Option StaffAction) (b : Option BandId) (tag : Option Nat) (h : [.units, .arb] ⊆ bs) :
    Changes bs s (t.admitRecord u o a b tag) ↔ Changes bs s t :=
  Changes.through (by simp [State.admitRecord]) h

@[simp] theorem changes_removeRecord (u : Nat) (h : [.arb] ⊆ bs) :
    Changes bs s (t.removeRecord u) ↔ Changes bs s t :=
  Changes.through (by simp [State.removeRecord]) h

@[simp] theorem changes_withdrawGuest (u : Nat) (w : WithdrawReason) (h : [.units, .dir, .arb, .link, .notices, .counters] ⊆ bs) :
    Changes bs s (t.withdrawGuest u w) ↔ Changes bs s t :=
  Changes.through (by unfold State.withdrawGuest; (repeat' split) <;> simp) h

@[simp] theorem changes_dropDemand (tag : Nat) (h : [.arb] ⊆ bs) :
    Changes bs s (t.dropDemand tag) ↔ Changes bs s t :=
  Changes.through (by simp [State.dropDemand]) h

@[simp] theorem changes_postDemandDone (u tag : Nat) (holder : Option BandId) (e : DemandEnd) (h : [.link, .notices, .counters] ⊆ bs) :
    Changes bs s (t.postDemandDone u tag holder e) ↔ Changes bs s t :=
  Changes.through (by simp [State.postDemandDone]) h

@[simp] theorem changes_closeDemand (tag : Option Nat) (holder : Option BandId) (e : DemandEnd) (h : [.arb, .link, .notices, .counters] ⊆ bs) :
    Changes bs s (t.closeDemand tag holder e) ↔ Changes bs s t :=
  Changes.through (by unfold State.closeDemand; (repeat' split) <;> simp) h

@[simp] theorem changes_resetRecord (r : ActRecord) (h : [.units, .dir, .arb, .link, .notices, .counters] ⊆ bs) :
    Changes bs s (t.resetRecord r) ↔ Changes bs s t :=
  Changes.through (by unfold State.resetRecord; (repeat' split) <;> simp) h

@[simp] theorem changes_resetRecords (i : StringId) (h : [.units, .dir, .arb, .link, .notices, .counters] ⊆ bs) :
    Changes bs s (t.resetRecords i) ↔ Changes bs s t :=
  Changes.through (by unfold State.resetRecords; exact Changes.foldl (by simp) _ _) h

@[simp] theorem changes_urgencyAtOffer (h : [.arb] ⊆ bs) :
    Changes bs s t.urgencyAtOffer ↔ Changes bs s t :=
  Changes.through (by unfold State.urgencyAtOffer; (repeat' split) <;> simp) h

@[simp] theorem changes_urgencyAtGrant (h : [.arb] ⊆ bs) :
    Changes bs s t.urgencyAtGrant ↔ Changes bs s t :=
  Changes.through (by unfold State.urgencyAtGrant; (repeat' split) <;> simp) h

@[simp] theorem changes_urgencyStop (h : [.arb] ⊆ bs) :
    Changes bs s t.urgencyStop ↔ Changes bs s t :=
  Changes.through (by simp [State.urgencyStop]) h

@[simp] theorem changes_urgencyAtDrop (h : [.arb] ⊆ bs) :
    Changes bs s t.urgencyAtDrop ↔ Changes bs s t :=
  Changes.through (by unfold State.urgencyAtDrop; (repeat' split) <;> simp) h

@[simp] theorem changes_enterQuiesced (h : [.arb, .link, .notices, .counters] ⊆ bs) :
    Changes bs s t.enterQuiesced ↔ Changes bs s t :=
  Changes.through (by simp [State.enterQuiesced]) h

@[simp] theorem changes_testQuiesced (h : [.arb, .link, .notices, .counters] ⊆ bs) :
    Changes bs s t.testQuiesced ↔ Changes bs s t :=
  Changes.through (by unfold State.testQuiesced; (repeat' split) <;> simp) h

/-! ## Walks -/

@[simp] theorem changes_supersede (k : SlotId) (u : Nat) (h : [.units, .dir, .arb, .link, .notices, .counters] ⊆ bs) :
    Changes bs s (t.supersede k u) ↔ Changes bs s t :=
  Changes.through (by unfold State.supersede; (repeat' split) <;> simp) h

@[simp] theorem changes_markRepeat (k : SlotId) (u : Nat) (h : [.sweeps] ⊆ bs) :
    Changes bs s (t.markRepeat k u) ↔ Changes bs s t :=
  Changes.through (by simp [State.markRepeat]) h

@[simp] theorem changes_releaseAtOnce (k : SlotId) (u : Nat) (h : [.units, .dir, .sweeps, .link, .notices, .counters] ⊆ bs) :
    Changes bs s (t.releaseAtOnce k u) ↔ Changes bs s t :=
  Changes.through (by simp [State.releaseAtOnce]) h

@[simp] theorem changes_putOffer (k : SlotId) (i : StringId) (u : Nat) (h : [.arb, .sweeps] ⊆ bs) :
    Changes bs s (t.putOffer k i u) ↔ Changes bs s t :=
  Changes.through (by unfold State.putOffer; dsimp only; split <;> simp) h

@[simp] theorem changes_setCursor (k : SlotId) (i : StringId) (c : Option Nat) (h : [.sweeps] ⊆ bs) :
    Changes bs s (t.setCursor k i c) ↔ Changes bs s t :=
  Changes.through (by simp [State.setCursor]) h

@[simp] theorem changes_walkOver (k : SlotId) (i : StringId) (as : List Nat) (h : [.units, .dir, .arb, .sweeps, .link, .notices, .counters] ⊆ bs) :
    Changes bs s (walkOver k i as t) ↔ Changes bs s t :=
  Changes.through (by 
    induction as generalizing t with
    | nil => simp [walkOver]
    | cons a rest ih =>
      unfold walkOver; dsimp only
      (repeat' split) <;> first | exact ih | exact (ih.trans' (by simp)) | simp) h

@[simp] theorem changes_endSweep (k : SlotId) (e : Ending) (h : [.arb, .sweeps, .link, .notices, .counters] ⊆ bs) :
    Changes bs s (t.endSweep k e) ↔ Changes bs s t :=
  Changes.through (by unfold State.endSweep; dsimp only; split <;> simp) h

@[simp] theorem changes_testPass (k : SlotId) (h : [.arb, .sweeps, .link, .notices, .counters] ⊆ bs) :
    Changes bs s (t.testPass k) ↔ Changes bs s t :=
  Changes.through (by unfold State.testPass; dsimp only; (repeat' split) <;> simp) h

@[simp] theorem changes_walk (k : SlotId) (i : StringId) (h : [.units, .dir, .arb, .sweeps, .link, .notices, .counters] ⊆ bs) :
    Changes bs s (t.walk k i) ↔ Changes bs s t :=
  Changes.through (by unfold State.walk; dsimp only; split <;> simp) h

@[simp] theorem changes_walkAll (k : SlotId) (h : [.units, .dir, .arb, .sweeps, .link, .notices, .counters] ⊆ bs) :
    Changes bs s (t.walkAll k) ↔ Changes bs s t :=
  Changes.through (by unfold State.walkAll; exact Changes.foldl (by simp) _ _) h

@[simp] theorem changes_withdrawOffer (k : SlotId) (i : StringId) (m : Bool) (h : [.arb, .sweeps] ⊆ bs) :
    Changes bs s (t.withdrawOffer k i m) ↔ Changes bs s t :=
  Changes.through (by unfold State.withdrawOffer; dsimp only; (repeat' split) <;> simp) h

@[simp] theorem changes_dropOffer (k : SlotId) (i : StringId) (u : Nat) (h : [.units, .dir, .arb, .sweeps, .link, .notices, .counters] ⊆ bs) :
    Changes bs s (t.dropOffer k i u) ↔ Changes bs s t :=
  Changes.through (by unfold State.dropOffer; (repeat' split) <;> simp) h

@[simp] theorem changes_dropOffers (i : StringId) (u : Nat) (h : [.units, .dir, .arb, .sweeps, .link, .notices, .counters] ⊆ bs) :
    Changes bs s (t.dropOffers i u) ↔ Changes bs s t :=
  Changes.through (by simp [State.dropOffers]) h

theorem changes_dropString (i : StringId) (act : State → State) {cs : List Block}
    (ha : ∀ s, Changes ([.units, .dir, .arb, .sweeps, .link, .notices, .counters] ++ cs) s (act s))
    (h : [.units, .dir, .arb, .sweeps, .link, .notices, .counters] ++ cs ⊆ bs) :
    Changes bs s (t.dropString i act) ↔ Changes bs s t :=
  Changes.through (by unfold State.dropString; dsimp only; (repeat' split) <;> simp <;> exact (ha _).trans' (by simp)) h

@[simp] theorem changes_countSweep (x : Option SlotId) (o : Completion) (h : [.arb, .sweeps, .link, .notices, .counters] ⊆ bs) :
    Changes bs s (t.countSweep x o) ↔ Changes bs s t :=
  Changes.through (by unfold State.countSweep; dsimp only; (repeat' split) <;> simp) h

@[simp] theorem changes_initSweep (k : SlotId) (z : Nat) (f : KindFilter) (h : [.sweeps] ⊆ bs) :
    Changes bs s (t.initSweep k z f) ↔ Changes bs s t :=
  Changes.through (by simp [State.initSweep]) h

@[simp] theorem changes_startEvacuation (h : [.units, .dir, .arb, .sweeps, .link, .notices, .counters] ⊆ bs) :
    Changes bs s t.startEvacuation ↔ Changes bs s t :=
  Changes.through (by unfold State.startEvacuation; (repeat' split) <;> simp) h

@[simp] theorem changes_startClosing (z : Nat) (f : KindFilter) (c : Bool) (h : [.units, .dir, .arb, .sweeps, .link, .notices, .counters] ⊆ bs) :
    Changes bs s (t.startClosing z f c) ↔ Changes bs s t :=
  Changes.through (by simp [State.startClosing]) h

@[simp] theorem changes_nextPass (k : SlotId) (h : [.units, .dir, .arb, .sweeps, .link, .notices, .counters] ⊆ bs) :
    Changes bs s (t.nextPass k) ↔ Changes bs s t :=
  Changes.through (by simp [State.nextPass]) h

/-! ## Exchanges -/

@[simp] theorem changes_settleRound (i : StringId) (h : [.strings, .counters] ⊆ bs) :
    Changes bs s (t.settleRound i) ↔ Changes bs s t :=
  Changes.through (by unfold State.settleRound; dsimp only; (repeat' split) <;> simp) h

@[simp] theorem changes_send (i : StringId) (addr : Nat) (c : NodeCommand) (p : Bool) (h : [.strings] ⊆ bs) :
    Changes bs s (t.send i addr c p) ↔ Changes bs s t :=
  Changes.through (by simp [State.send]) h

@[simp] theorem changes_sendRoundPoll (i : StringId) (addr : Nat) (h : [.strings] ⊆ bs) :
    Changes bs s (t.sendRoundPoll i addr) ↔ Changes bs s t :=
  Changes.through (by simp [State.sendRoundPoll]) h

@[simp] theorem changes_chooseNext (i : StringId) (h : [.strings] ⊆ bs) :
    Changes bs s (t.chooseNext i) ↔ Changes bs s t :=
  Changes.through (by unfold State.chooseNext; dsimp only; (repeat' split) <;> simp) h

@[simp] theorem changes_sendNext (i : StringId) (h : [.strings, .counters] ⊆ bs) :
    Changes bs s (t.sendNext i) ↔ Changes bs s t :=
  Changes.through (by unfold State.sendNext; split <;> simp) h

/-- With an exchange under way a string does not go on. -/
theorem State.sendNext_of_busy (i : StringId) (h : (s.str i).exchange.isSome = true) : s.sendNext i = s := by
  simp [State.sendNext, h]

/-- Otherwise its round is settled first, and then the next exchange is chosen. -/
theorem State.sendNext_of_free (i : StringId) (h : (s.str i).exchange = none) : s.sendNext i = (s.settleRound i).chooseNext i := by
  simp [State.sendNext, h]

/-- On a line that is held for a grant pass nothing is sent. -/
theorem State.chooseNext_of_held (i : StringId) (h : (s.str i).held = true) : s.chooseNext i = s := by
  simp [State.chooseNext, StringCtl.lineFree, h]

@[simp] theorem changes_release (i : StringId) (h : [.strings, .counters] ⊆ bs) :
    Changes bs s (t.release i) ↔ Changes bs s t :=
  Changes.through (by unfold State.release; split <;> simp) h

@[simp] theorem changes_beginRound (i : StringId) (h : [.strings, .counters] ⊆ bs) :
    Changes bs s (t.beginRound i) ↔ Changes bs s t :=
  Changes.through (by simp [State.beginRound]) h

@[simp] theorem changes_startGap (i : StringId) (c : Bool) (h : [.arb, .strings] ⊆ bs) :
    Changes bs s (t.startGap i c) ↔ Changes bs s t :=
  Changes.through (by unfold State.startGap; (repeat' split) <;> simp) h

@[simp] theorem changes_complete (i : StringId) (o : Completion) (c : Bool) (h : [.units, .dir, .arb, .strings, .sweeps, .link, .notices, .counters] ⊆ bs) :
    Changes bs s (t.complete i o c) ↔ Changes bs s t :=
  Changes.through (by unfold State.complete; dsimp only; split <;> simp) h

@[simp] theorem changes_enterString (i : StringId) (x : StringState) (h : [.arb, .strings, .link, .notices, .counters] ⊆ bs) :
    Changes bs s (t.enterString i x) ↔ Changes bs s t :=
  Changes.through (by unfold State.enterString; dsimp only; (repeat' split) <;> simp) h

@[simp] theorem changes_loseNode (i : StringId) (addr : Nat) (h : [.units, .dir, .arb, .strings, .sweeps, .link, .notices, .counters] ⊆ bs) :
    Changes bs s (t.loseNode i addr) ↔ Changes bs s t :=
  Changes.through (by unfold State.loseNode; dsimp only; (repeat' split) <;> simp) h

@[simp] theorem changes_loseNodes (i : StringId) (h : [.units, .dir, .arb, .strings, .sweeps, .link, .notices, .counters] ⊆ bs) :
    Changes bs s (t.loseNodes i) ↔ Changes bs s t :=
  Changes.through (by
    unfold State.loseNodes; dsimp only
    refine (changes_dropString i id (cs := [.strings]) (fun _ => Changes.refl) (by decide)).mpr ?_
    exact (Changes.foldl (by simp) _ _).trans' (by simp)) h

@[simp] theorem changes_goOff (i : StringId) (h : [.units, .dir, .arb, .strings, .sweeps, .link, .notices, .counters] ⊆ bs) :
    Changes bs s (t.goOff i) ↔ Changes bs s t :=
  Changes.through (by simp [State.goOff]) h

@[simp] theorem changes_restart (i : StringId) (h : [.arb, .strings, .link, .notices, .counters] ⊆ bs) :
    Changes bs s (t.restart i) ↔ Changes bs s t :=
  Changes.through (by simp [State.restart]) h

@[simp] theorem changes_replyScore (i : StringId) (h : [.arb, .strings, .link, .notices, .counters] ⊆ bs) :
    Changes bs s (t.replyScore i) ↔ Changes bs s t :=
  Changes.through (by simp [State.replyScore]) h

@[simp] theorem changes_replyPresence (i : StringId) (addr : Nat) (h : [.arb, .strings, .link, .notices, .counters] ⊆ bs) :
    Changes bs s (t.replyPresence i addr) ↔ Changes bs s t :=
  Changes.through (by unfold State.replyPresence; (repeat' split) <;> simp) h

@[simp] theorem changes_postFault (i : StringId) (addr : Nat) (f : NodeFault) (h : [.link, .notices, .counters] ⊆ bs) :
    Changes bs s (t.postFault i addr f) ↔ Changes bs s t :=
  Changes.through (by simp [State.postFault]) h

@[simp] theorem changes_replyReader (i : StringId) (addr : Nat) (f : Bool) (h : [.strings, .link, .notices, .counters] ⊆ bs) :
    Changes bs s (t.replyReader i addr f) ↔ Changes bs s t :=
  Changes.through (by unfold State.replyReader; dsimp only; (repeat' split) <;> simp) h

@[simp] theorem changes_replyActuator (i : StringId) (addr : Nat) (f : Bool) (h : [.units, .dir, .arb, .strings, .sweeps, .link, .notices, .counters] ⊆ bs) :
    Changes bs s (t.replyActuator i addr f) ↔ Changes bs s t :=
  Changes.through (by unfold State.replyActuator; dsimp only; (repeat' split) <;> simp) h

@[simp] theorem changes_replyIndicator (i : StringId) (addr : Nat) (x : Exchange) (h : [.strings] ⊆ bs) :
    Changes bs s (t.replyIndicator i addr x) ↔ Changes bs s t :=
  Changes.through (by unfold State.replyIndicator; (repeat' split) <;> simp) h

@[simp] theorem changes_replyActuation (i : StringId) (addr : Nat) (r : NodeReply) (h : [.units, .dir, .arb, .strings, .sweeps, .link, .notices, .counters] ⊆ bs) :
    Changes bs s (t.replyActuation i addr r) ↔ Changes bs s t :=
  Changes.through (by unfold State.replyActuation; (repeat' split) <;> simp) h

@[simp] theorem changes_replyReport (i : StringId) (addr : Nat) (r : NodeReply) (h : [.units, .dir, .arb, .strings, .sweeps, .link, .notices, .counters] ⊆ bs) :
    Changes bs s (t.replyReport i addr r) ↔ Changes bs s t :=
  Changes.through (by unfold State.replyReport; dsimp only; split <;> simp) h

@[simp] theorem changes_replyPresentation (i : StringId) (addr : Nat) (p : Option (Nat × BandId)) (h : [.decisions, .strings, .counters] ⊆ bs) :
    Changes bs s (t.replyPresentation i addr p) ↔ Changes bs s t :=
  Changes.through (by unfold State.replyPresentation; dsimp only; (repeat' split) <;> simp) h

@[simp] theorem changes_goodReply (i : StringId) (x : Exchange) (r : NodeReply) (h : [.units, .dir, .decisions, .arb, .strings, .sweeps, .link, .notices, .counters] ⊆ bs) :
    Changes bs s (t.goodReply i x r) ↔ Changes bs s t :=
  Changes.through (by simp [State.goodReply]) h

@[simp] theorem changes_missNode (i : StringId) (addr : Nat) (h : [.units, .dir, .arb, .strings, .sweeps, .link, .notices, .counters] ⊆ bs) :
    Changes bs s (t.missNode i addr) ↔ Changes bs s t :=
  Changes.through (by unfold State.missNode; dsimp only; (repeat' split) <;> simp) h

@[simp] theorem changes_missScore (i : StringId) (h : [.units, .dir, .arb, .strings, .sweeps, .link, .notices, .counters] ⊆ bs) :
    Changes bs s (t.missScore i) ↔ Changes bs s t :=
  Changes.through (by unfold State.missScore; dsimp only; split <;> simp) h

@[simp] theorem changes_takeMiss (i : StringId) (x : Exchange) (c : Bool) (h : [.units, .dir, .arb, .strings, .sweeps, .link, .notices, .counters] ⊆ bs) :
    Changes bs s (t.takeMiss i x c) ↔ Changes bs s t :=
  Changes.through (by simp only [State.takeMiss]; split_ifs <;> simp) h

@[simp] theorem changes_takeReply (i : StringId) (f : List Byte) (x : Exchange) (h : [.units, .dir, .decisions, .arb, .strings, .sweeps, .link, .notices, .counters] ⊆ bs) :
    Changes bs s (takeReply i f x t) ↔ Changes bs s t :=
  Changes.through (by unfold takeReply; split <;> simp) h

/-- The end of an exchange changes what its effect changes, and the string and its counters. -/
theorem changes_endExchange {act : Exchange → State → State} (i : StringId) (hs : [.strings, .counters] ⊆ bs)
    (h : ∀ x s, Changes bs s (act x s)) : Changes bs s (s.endExchange i act) := by
  have h1 : Block.strings ∈ bs := hs (by simp)
  have h2 : Block.counters ∈ bs := hs (by simp)
  unfold State.endExchange
  split
  · simp
  · dsimp only
    split
    · simp only [changes_sendNext, List.cons_subset, List.nil_subset, h1, h2, and_self]
      exact (h _ _).trans' (by simp [h1])
    · simp [h1, h2]

@[simp] theorem changes_addNode (i : StringId) (addr : Nat) (h : [.arb, .strings, .link, .notices, .counters] ⊆ bs) :
    Changes bs s (t.addNode i addr) ↔ Changes bs s t :=
  Changes.through (by unfold State.addNode; dsimp only; split <;> simp) h

@[simp] theorem changes_removeNode (i : StringId) (addr : Nat) (h : [.arb, .strings, .link, .notices, .counters] ⊆ bs) :
    Changes bs s (t.removeNode i addr) ↔ Changes bs s t :=
  Changes.through (by unfold State.removeNode; dsimp only; split <;> simp) h

/-! ## Grants -/

@[simp] theorem changes_charge (c : Nat) (h : [.supply] ⊆ bs) :
    Changes bs s (t.charge c) ↔ Changes bs s t :=
  Changes.through (by simp [State.charge]) h

@[simp] theorem changes_dispatch (u : Nat) (d : Direction) (o : Origin) (a : Option StaffAction) (b : Option BandId) (tag : Option Nat) (x : Option SlotId) (h : [.supply, .strings, .counters] ⊆ bs) :
    Changes bs s (t.dispatch u d o a b tag x) ↔ Changes bs s t :=
  Changes.through (by unfold State.dispatch; split <;> simp) h

@[simp] theorem changes_demandInFlight (tag : Option Nat) (h : [.arb] ⊆ bs) :
    Changes bs s (t.demandInFlight tag) ↔ Changes bs s t :=
  Changes.through (by simp [State.demandInFlight]) h

@[simp] theorem changes_grant (r : ActRecord) (h : [.arb, .supply, .strings, .counters] ⊆ bs) :
    Changes bs s (t.grant r) ↔ Changes bs s t :=
  Changes.through (by simp [State.grant]) h

@[simp] theorem changes_clearOffer (k : SlotId) (i : StringId) (h : [.sweeps] ⊆ bs) :
    Changes bs s (t.clearOffer k i) ↔ Changes bs s t :=
  Changes.through (by simp [State.clearOffer]) h

@[simp] theorem changes_grantOffer (k : SlotId) (i : StringId) (u : Nat) (h : [.units, .arb, .supply, .strings, .sweeps, .counters] ⊆ bs) :
    Changes bs s (t.grantOffer k i u) ↔ Changes bs s t :=
  Changes.through (by unfold State.grantOffer; dsimp only; split <;> simp) h

@[simp] theorem changes_rejudge (k : SlotId) (u : Nat) (h : [.units, .dir, .arb, .sweeps, .link, .notices, .counters] ⊆ bs) :
    Changes bs s (t.rejudge k u) ↔ Changes bs s t :=
  Changes.through (by unfold State.rejudge; dsimp only; (repeat' split) <;> simp) h

@[simp] theorem changes_handBack (k : SlotId) (i : StringId) (u : Nat) (h : [.units, .dir, .arb, .sweeps, .link, .notices, .counters] ⊆ bs) :
    Changes bs s (t.handBack k i u) ↔ Changes bs s t :=
  Changes.through (by unfold State.handBack; dsimp only; split <;> simp) h

@[simp] theorem changes_endPass (h : [.arb, .strings, .counters] ⊆ bs) :
    Changes bs s t.endPass ↔ Changes bs s t :=
  Changes.through (by simp [State.endPass, allStrings]) h

@[simp] theorem changes_lookRecord (h : [.arb, .supply, .strings, .counters] ⊆ bs) :
    Changes bs s t.lookRecord ↔ Changes bs s t :=
  Changes.through (by unfold State.lookRecord; (repeat' split) <;> simp) h

@[simp] theorem changes_lookOffer (h : [.units, .dir, .arb, .supply, .strings, .sweeps, .link, .notices, .counters] ⊆ bs) :
    Changes bs s t.lookOffer ↔ Changes bs s t :=
  Changes.through (by unfold State.lookOffer; (repeat' split) <;> simp) h

/-! ## Decisions -/

@[simp] theorem changes_dropDecision (i : StringId) (addr : Nat) (h : [.decisions] ⊆ bs) :
    Changes bs s (t.dropDecision i addr) ↔ Changes bs s t :=
  Changes.through (by simp [State.dropDecision]) h

@[simp] theorem changes_setDecision (d : Decision) (h : [.decisions] ⊆ bs) :
    Changes bs s (t.setDecision d) ↔ Changes bs s t :=
  Changes.through (by simp [State.setDecision]) h

@[simp] theorem changes_writePending (i : StringId) (addr : Nat) (c : Indicator) (h : [.strings] ⊆ bs) :
    Changes bs s (t.writePending i addr c) ↔ Changes bs s t :=
  Changes.through (by unfold State.writePending; dsimp only; split <;> simp) h

@[simp] theorem changes_postSighting (d : Decision) (o : PresentationOutcome) (h : [.link, .notices, .counters] ⊆ bs) :
    Changes bs s (t.postSighting d o) ↔ Changes bs s t :=
  Changes.through (by unfold State.postSighting; (repeat' split) <;> simp) h

@[simp] theorem changes_postPresentation (d : Decision) (o : PresentationOutcome) (h : [.link, .notices, .counters] ⊆ bs) :
    Changes bs s (t.postPresentation d o) ↔ Changes bs s t :=
  Changes.through (by unfold State.postPresentation; (repeat' split) <;> simp) h

@[simp] theorem changes_endDecision (d : Decision) (o : PresentationOutcome) (h : [.decisions, .strings, .link, .notices, .counters] ⊆ bs) :
    Changes bs s (t.endDecision d o) ↔ Changes bs s t :=
  Changes.through (by simp [State.endDecision]) h

@[simp] theorem changes_afterLookup (d : Decision) (e : Band) (x : Bool) (h : [.decisions, .strings, .link, .notices, .counters] ⊆ bs) :
    Changes bs s (t.afterLookup d e x) ↔ Changes bs s t :=
  Changes.through (by unfold State.afterLookup; (repeat' split) <;> simp) h

@[simp] theorem changes_lookupAct (d : Decision) (h : [.decisions, .strings, .link, .notices, .counters] ⊆ bs) :
    Changes bs s (t.lookupAct d) ↔ Changes bs s t :=
  Changes.through (by unfold State.lookupAct; dsimp only; (repeat' split) <;> simp) h

@[simp] theorem changes_admissionAct (d : Decision) (h : [.dir, .decisions, .strings, .link, .notices, .counters] ⊆ bs) :
    Changes bs s (t.admissionAct d) ↔ Changes bs s t :=
  Changes.through (by unfold State.admissionAct; dsimp only; (repeat' split) <;> simp) h

@[simp] theorem changes_stepVacant (d : Decision) (e : Band) (h : [.units, .dir, .decisions, .arb, .strings, .link, .notices, .counters] ⊆ bs) :
    Changes bs s (t.stepVacant d e) ↔ Changes bs s t :=
  Changes.through (by unfold State.stepVacant; dsimp only; (repeat' split) <;> simp) h

@[simp] theorem changes_stepHeld (d : Decision) (h : [.units, .dir, .decisions, .arb, .strings, .link, .notices, .counters] ⊆ bs) :
    Changes bs s (t.stepHeld d) ↔ Changes bs s t :=
  Changes.through (by unfold State.stepHeld; (repeat' split) <;> simp) h

@[simp] theorem changes_stepOpenHeld (d : Decision) (h : [.units, .dir, .decisions, .arb, .strings, .link, .notices, .counters] ⊆ bs) :
    Changes bs s (t.stepOpenHeld d) ↔ Changes bs s t :=
  Changes.through (by unfold State.stepOpenHeld; (repeat' split) <;> simp) h

@[simp] theorem changes_guestSteps (d : Decision) (e : Band) (h : [.units, .dir, .decisions, .arb, .strings, .link, .notices, .counters] ⊆ bs) :
    Changes bs s (t.guestSteps d e) ↔ Changes bs s t :=
  Changes.through (by unfold State.guestSteps; dsimp only; (repeat' split) <;> simp) h

@[simp] theorem changes_cleanUnit (u : Nat) (h : [.units, .link, .notices, .counters] ⊆ bs) :
    Changes bs s (t.cleanUnit u) ↔ Changes bs s t :=
  Changes.through (by simp [State.cleanUnit]) h

@[simp] theorem changes_staffSteps (d : Decision) (h : [.units, .dir, .decisions, .arb, .strings, .link, .notices, .counters] ⊆ bs) :
    Changes bs s (t.staffSteps d) ↔ Changes bs s t :=
  Changes.through (by unfold State.staffSteps; (repeat' split) <;> simp) h

@[simp] theorem changes_unitAct (d : Decision) (h : [.units, .dir, .decisions, .arb, .strings, .link, .notices, .counters] ⊆ bs) :
    Changes bs s (t.unitAct d) ↔ Changes bs s t :=
  Changes.through (by unfold State.unitAct; (repeat' split) <;> simp) h

/-- The act of a decision changes what that act changes. -/
theorem changes_decide {act : State → Decision → State} (i : StringId) (addr : Nat) (stage : Stage)
    (h : ∀ s d, Changes bs s (act s d)) : Changes bs s (s.decide i addr stage act) := by
  unfold State.decide; split <;> simp [h]

/-! ## Answers -/

@[simp] theorem State.ok_fst (c : List Byte) : (s.ok c).1 = s := rfl
@[simp] theorem State.refuse_fst (st : Status) : (s.refuse st).1 = s := rfl
@[simp] theorem State.refuseWith_fst (st : Status) (c : List Byte) : (s.refuseWith st c).1 = s := rfl

/-! ## Unit requests -/

@[simp] theorem changes_dropUnit (k : SlotId) (u : Nat) (m : Bool) (h : [.units, .dir, .arb, .sweeps, .link, .notices, .counters] ⊆ bs) :
    Changes bs s (t.dropUnit k u m) ↔ Changes bs s t :=
  Changes.through (by unfold State.dropUnit; (repeat' split) <;> simp) h

@[simp] theorem changes_forgetUnit (k : SlotId) (u : Nat) (h : [.sweeps] ⊆ bs) :
    Changes bs s (t.forgetUnit k u) ↔ Changes bs s t :=
  Changes.through (by simp [State.forgetUnit]) h

@[simp] theorem changes_moveNode (o : Option (StringId × Nat)) (i : StringId) (addr : Nat) (h : [.arb, .strings, .link, .notices, .counters] ⊆ bs) :
    Changes bs s (t.moveNode o i addr) ↔ Changes bs s t :=
  Changes.through (by unfold State.moveNode; dsimp only; (repeat' split) <;> simp) h

@[simp] theorem changes_applyConfig (u : Nat) (c : UnitConfig) (h : [.units, .dir, .arb, .strings, .sweeps, .link, .notices, .counters] ⊆ bs) :
    Changes bs s (t.applyConfig u c) ↔ Changes bs s t :=
  Changes.through (by unfold State.applyConfig; dsimp only; split <;> simp) h

@[simp] theorem changes_configureUnit (unit kind string node zone mode interval : Byte) (h : [.units, .dir, .arb, .strings, .sweeps, .link, .notices, .counters] ⊆ bs) :
    Changes bs s (configureUnit unit kind string node zone mode interval t).1 ↔ Changes bs s t :=
  Changes.through (by unfold configureUnit; dsimp only; (repeat' split) <;> simp) h

@[simp] theorem changes_removeConfig (u : Nat) (h : [.units, .dir, .arb, .strings, .sweeps, .link, .notices, .counters] ⊆ bs) :
    Changes bs s (t.removeConfig u) ↔ Changes bs s t :=
  Changes.through (by unfold State.removeConfig; dsimp only; split <;> simp) h

@[simp] theorem changes_removeUnit (unit : Byte) (h : [.units, .dir, .arb, .strings, .sweeps, .link, .notices, .counters] ⊆ bs) :
    Changes bs s (removeUnit unit t).1 ↔ Changes bs s t :=
  Changes.through (by unfold removeUnit; dsimp only; (repeat' split) <;> simp) h

@[simp] theorem changes_withdrawUnit (unit : Byte) (h : [.units, .link, .notices, .counters] ⊆ bs) :
    Changes bs s (withdrawUnit unit t).1 ↔ Changes bs s t :=
  Changes.through (by unfold withdrawUnit; dsimp only; (repeat' split) <;> simp) h

@[simp] theorem changes_restoreUnit (unit : Byte) (h : [.units, .link, .notices, .counters] ⊆ bs) :
    Changes bs s (restoreUnit unit t).1 ↔ Changes bs s t :=
  Changes.through (by unfold restoreUnit; dsimp only; (repeat' split) <;> simp) h

@[simp] theorem changes_markClean (unit : Byte) (h : [.units, .link, .notices, .counters] ⊆ bs) :
    Changes bs s (markClean unit t).1 ↔ Changes bs s t :=
  Changes.through (by unfold markClean; dsimp only; (repeat' split) <;> simp) h

@[simp] theorem changes_queryUnit (unit : Byte) (h : [] ⊆ bs) :
    Changes bs s (queryUnit unit t).1 ↔ Changes bs s t :=
  Changes.through (by unfold queryUnit; dsimp only; (repeat' split) <;> simp) h

@[simp] theorem changes_listUnits (states : BitVec 16) (filter zone start : Byte) (h : [] ⊆ bs) :
    Changes bs s (listUnits states filter zone start t).1 ↔ Changes bs s t :=
  Changes.through (by unfold listUnits; dsimp only; (repeat' split) <;> simp) h

/-! ## Band requests -/

@[simp] theorem changes_registerBand (band : BandId) (cls group : Byte) (validity : BitVec 16) (lockers cabins : Byte) (h : [.dir] ⊆ bs) :
    Changes bs s (registerBand band cls group validity lockers cabins t).1 ↔ Changes bs s t :=
  Changes.through (by unfold registerBand; dsimp only; (repeat' split) <;> simp) h

@[simp] theorem changes_amendBand (band : BandId) (a : Amendment) (h : [.dir] ⊆ bs) :
    Changes bs s (amendBand band a t).1 ↔ Changes bs s t :=
  Changes.through (by unfold amendBand; dsimp only; (repeat' split) <;> simp) h

@[simp] theorem changes_checkOutUnit (u : Nat) (h : [.units, .dir, .link, .notices, .counters] ⊆ bs) :
    Changes bs s (t.checkOutUnit u) ↔ Changes bs s t :=
  Changes.through (by unfold State.checkOutUnit; (repeat' split) <;> simp) h

@[simp] theorem changes_checkOut (b : BandId) (hs : List Nat) (h : [.units, .dir, .link, .notices, .counters] ⊆ bs) :
    Changes bs s (t.checkOut b hs) ↔ Changes bs s t :=
  Changes.through (by unfold State.checkOut; dsimp only; simp only [changes_setDir, List.mem_cons, true_or, or_true]; exact Changes.foldl (by simp) _ _) h

@[simp] theorem changes_checkOutBand (band : BandId) (mode : Byte) (h : [.units, .dir, .link, .notices, .counters] ⊆ bs) :
    Changes bs s (checkOutBand band mode t).1 ↔ Changes bs s t :=
  Changes.through (by unfold checkOutBand; dsimp only; (repeat' split) <;> simp) h

@[simp] theorem changes_reportLost (band : BandId) (h : [.dir] ⊆ bs) :
    Changes bs s (reportLost band t).1 ↔ Changes bs s t :=
  Changes.through (by unfold reportLost; (repeat' split) <;> simp) h

@[simp] theorem changes_transfer (o n : BandId) (hs : List Nat) (h : [.units, .dir] ⊆ bs) :
    Changes bs s (t.transfer o n hs) ↔ Changes bs s t :=
  Changes.through (by unfold State.transfer; dsimp only; refine (Changes.foldl (by simp) _ _).trans' ?_; simp) h

@[simp] theorem changes_transferHoldings (old new : BandId) (h : [.units, .dir] ⊆ bs) :
    Changes bs s (transferHoldings old new t).1 ↔ Changes bs s t :=
  Changes.through (by unfold transferHoldings; dsimp only; (repeat' split) <;> simp) h

@[simp] theorem changes_queryBand (band : BandId) (h : [] ⊆ bs) :
    Changes bs s (queryBand band t).1 ↔ Changes bs s t :=
  Changes.through (by unfold queryBand; (repeat' split) <;> simp) h

@[simp] theorem changes_listBands (selection : Byte) (start : BandId) (h : [] ⊆ bs) :
    Changes bs s (listBands selection start t).1 ↔ Changes bs s t :=
  Changes.through (by unfold listBands; dsimp only; (repeat' split) <;> simp) h

@[simp] theorem changes_clearDirectory (h : [.dir] ⊆ bs) :
    Changes bs s (clearDirectory t).1 ↔ Changes bs s t :=
  Changes.through (by unfold clearDirectory; dsimp only; (repeat' split) <;> simp) h

/-! ## Dispatch and supply requests -/

@[simp] theorem changes_nextTag (h : [.arb] ⊆ bs) :
    Changes bs s t.nextTag ↔ Changes bs s t :=
  Changes.through (by simp [State.nextTag]) h

@[simp] theorem changes_freeAtOnce (u : Nat) (h : [.units, .dir, .arb, .link, .notices, .counters] ⊆ bs) :
    Changes bs s (t.freeAtOnce u) ↔ Changes bs s t :=
  Changes.through (by simp [State.freeAtOnce]) h

@[simp] theorem changes_admitDemand (u : Nat) (a : StaffAction) (h : [.units, .arb] ⊆ bs) :
    Changes bs s (t.admitDemand u a) ↔ Changes bs s t :=
  Changes.through (by simp [State.admitDemand]) h

@[simp] theorem changes_demand (unit action : Byte) (h : [.units, .dir, .arb, .link, .notices, .counters] ⊆ bs) :
    Changes bs s (demand unit action t).1 ↔ Changes bs s t :=
  Changes.through (by unfold demand; dsimp only; (repeat' split) <;> simp) h

@[simp] theorem changes_cancelDemand (tag : Byte) (h : [.units, .dir, .arb, .link, .notices, .counters] ⊆ bs) :
    Changes bs s (cancelDemand tag t).1 ↔ Changes bs s t :=
  Changes.through (by unfold cancelDemand; (repeat' split) <;> simp) h

@[simp] theorem changes_quiesce (h : [.arb, .link, .notices, .counters] ⊆ bs) :
    Changes bs s (quiesce t).1 ↔ Changes bs s t :=
  Changes.through (by unfold quiesce; dsimp only; (repeat' split) <;> simp) h

@[simp] theorem changes_resume (h : [.arb] ⊆ bs) :
    Changes bs s (resume t).1 ↔ Changes bs s t :=
  Changes.through (by unfold resume; dsimp only; (repeat' split) <;> simp) h

@[simp] theorem changes_queryDispatch (start : Byte) (h : [] ⊆ bs) :
    Changes bs s (queryDispatch start t).1 ↔ Changes bs s t :=
  Changes.through (by unfold queryDispatch; (repeat' split) <;> simp) h

@[simp] theorem changes_urgencyExpiry (h : [.arb] ⊆ bs) :
    Changes bs s t.urgencyExpiry ↔ Changes bs s t :=
  Changes.through (by unfold State.urgencyExpiry; (repeat' split) <;> simp) h

@[simp] theorem changes_applySupply (p : SupplyParams) (h : [.arb, .supply, .params] ⊆ bs) :
    Changes bs s (t.applySupply p) ↔ Changes bs s t :=
  Changes.through (by simp [State.applySupply]) h

@[simp] theorem changes_setSupplyGroup (kL kC : BitVec 16) (d : Byte) (lw hw c : BitVec 16) (h : [.arb, .supply, .params] ⊆ bs) :
    Changes bs s (setSupplyGroup kL kC d lw hw c t).1 ↔ Changes bs s t :=
  Changes.through (by unfold setSupplyGroup; dsimp only; (repeat' split) <;> simp) h

@[simp] theorem changes_drainTick (h : [.arb, .supply] ⊆ bs) :
    Changes bs s t.drainTick ↔ Changes bs s t :=
  Changes.through (by simp [State.drainTick]) h

@[simp] theorem changes_supplyLowAsserted (h : [.supply, .link, .notices, .counters] ⊆ bs) :
    Changes bs s t.supplyLowAsserted ↔ Changes bs s t :=
  Changes.through (by simp [State.supplyLowAsserted]) h

@[simp] theorem changes_supplyLowDeasserted (h : [.arb, .supply, .link, .notices, .counters] ⊆ bs) :
    Changes bs s t.supplyLowDeasserted ↔ Changes bs s t :=
  Changes.through (by simp [State.supplyLowDeasserted]) h

@[simp] theorem changes_takeSupplyLow (x : Bool) (h : [.arb, .supply, .link, .notices, .counters] ⊆ bs) :
    Changes bs s (t.takeSupplyLow x) ↔ Changes bs s t :=
  Changes.through (by unfold State.takeSupplyLow; (repeat' split) <;> simp) h

@[simp] theorem changes_takeCurrentLimit (x : Bool) (h : [.supply, .strings] ⊆ bs) :
    Changes bs s (t.takeCurrentLimit x) ↔ Changes bs s t :=
  Changes.through (by unfold State.takeCurrentLimit; (repeat' split) <;> simp) h

@[simp] theorem changes_querySupply (clear : Byte) (h : [.supply] ⊆ bs) :
    Changes bs s (querySupply clear t).1 ↔ Changes bs s t :=
  Changes.through (by unfold querySupply; dsimp only; (repeat' split) <;> simp) h

/-! ## String requests and timers -/

@[simp] theorem changes_applyStrings (p : StringParams) (h : [.strings, .params] ⊆ bs) :
    Changes bs s (t.applyStrings p) ↔ Changes bs s t :=
  Changes.through (by unfold State.applyStrings; dsimp only; split <;> simp) h

@[simp] theorem changes_setStringsGroup (base mult allowance : Byte) (settle gap : BitVec 16) (auto interval : Byte) (h : [.strings, .params] ⊆ bs) :
    Changes bs s (setStringsGroup base mult allowance settle gap auto interval t).1 ↔ Changes bs s t :=
  Changes.through (by unfold setStringsGroup; dsimp only; (repeat' split) <;> simp) h

@[simp] theorem changes_restartString (string : Byte) (h : [.arb, .strings, .link, .notices, .counters] ⊆ bs) :
    Changes bs s (restartString string t).1 ↔ Changes bs s t :=
  Changes.through (by unfold restartString; (repeat' split) <;> simp) h

@[simp] theorem changes_reenter (i : StringId) (h : [.arb, .strings, .link, .notices, .counters] ⊆ bs) :
    Changes bs s (t.reenter i) ↔ Changes bs s t :=
  Changes.through (by unfold State.reenter; (repeat' split) <;> simp) h

@[simp] theorem changes_resetString (i : StringId) (h : [.units, .dir, .arb, .strings, .sweeps, .link, .notices, .counters] ⊆ bs) :
    Changes bs s (t.resetString i) ↔ Changes bs s t :=
  Changes.through (by
    unfold State.resetString; dsimp only
    refine (changes_dropString i _ (cs := [.strings]) (fun _ => by simp) (by decide)).mpr ?_
    simp) h

@[simp] theorem changes_resetStringAct (x : Byte) (h : [.units, .dir, .arb, .strings, .sweeps, .link, .notices, .counters] ⊆ bs) :
    Changes bs s (resetString x t).1 ↔ Changes bs s t :=
  Changes.through (by unfold resetString; split <;> simp) h

@[simp] theorem changes_queryString (string start clear : Byte) (h : [.strings] ⊆ bs) :
    Changes bs s (queryString string start clear t).1 ↔ Changes bs s t :=
  Changes.through (by unfold queryString; dsimp only; (repeat' split) <;> simp) h

@[simp] theorem changes_roundExpiry (i : StringId) (h : [.strings, .counters] ⊆ bs) :
    Changes bs s (t.roundExpiry i) ↔ Changes bs s t :=
  Changes.through (by unfold State.roundExpiry; dsimp only; (repeat' split) <;> simp) h

@[simp] theorem changes_recoveryExpiry (i : StringId) (h : [.arb, .strings, .link, .notices, .counters] ⊆ bs) :
    Changes bs s (t.recoveryExpiry i) ↔ Changes bs s t :=
  Changes.through (by unfold State.recoveryExpiry; (repeat' split) <;> simp) h

@[simp] theorem changes_settleExpiry (i : StringId) (h : [.units, .dir, .arb, .strings, .sweeps, .link, .notices, .counters] ⊆ bs) :
    Changes bs s (t.settleExpiry i) ↔ Changes bs s t :=
  Changes.through (by unfold State.settleExpiry; (repeat' split) <;> simp) h

@[simp] theorem changes_gapExpiry (i : StringId) (h : [.arb, .strings] ⊆ bs) :
    Changes bs s (t.gapExpiry i) ↔ Changes bs s t :=
  Changes.through (by unfold State.gapExpiry; (repeat' split) <;> simp) h

/-! ## Sweep requests -/

@[simp] theorem changes_takeAlarm (x : Bool) (h : [.units, .dir, .arb, .sweeps, .link, .notices, .counters] ⊆ bs) :
    Changes bs s (t.takeAlarm x) ↔ Changes bs s t :=
  Changes.through (by unfold State.takeAlarm; dsimp only; (repeat' split) <;> simp) h

@[simp] theorem changes_releaseZone (zone filter : Byte) (h : [.units, .dir, .arb, .sweeps, .link, .notices, .counters] ⊆ bs) :
    Changes bs s (releaseZone zone filter t).1 ↔ Changes bs s t :=
  Changes.through (by unfold releaseZone; (repeat' split) <;> simp) h

@[simp] theorem changes_stopSweep (h : [.arb, .strings, .sweeps, .link, .notices, .counters] ⊆ bs) :
    Changes bs s (stopSweep t).1 ↔ Changes bs s t :=
  Changes.through (by unfold stopSweep; (repeat' split) <;> simp) h

@[simp] theorem changes_pauseExpiry (k : SlotId) (h : [.units, .dir, .arb, .sweeps, .link, .notices, .counters] ⊆ bs) :
    Changes bs s (t.pauseExpiry k) ↔ Changes bs s t :=
  Changes.through (by unfold State.pauseExpiry; (repeat' split) <;> simp) h

@[simp] theorem changes_querySweep (slot : Byte) (h : [] ⊆ bs) :
    Changes bs s (querySweep slot t).1 ↔ Changes bs s t :=
  Changes.through (by unfold querySweep; (repeat' split) <;> simp) h

/-! ## Clock -/

@[simp] theorem changes_advanceClock (h : [.time, .link, .notices, .counters] ⊆ bs) :
    Changes bs s t.advanceClock ↔ Changes bs s t :=
  Changes.through (by unfold State.advanceClock; (repeat' split) <;> simp) h

@[simp] theorem changes_secondTick (h : [.units, .dir, .arb, .sweeps, .time, .link, .notices, .counters] ⊆ bs) :
    Changes bs s t.secondTick ↔ Changes bs s t :=
  Changes.through (by unfold State.secondTick; dsimp only; split <;> simp) h

@[simp] theorem changes_closingTime (h : [.units, .dir, .arb, .sweeps, .time, .link, .notices, .counters] ⊆ bs) :
    Changes bs s t.closingTime ↔ Changes bs s t :=
  Changes.through (by unfold State.closingTime; (repeat' split) <;> simp) h

@[simp] theorem changes_dwellUnit (u : Nat) (h : [.units, .link, .notices, .counters] ⊆ bs) :
    Changes bs s (t.dwellUnit u) ↔ Changes bs s t :=
  Changes.through (by unfold State.dwellUnit; dsimp only; (repeat' split) <;> simp) h

@[simp] theorem changes_occupancyUnit (u : Nat) (h : [.units, .link, .notices, .counters] ⊆ bs) :
    Changes bs s (t.occupancyUnit u) ↔ Changes bs s t :=
  Changes.through (by unfold State.occupancyUnit; dsimp only; (repeat' split) <;> simp) h

@[simp] theorem changes_minuteTick (h : [.units, .time, .link, .notices, .counters] ⊆ bs) :
    Changes bs s t.minuteTick ↔ Changes bs s t :=
  Changes.through (by unfold State.minuteTick; dsimp only; refine (Changes.foldl (by simp) _ _).trans' ?_; simp) h

@[simp] theorem changes_postExpired (e : Band) (h : [.link, .notices, .counters] ⊆ bs) :
    Changes bs s (t.postExpired e) ↔ Changes bs s t :=
  Changes.through (by simp [State.postExpired]) h

@[simp] theorem changes_countDown (h : [.dir, .link, .notices, .counters] ⊆ bs) :
    Changes bs s t.countDown ↔ Changes bs s t :=
  Changes.through (by unfold State.countDown; refine (Changes.foldl (by simp) _ _).trans' ?_; simp) h

@[simp] theorem changes_expireBand (b : BandId) (h : [.dir, .link, .notices, .counters] ⊆ bs) :
    Changes bs s (t.expireBand b) ↔ Changes bs s t :=
  Changes.through (by unfold State.expireBand; (repeat' split) <;> simp) h

@[simp] theorem changes_setTimeGroup (closing : BitVec 24) (enable : Byte) (urgency : BitVec 16) (lockers : Byte) (guest child family staff : BitVec 16) (occupancy : Byte) (h : [.params] ⊆ bs) :
    Changes bs s (setTimeGroup closing enable urgency lockers guest child family staff occupancy t).1 ↔ Changes bs s t :=
  Changes.through (by unfold setTimeGroup; dsimp only; (repeat' split) <;> simp) h

@[simp] theorem changes_setClock (second : BitVec 24) (h : [.time] ⊆ bs) :
    Changes bs s (setClock second t).1 ↔ Changes bs s t :=
  Changes.through (by unfold setClock; dsimp only; (repeat' split) <;> simp) h

@[simp] theorem changes_queryClock (h : [] ⊆ bs) :
    Changes bs s (queryClock t).1 ↔ Changes bs s t :=
  Changes.through (by simp [queryClock]) h

/-! ## Notices, census and the link's own requests -/

@[simp] theorem changes_fetch (n : Nat) (h : [.link, .notices] ⊆ bs) :
    Changes bs s (t.fetch n) ↔ Changes bs s t :=
  Changes.through (by simp [State.fetch]) h

@[simp] theorem changes_fetchNotices (count : Byte) (h : [.link, .notices] ⊆ bs) :
    Changes bs s (fetchNotices count t).1 ↔ Changes bs s t :=
  Changes.through (by unfold fetchNotices; dsimp only; (repeat' split) <;> simp) h

@[simp] theorem changes_setNoticeEnables (marks : BitVec 24) (h : [.enables] ⊆ bs) :
    Changes bs s (setNoticeEnables marks t).1 ↔ Changes bs s t :=
  Changes.through (by simp [setNoticeEnables]) h

@[simp] theorem changes_census (h : [.census] ⊆ bs) :
    Changes bs s (census t).1 ↔ Changes bs s t :=
  Changes.through (by simp [census]) h

@[simp] theorem changes_readCensus (sect : Byte) (h : [] ⊆ bs) :
    Changes bs s (readCensus sect t).1 ↔ Changes bs s t :=
  Changes.through (by unfold readCensus; (repeat' split) <;> simp) h

@[simp] theorem changes_clearCounters (selection : Byte) (h : [.counters] ⊆ bs) :
    Changes bs s (clearCounters selection t).1 ↔ Changes bs s t :=
  Changes.through (by unfold clearCounters; (repeat' split) <;> simp) h

@[simp] theorem changes_identify (h : [] ⊆ bs) :
    Changes bs s (identify t).1 ↔ Changes bs s t :=
  Changes.through (by simp [identify]) h

@[simp] theorem changes_setLinkGroup (age policy : Byte) (h : [.params] ⊆ bs) :
    Changes bs s (setLinkGroup age policy t).1 ↔ Changes bs s t :=
  Changes.through (by unfold setLinkGroup; dsimp only; (repeat' split) <;> simp) h

@[simp] theorem changes_getParameters (group : Byte) (h : [] ⊆ bs) :
    Changes bs s (getParameters group t).1 ↔ Changes bs s t :=
  Changes.through (by unfold getParameters; (repeat' split) <;> simp) h

/-! ## Desk Link -/

@[simp] theorem changes_relink (h : [.link, .notices, .counters] ⊆ bs) :
    Changes bs s t.relink ↔ Changes bs s t :=
  Changes.through (by simp [State.relink]) h

@[simp] theorem changes_formReply (f : Frame) (a : Answer) (x : Bool) (h : [.link] ⊆ bs) :
    Changes bs s (t.formReply f a x) ↔ Changes bs s t :=
  Changes.through (by simp [State.formReply]) h

@[simp] theorem changes_linkReturn (h : [.link, .notices, .counters] ⊆ bs) :
    Changes bs s t.linkReturn ↔ Changes bs s t :=
  Changes.through (by unfold State.linkReturn; (repeat' split) <;> simp) h

/-- A request changes the link and the notices, and what its owner's act changes. -/
theorem changes_takeInHand {act : State → State × Answer} (f : Frame) (hn : [.link, .notices, .counters] ⊆ bs)
    (h : ∀ s, Changes bs s (act s).1) : Changes bs s (s.takeInHand f act) := by
  have h1 : Block.link ∈ bs := hn (by simp)
  have h2 : Block.notices ∈ bs := hn (by simp)
  have h3 : Block.counters ∈ bs := hn (by simp)
  unfold State.takeInHand
  dsimp only
  simp only [changes_formReply, List.cons_subset, List.nil_subset, h1, and_self]
  exact (h _).trans' (by simp [h1, h2, h3])

@[simp] theorem changes_badFrame (h : [.counters] ⊆ bs) :
    Changes bs s t.badFrame ↔ Changes bs s t :=
  Changes.through (by simp [State.badFrame]) h

@[simp] theorem changes_overrun (h : [.link, .counters] ⊆ bs) :
    Changes bs s t.overrun ↔ Changes bs s t :=
  Changes.through (by simp [State.overrun]) h

@[simp] theorem changes_hunt (h : [.link] ⊆ bs) :
    Changes bs s t.hunt ↔ Changes bs s t :=
  Changes.through (by simp [State.hunt]) h

@[simp] theorem changes_assemble (bytes : List Byte) (h : [.link, .counters] ⊆ bs) :
    Changes bs s (t.assemble bytes) ↔ Changes bs s t :=
  Changes.through (by unfold State.assemble; (repeat' split) <;> simp) h

@[simp] theorem changes_character (b : Byte) (f : Bool) (h : [.link, .counters] ⊆ bs) :
    Changes bs s (t.character b f) ↔ Changes bs s t :=
  Changes.through (by unfold State.character; (repeat' split) <;> simp) h

@[simp] theorem changes_gapTimeout (h : [.link, .counters] ⊆ bs) :
    Changes bs s t.gapTimeout ↔ Changes bs s t :=
  Changes.through (by unfold State.gapTimeout; (repeat' split) <;> simp) h

@[simp] theorem changes_ageExpiry (h : [.link, .notices, .counters] ⊆ bs) :
    Changes bs s t.ageExpiry ↔ Changes bs s t :=
  Changes.through (by unfold State.ageExpiry; (repeat' split) <;> simp) h

/-! ## Power -/

@[simp] theorem changes_powerLoss (x : Bool) (h : [.power] ⊆ bs) :
    Changes bs s (t.powerLoss x) ↔ Changes bs s t :=
  Changes.through (by unfold State.powerLoss; (repeat' split) <;> simp) h

@[simp] theorem changes_retLoss (h : [.power] ⊆ bs) :
    Changes bs s t.retLoss ↔ Changes bs s t :=
  Changes.through (by unfold State.retLoss; (repeat' split) <;> simp) h

/-- What a request of any type may change. -/
theorem changes_requestAct (f : Frame)
    (h : [.units, .dir, .arb, .supply, .strings, .sweeps, .time, .link, .notices, .enables, .counters, .census, .params] ⊆ bs) :
    Changes bs s (requestAct f s).1 := by
  refine Changes.mono ?_ h
  unfold requestAct
  split
  · simp
  · rename_i act ha
    unfold requestOf at ha
    split at ha <;>
      first
      | (obtain rfl := Option.some.inj ha
         first
         | unfold bodyless | unfold oneByte | unfold twoBytes | unfold threeBytes | unfold bandOnly | unfold threeByteNumber
         | unfold configureUnitBody | unfold listUnitsBody | unfold registerBandBody | unfold amendBandBody | unfold checkOutBandBody
         | unfold transferBody | unfold listBandsBody | unfold setParameters
         (repeat' split) <;> simp [badLength])
      | cases ha

theorem changes_handle (f : Frame)
    (h : [.units, .dir, .arb, .supply, .strings, .sweeps, .time, .link, .notices, .enables, .counters, .census, .params] ⊆ bs) :
    Changes bs s (s.handle f) := by
  have hl : [.link, .notices, .counters] ⊆ bs := fun b hb => h (by revert b; decide)
  exact changes_takeInHand f hl fun _ => changes_requestAct f h

/-- A frame that is placed changes what a request may change. -/
theorem changes_placeFrame (f : Frame)
    (h : [.units, .dir, .arb, .supply, .strings, .sweeps, .time, .link, .notices, .enables, .counters, .census, .params] ⊆ bs) :
    Changes bs s (s.placeFrame f) := by
  have hl : Block.link ∈ bs := h (by decide)
  have hc : Block.counters ∈ bs := h (by decide)
  unfold State.placeFrame
  (repeat' split) <;> first | exact changes_handle f h | simp [hl, hc]

theorem changes_frameComplete
    (h : [.units, .dir, .arb, .supply, .strings, .sweeps, .time, .link, .notices, .enables, .counters, .census, .params] ⊆ bs) :
    Changes bs s s.frameComplete := by
  have hl : Block.link ∈ bs := h (by decide)
  unfold State.frameComplete
  split
  · simp
  · exact (changes_placeFrame _ h).trans' (by simp [hl])

theorem changes_replyEnd
    (h : [.units, .dir, .arb, .supply, .strings, .sweeps, .time, .link, .notices, .enables, .counters, .census, .params] ⊆ bs) :
    Changes bs s s.replyEnd := by
  have hl : Block.link ∈ bs := h (by decide)
  unfold State.replyEnd
  dsimp only
  (repeat' split) <;> first | exact (changes_handle _ h).trans' (by simp [hl]) | simp [hl]

/-! ## Starts -/

@[simp] theorem changes_readLines (h : [.units, .dir, .arb, .supply, .strings, .sweeps, .link, .notices, .counters] ⊆ bs) :
    Changes bs s t.readLines ↔ Changes bs s t :=
  Changes.through (by simp [State.readLines]) h

@[simp] theorem changes_firstRound (i : StringId) (h : [.strings, .counters] ⊆ bs) : Changes bs s (t.firstRound i) ↔ Changes bs s t :=
  Changes.through (by unfold State.firstRound; split <;> simp) h

/-- A start changes neither the lines nor the commands that wait. -/
theorem changes_start (w : Bool)
    (h : [.units, .dir, .decisions, .arb, .supply, .strings, .sweeps, .time, .link, .notices, .enables, .counters, .census, .params,
      .power] ⊆ bs) : Changes bs s (s.start w) := by
  refine Changes.mono ?_ h
  unfold State.start
  dsimp only
  rw [changes_readLines (by decide)]
  refine (Changes.foldl (by simp) _ _).trans' ?_
  rw [changes_post _ (by decide)]
  intro b hb
  cases b <;> first | rfl | exact absurd (by decide) hb

/-- What an act taken only under power may change. -/
theorem changes_whenOn {act : State → State} (h : ∀ s, Changes bs s (act s)) : Changes bs s (s.whenOn act) := by
  unfold State.whenOn; split <;> simp [h]

end Sys2Proof.Machine
end

