-- ==== Sys2Proof/Laws/PerInstr.lean ====
section
/-! SUPPORT. Per command: the frame of a request has the body length that R208 gives its type. -/

namespace Sys2Proof.Laws

open Machine

/-- The body of a request's frame has the length that R208 gives; an event has neither. -/
def BodyLength.Statement (i : Instr) : Prop := i.frame?.map (·.body.length) = i.bodyLength

theorem BodyLength.powerUp : BodyLength.Statement (.powerUp) := rfl
theorem BodyLength.resetPulse : BodyLength.Statement (.resetPulse) := rfl
theorem BodyLength.alarmLevelChange (asserted : Bool) : BodyLength.Statement (.alarmLevelChange asserted) := rfl
theorem BodyLength.supplyLowChange (asserted : Bool) : BodyLength.Statement (.supplyLowChange asserted) := rfl
theorem BodyLength.currentLimitChange (asserted : Bool) : BodyLength.Statement (.currentLimitChange asserted) := rfl
theorem BodyLength.drainTick : BodyLength.Statement (.drainTick) := rfl
theorem BodyLength.secondTick : BodyLength.Statement (.secondTick) := rfl
theorem BodyLength.closingTime : BodyLength.Statement (.closingTime) := rfl
theorem BodyLength.minuteTick : BodyLength.Statement (.minuteTick) := rfl
theorem BodyLength.validityCountdown : BodyLength.Statement (.validityCountdown) := rfl
theorem BodyLength.bandExpired (band : BandId) : BodyLength.Statement (.bandExpired band) := rfl
theorem BodyLength.frameComplete : BodyLength.Statement (.frameComplete) := rfl
theorem BodyLength.frameGapTimeout : BodyLength.Statement (.frameGapTimeout) := rfl
theorem BodyLength.replyEnd : BodyLength.Statement (.replyEnd) := rfl
theorem BodyLength.noticeAgeTimerExpiry : BodyLength.Statement (.noticeAgeTimerExpiry) := rfl
theorem BodyLength.identify (tag : Byte) : BodyLength.Statement (.identify tag) := rfl
theorem BodyLength.setParametersSupply (tag : Byte) (kL kC : BitVec 16) (d : Byte) (lw hw c : BitVec 16) :
    BodyLength.Statement (.setParametersSupply tag kL kC d lw hw c) := rfl
theorem BodyLength.setParametersStrings (tag base mult allowance : Byte) (settle gap : BitVec 16) (auto interval : Byte) :
    BodyLength.Statement (.setParametersStrings tag base mult allowance settle gap auto interval) := rfl
theorem BodyLength.setParametersTime (tag : Byte) (closing : BitVec 24) (enable : Byte) (urgency : BitVec 16) (evacLockers : Byte) (guest child family staff : BitVec 16) (occupancy : Byte) :
    BodyLength.Statement (.setParametersTime tag closing enable urgency evacLockers guest child family staff occupancy) := rfl
theorem BodyLength.setParametersLink (tag age policy : Byte) : BodyLength.Statement (.setParametersLink tag age policy) := rfl
theorem BodyLength.getParameters (tag group : Byte) : BodyLength.Statement (.getParameters tag group) := rfl
theorem BodyLength.configureUnit (tag unit kind string node zone mode interval : Byte) :
    BodyLength.Statement (.configureUnit tag unit kind string node zone mode interval) := rfl
theorem BodyLength.removeUnit (tag unit : Byte) : BodyLength.Statement (.removeUnit tag unit) := rfl
theorem BodyLength.withdrawUnit (tag unit : Byte) : BodyLength.Statement (.withdrawUnit tag unit) := rfl
theorem BodyLength.restoreUnit (tag unit : Byte) : BodyLength.Statement (.restoreUnit tag unit) := rfl
theorem BodyLength.markClean (tag unit : Byte) : BodyLength.Statement (.markClean tag unit) := rfl
theorem BodyLength.queryUnit (tag unit : Byte) : BodyLength.Statement (.queryUnit tag unit) := rfl
theorem BodyLength.listUnits (tag : Byte) (states : BitVec 16) (filter zone start : Byte) :
    BodyLength.Statement (.listUnits tag states filter zone start) := rfl
theorem BodyLength.registerBand (tag : Byte) (band : BandId) (cls group : Byte) (validity : BitVec 16) (lockers cabins : Byte) :
    BodyLength.Statement (.registerBand tag band cls group validity lockers cabins) := rfl
theorem BodyLength.amendBand (tag : Byte) (band : BandId) (named cls group lockers cabins : Byte) (validity : BitVec 16) :
    BodyLength.Statement (.amendBand tag band named cls group lockers cabins validity) := rfl
theorem BodyLength.checkOutBand (tag : Byte) (band : BandId) (mode : Byte) : BodyLength.Statement (.checkOutBand tag band mode) := rfl
theorem BodyLength.reportLost (tag : Byte) (band : BandId) : BodyLength.Statement (.reportLost tag band) := rfl
theorem BodyLength.transferHoldings (tag : Byte) (old new : BandId) : BodyLength.Statement (.transferHoldings tag old new) := rfl
theorem BodyLength.queryBand (tag : Byte) (band : BandId) : BodyLength.Statement (.queryBand tag band) := rfl
theorem BodyLength.listBands (tag selection : Byte) (start : BandId) : BodyLength.Statement (.listBands tag selection start) := rfl
theorem BodyLength.clearDirectory (tag : Byte) : BodyLength.Statement (.clearDirectory tag) := rfl
theorem BodyLength.demand (tag unit action : Byte) : BodyLength.Statement (.demand tag unit action) := rfl
theorem BodyLength.cancelDemand (tag demandTag : Byte) : BodyLength.Statement (.cancelDemand tag demandTag) := rfl
theorem BodyLength.quiesce (tag : Byte) : BodyLength.Statement (.quiesce tag) := rfl
theorem BodyLength.resume (tag : Byte) : BodyLength.Statement (.resume tag) := rfl
theorem BodyLength.queryDispatch (tag start : Byte) : BodyLength.Statement (.queryDispatch tag start) := rfl
theorem BodyLength.querySupply (tag clear : Byte) : BodyLength.Statement (.querySupply tag clear) := rfl
theorem BodyLength.restartString (tag string : Byte) : BodyLength.Statement (.restartString tag string) := rfl
theorem BodyLength.resetString (tag string : Byte) : BodyLength.Statement (.resetString tag string) := rfl
theorem BodyLength.queryString (tag string start clear : Byte) : BodyLength.Statement (.queryString tag string start clear) := rfl
theorem BodyLength.releaseZone (tag zone filter : Byte) : BodyLength.Statement (.releaseZone tag zone filter) := rfl
theorem BodyLength.stopSweep (tag : Byte) : BodyLength.Statement (.stopSweep tag) := rfl
theorem BodyLength.querySweep (tag slot : Byte) : BodyLength.Statement (.querySweep tag slot) := rfl
theorem BodyLength.setClock (tag : Byte) (second : BitVec 24) : BodyLength.Statement (.setClock tag second) := rfl
theorem BodyLength.queryClock (tag : Byte) : BodyLength.Statement (.queryClock tag) := rfl
theorem BodyLength.fetchNotices (tag count : Byte) : BodyLength.Statement (.fetchNotices tag count) := rfl
theorem BodyLength.setNoticeEnables (tag : Byte) (marks : BitVec 24) : BodyLength.Statement (.setNoticeEnables tag marks) := rfl
theorem BodyLength.census (tag : Byte) : BodyLength.Statement (.census tag) := rfl
theorem BodyLength.readCensus (tag sect : Byte) : BodyLength.Statement (.readCensus tag sect) := rfl
theorem BodyLength.clearCounters (tag selection : Byte) : BodyLength.Statement (.clearCounters tag selection) := rfl
theorem BodyLength.roundTimerExpiry (str : StringId) : BodyLength.Statement (.roundTimerExpiry str) := rfl
theorem BodyLength.nodeReplyGood (str : StringId) (frame : List Byte) : BodyLength.Statement (.nodeReplyGood str frame) := rfl
theorem BodyLength.nodeMiss (str : StringId) (received : List Byte) : BodyLength.Statement (.nodeMiss str received) := rfl
theorem BodyLength.recoveryTimerExpiry (str : StringId) : BodyLength.Statement (.recoveryTimerExpiry str) := rfl
theorem BodyLength.settleTimerExpiry (str : StringId) : BodyLength.Statement (.settleTimerExpiry str) := rfl
theorem BodyLength.gapTimerExpiry (str : StringId) : BodyLength.Statement (.gapTimerExpiry str) := rfl
theorem BodyLength.presentationLookup (str : StringId) (node : Nat) : BodyLength.Statement (.presentationLookup str node) := rfl
theorem BodyLength.standaloneAdmission (str : StringId) (node : Nat) : BodyLength.Statement (.standaloneAdmission str node) := rfl
theorem BodyLength.presentationUnitAct (str : StringId) (node : Nat) : BodyLength.Statement (.presentationUnitAct str node) := rfl
theorem BodyLength.grantRecord : BodyLength.Statement (.grantRecord) := rfl
theorem BodyLength.grantSweepCandidate : BodyLength.Statement (.grantSweepCandidate) := rfl
theorem BodyLength.closingUrgencyTimerExpiry : BodyLength.Statement (.closingUrgencyTimerExpiry) := rfl
theorem BodyLength.sweepWalk (slot : SlotId) (str : StringId) : BodyLength.Statement (.sweepWalk slot str) := rfl
theorem BodyLength.pauseTimerExpiry (slot : SlotId) : BodyLength.Statement (.pauseTimerExpiry slot) := rfl
theorem BodyLength.characterReceived (byte : Byte) (framingFault : Bool) : BodyLength.Statement (.characterReceived byte framingFault) := rfl
theorem BodyLength.mainPowerLoss (codeStale : Bool) : BodyLength.Statement (.mainPowerLoss codeStale) := rfl
theorem BodyLength.retLoss : BodyLength.Statement (.retLoss) := rfl

end Sys2Proof.Laws
end

