-- ==== Sys2Proof/Laws/Rosters.lean ====
section
/-! SUPPORT. What the operations on node records do to the addresses of a roster (R125): a record that is changed keeps its address, a new one stands at
its place, one that leaves takes its address alone, and a start gives the addresses that a table of units names. -/

namespace Sys2Proof.Machine

/-- A record that is changed keeps its address, and with it the roster. -/
theorem map_keeps_addrs {f : NodeRecord → NodeRecord} (h : ∀ n, (f n).addr = n.addr) (nodes : List NodeRecord) :
    (nodes.map f).map (·.addr) = nodes.map (·.addr) := by
  simp [Function.comp_def, h]

theorem updateNode_addrs {f : NodeRecord → NodeRecord} (h : ∀ n, (f n).addr = n.addr) (nodes : List NodeRecord) (a : Nat) :
    (updateNode nodes a f).map (·.addr) = nodes.map (·.addr) :=
  map_keeps_addrs (fun n => by split <;> simp [h]) nodes

@[simp] theorem NodeRecord.lost_addr (n : NodeRecord) : n.lost.addr = n.addr := rfl
@[simp] theorem NodeRecord.restarted_addr (n : NodeRecord) : n.restarted.addr = n.addr := rfl
@[simp] theorem NodeRecord.added_addr (a : Nat) : (NodeRecord.added a).addr = a := rfl

/-- The addresses of a roster that a record has joined. -/
theorem mem_insertNode_addrs (n : NodeRecord) (nodes : List NodeRecord) (a : Nat) :
    a ∈ (insertNode n nodes).map (·.addr) ↔ a = n.addr ∨ a ∈ nodes.map (·.addr) := by
  induction nodes with
  | nil => simp [insertNode]
  | cons x rest ih =>
    unfold insertNode
    split
    · simp
    · rw [List.map_cons, List.mem_cons, ih, List.map_cons, List.mem_cons]; tauto

/-- A new address joins an ascending roster at its place. -/
theorem insertNode_ascending (n : NodeRecord) (nodes : List NodeRecord) (h : (nodes.map (·.addr)).Pairwise (· < ·))
    (new : n.addr ∉ nodes.map (·.addr)) : ((insertNode n nodes).map (·.addr)).Pairwise (· < ·) := by
  induction nodes with
  | nil => simp [insertNode]
  | cons x rest ih =>
    rw [List.map_cons, List.mem_cons, not_or] at new
    rw [List.map_cons, List.pairwise_cons] at h
    unfold insertNode
    split
    · rename_i first
      rw [List.map_cons, List.map_cons, List.pairwise_cons, List.pairwise_cons]
      refine ⟨fun b hb => ?_, h⟩
      obtain rfl | hb := List.mem_cons.mp hb
      · exact first
      · exact first.trans (h.1 b hb)
    · rename_i later
      rw [List.map_cons, List.pairwise_cons]
      refine ⟨fun b hb => ?_, ih h.2 new.2⟩
      obtain rfl | hb := (mem_insertNode_addrs n rest b).mp hb
      · exact lt_of_le_of_ne (not_lt.mp later) (Ne.symm new.1)
      · exact h.1 b hb

/-- The addresses of a roster that an address has left. -/
theorem mem_leave_addrs (nodes : List NodeRecord) (left a : Nat) :
    a ∈ (nodes.filter (·.addr != left)).map (·.addr) ↔ a ≠ left ∧ a ∈ nodes.map (·.addr) := by
  simp only [List.mem_map, List.mem_filter, bne_iff_ne]
  exact ⟨fun ⟨n, ⟨hn, hl⟩, e⟩ => ⟨e ▸ hl, n, hn, e⟩, fun ⟨hl, n, hn, e⟩ => ⟨n, ⟨hn, e ▸ hl⟩, e⟩⟩

theorem leave_ascending (nodes : List NodeRecord) (left : Nat) (h : (nodes.map (·.addr)).Pairwise (· < ·)) :
    ((nodes.filter (·.addr != left)).map (·.addr)).Pairwise (· < ·) :=
  h.sublist (List.filter_sublist.map _)

/-- The address that a unit record names on a string. -/
def UnitRecord.addrOn (r : UnitRecord) (i : StringId) : Option Nat := (r.config.filter (·.string = i)).map (·.node)

/-- One record of the table, as a start enters it in a string's roster. -/
def UnitRecord.enterRoster (i : StringId) (nodes : List NodeRecord) (r : UnitRecord) : List NodeRecord :=
  match r.addrOn i with
  | some a => insertNode (NodeRecord.added a) nodes
  | none => nodes

theorem rosterOf_eq (units : Vector UnitRecord 240) (i : StringId) :
    rosterOf units i = units.toList.foldl (UnitRecord.enterRoster i) [] := by
  unfold rosterOf
  congr 1
  funext nodes r
  unfold UnitRecord.enterRoster UnitRecord.addrOn
  cases r.config with
  | none => rfl
  | some c => by_cases h : c.string = i <;> simp [Option.filter, h]

/-- What a start enters in a roster: the addresses that the records name, ascending where no two records name one. -/
theorem enterRoster_foldl (i : StringId) (rs : List UnitRecord) (nodes : List NodeRecord) :
    (∀ a, a ∈ (rs.foldl (UnitRecord.enterRoster i) nodes).map (·.addr) ↔ a ∈ nodes.map (·.addr) ∨ ∃ r ∈ rs, r.addrOn i = some a)
      ∧ ((nodes.map (·.addr)).Pairwise (· < ·) → (∀ a ∈ nodes.map (·.addr), ∀ r ∈ rs, r.addrOn i ≠ some a) →
          rs.Pairwise (fun r q => r.addrOn i = none ∨ r.addrOn i ≠ q.addrOn i) →
          ((rs.foldl (UnitRecord.enterRoster i) nodes).map (·.addr)).Pairwise (· < ·)) := by
  induction rs generalizing nodes with
  | nil => simp
  | cons r rest ih =>
    rw [List.foldl_cons]
    obtain ⟨named, ascending⟩ := ih (UnitRecord.enterRoster i nodes r)
    have entered : ∀ a, a ∈ (UnitRecord.enterRoster i nodes r).map (·.addr) ↔ r.addrOn i = some a ∨ a ∈ nodes.map (·.addr) := by
      intro a
      unfold UnitRecord.enterRoster
      split <;> rename_i h
      · rw [mem_insertNode_addrs, h, Option.some.injEq, NodeRecord.added_addr, eq_comm]
      · simp [h]
    refine ⟨fun a => ?_, fun asc apart distinct => ascending ?_ ?_ (List.pairwise_cons.mp distinct).2⟩
    · rw [named, entered, List.exists_mem_cons_iff]; tauto
    · unfold UnitRecord.enterRoster
      split <;> rename_i h
      · exact insertNode_ascending _ _ asc fun there => apart _ there r (List.mem_cons_self ..) h
      · exact asc
    · intro a ha q hq same
      obtain h | h := (entered a).mp ha
      · obtain away | differ := (List.pairwise_cons.mp distinct).1 q hq
        · rw [away] at h; cases h
        · exact differ (h.trans same.symm)
      · exact apart a h q (List.mem_cons_of_mem _ hq) same

end Sys2Proof.Machine
end

