-- ==== Sys2Proof/WellFormed.lean ====
section
/-! DEFINITION. The commands that the outside world can send: operands whose type is wider than what the manual gives them are held to its ranges.
Request fields are not checked here, for a host may send any bytes and the owners refuse them. -/

namespace Sys2Proof

/-- A node address (Conventions, Strings and nodes). -/
def nodeInRange (node : Nat) : Bool := 1 ≤ node && node ≤ 60

/-- What came back in an exchange: at most an address, a length byte, 255 bytes and a CRC-8 (R210). -/
def frameInRange (frame : List Byte) : Bool := frame.length ≤ 258

/-- Whether a command is well formed. -/
def Instr.wf : Instr → Bool
  | .bandExpired band => band != 0
  | .nodeReplyGood _ frame => frameInRange frame && !frame.isEmpty
  | .nodeMiss _ received => frameInRange received
  | .presentationLookup _ node => nodeInRange node
  | .standaloneAdmission _ node => nodeInRange node
  | .presentationUnitAct _ node => nodeInRange node
  | _ => true

end Sys2Proof
end

