-- ==== Sys2Proof/Tests/Slice0.lean ====
section
/-! SUPPORT. Tests: ill-formed commands that WellFormed refuses, a state that meets the hypotheses of each statement, and one step of each command on
a small hall, with results worked out by hand from the rules and the worked examples of the spec. -/

open Sys2Proof Sys2Proof.Machine

set_option Elab.async false

namespace Sys2Proof.Tests

/-! ## A small hall -/

/-- The state that a command leaves; the state itself where the command does not answer a next state, which no command does. -/
def after (c : Instr) (s : State) : State := match exec c s with | .next t => t | _ => s

/-- The state that a step leaves. -/
def stepped (s : State) : State := match step s with | .next t => t | _ => s

/-- The body of the reply being sent. -/
def replyBody (s : State) : List Byte := (s.link.reply.map (·.body)).getD []

/-- The status byte of the reply being sent. -/
def status (s : State) : Option Byte := (replyBody s).head?

/-- The kinds of the notices stored, oldest first. -/
def kinds (s : State) : List NoticeKind := s.notices.stored.map (·.data.kind)

def config (kind : UnitKind) (string : StringId) (node : Nat) (mode : UnitMode) : UnitConfig :=
  { kind := kind, string := string, node := node, zone := 1, mode := mode, interval := 2 }

def present (addr : Nat) : NodeRecord := { NodeRecord.added addr with presence := .present }

def band (id : BandId) (cls : BandClass) (lockers cabins : Nat) (holdings : List Nat) : Band :=
  { id := id, cls := cls, group := 0, lockers := lockers, cabins := cabins, validity := 0, expired := false, lost := false
    provisional := false, holdings := holdings }

/-- Locker 1 at A-1, VACANT; FREE_USE cabin 2 at B-1, VACANT; DAY locker 3 at A-2, HELD by band 1. Band 2 is STAFF. -/
def hall : State :=
  let s := State.reset.setUnit 1 { UnitRecord.cold with config := some (config .locker .a 1 .single), state := .vacant }
  let s := s.setUnit 2 { UnitRecord.cold with config := some (config .cabin .b 1 .freeUse), state := .vacant }
  let s := s.setUnit 3 { UnitRecord.cold with config := some (config .locker .a 2 .day), state := .held, holder := some 1 }
  let s := s.setStr .a { StringCtl.started [present 1, present 2] with roundTimer := some 200, inRound := true }
  let s := s.setStr .b { StringCtl.started [present 1] with roundTimer := some 200, inRound := true }
  s.setDir [band 1 .guest 1 0 [3], band 2 .staff 0 0 []]

def dark (s : State) : State := s.setPower { s.power with on := false }

def inService (s : State) (service : Service) : State := s.setArb { s.arb with service := service }

/-- A poll is on the line to B-1, the one node of string B. -/
def lastNode (service : Service) : State :=
  let s := inService hall service
  s.setStr .b { s.str .b with
    exchange := some { node := 1, command := .poll, ack := none, code := .dark, stale := false, replaced := false }, cursor := some 1 }

def record (u : Nat) (origin : Origin) (d : Direction) (tag : Option Nat) : ActRecord :=
  { unit := u, direction := d, origin := origin, semantics := if origin = .staff then some .openUnit else none, band := none, tag := tag
    enqueuedAt := 0 }

/-- Locker 3 stands UNLOCKING for a demand of tag 1, whose record is queued, and a grant pass has started. -/
def queued : State :=
  let s := hall.modUnit 3 fun r => { r with state := .unlocking, intent := some ⟨.staffOpen, .held, none⟩ }
  s.setArb { s.arb with
    queue := [record 3 .staff .unlock (some 1)], demands := [{ tag := 1, unit := 3, action := .openUnit, inFlight := false }]
    nextTag := 2, grantPass := true }

/-- The same with a guest unlock in place of the demand. -/
def guestQueued : State :=
  let s := hall.modUnit 3 fun r => { r with state := .unlocking, intent := some ⟨.guestUnlock, .held, none⟩ }
  s.setArb { s.arb with queue := [record 3 .guestUnlock .unlock none], grantPass := true }

def flight (phase : Phase) : InFlight :=
  { unit := 3, node := 2, direction := .unlock, origin := .staff, semantics := some .openUnit, band := none, tag := some 1, phase := phase
    limited := false, slot := none }

def sent (node : Nat) (cmd : NodeCommand) : Exchange :=
  { node := node, command := cmd, ack := none, code := .dark, stale := false, replaced := false }

/-- The actuation of locker 3 is in flight, with its ACTUATE or a settle poll on the line. -/
def moving (phase : Phase) : State :=
  let s := queued.setArb { queued.arb with queue := [], demands := [{ tag := 1, unit := 3, action := .openUnit, inFlight := true }] }
  s.setStr .a { s.str .a with
    inFlight := some (flight phase), settleTimer := if phase = .settling then some 400 else none
    exchange := some (sent 2 (if phase = .settling then .poll else .actuate .unlock)) }

/-- A poll of A-1 is on the line. -/
def polled : State := hall.setStr .a { hall.str .a with exchange := some (sent 1 .poll), cursor := some 1 }

/-- What a node reports that nothing is the matter with. -/
def quiet (v : Option Verdict) (p : Option (Nat × BandId)) : NodeReply :=
  { door := .closed, bolt := .unlocked, inside := .free, readerFault := false, actuatorFault := false, presentation := p, verdict := v }

/-- A decision of band `b` at A-1, the node of locker 1. -/
def deciding (b : BandId) (stage : Stage) : State :=
  hall.setDecisions [{ str := .a, node := 1, unit := 1, band := b, seq := 4, stage := stage, staff := false, admitted := false }]

/-- What a node reports that has an actuator fault. -/
def faulty : NodeReply := { quiet none none with actuatorFault := true }

/-- A sweep slot WALKING over everything, with each cursor at END. -/
def walking : SweepSlot := { SweepSlot.cold with state := .walking, filter := .both }

/-- A closing sweep with locker 3 on offer on string A, and a grant pass started. -/
def offering : State :=
  let s := hall.setSlot .closing { walking with offers := ⟨some ⟨3, 0⟩, none, none, none⟩ }
  s.setArb { s.arb with urgencyTimer := some 2000, grantPass := true }

/-- The same for a locker 3 that has opened meanwhile. -/
def offeringOpened : State := offering.modUnit 3 fun r => { r with state := .openHeld }

/-- A slot that has a unit on offer on string A. -/
def withOffer (k : SlotId) (u : Nat) (s : State) : State := s.setSlot k { walking with offers := ⟨some ⟨u, 0⟩, none, none, none⟩ }

/-- Lockers 1 and 3 on offer in the two slots on string A, the cursor of the evacuation at locker 3, and a guest unlock of locker 3 queued. -/
def bothOffered : State :=
  (withOffer .closing 3 guestQueued).setSlot .evacuation
    { walking with offers := ⟨some ⟨1, 0⟩, none, none, none⟩, cursors := ⟨some 2, none, none, none⟩ }

/-- A string's line held for the grant pass that is due. -/
def holding (i : StringId) (s : State) : State := (s.setStr i { s.str i with held := true }).startPass

/-- A closing sweep whose cursor on string A stands at an address. -/
def cursorAt (a : Nat) : State := hall.setSlot .closing { walking with cursors := ⟨some a, none, none, none⟩ }

def pausedSlot : SweepSlot := { SweepSlot.cold with state := .paused, filter := .both, marks := [3], pause := some 2000 }

def standalone (s : State) : State := s.setLink { s.link with state := .standalone, ageTimer := .held }

def loaded (account : Nat) (s : State) : State := s.setSupply { s.supply with account := account, throttled := true }

def identifyFrame : Frame := Frame.make 7 0x01#8 []

def badFrame : Frame := { identifyFrame with crc := 0 }

def arrived (f : Frame) (s : State) : State := s.setLink { s.link with completed := [f] }

def busyLink (waiting : Option Frame) : State :=
  hall.setLink { hall.link with inHand := some identifyFrame, waiting := waiting, reply := some identifyFrame }

/-! ## WellFormed refuses each ill-formed command -/

theorem test_wf_refuses_band_zero : (Instr.bandExpired 0).wf = false := by decide
theorem test_wf_refuses_an_empty_reply : (Instr.nodeReplyGood .a []).wf = false := by decide
theorem test_wf_refuses_a_long_reply : (Instr.nodeReplyGood .a (List.replicate 259 0)).wf = false := by decide +kernel
theorem test_wf_refuses_a_long_miss : (Instr.nodeMiss .a (List.replicate 259 0)).wf = false := by decide +kernel
theorem test_wf_refuses_node_zero : (Instr.presentationLookup .a 0).wf = false := by decide
theorem test_wf_refuses_node_61 : (Instr.standaloneAdmission .b 61).wf = false := by decide
theorem test_wf_refuses_node_100 : (Instr.presentationUnitAct .d 100).wf = false := by decide
theorem test_wf_takes_a_silent_miss : (Instr.nodeMiss .a []).wf = true := by decide

/-- No word spells a command, for the table gives no row any bits. -/
theorem test_no_word_spells_a_command : decodeTableWord 8 0xC3 = none := by decide

/-! ## The hypotheses of each statement are met -/

/-- The hall, where nothing is due, is also the witness of TicksFallAtTheirPeriods. -/
theorem witness_StepWithNothingWaiting :
    ((dark hall).pending = [] ∧ (dark hall).power.on = false)
      ∧ (queued.pending = [] ∧ queued.power.on = true ∧ queued.due = [.grantRecord])
      ∧ (hall.pending = [] ∧ hall.power.on = true ∧ hall.due = []) := by decide +kernel

/-- R170: timers with 1 ms left run out in the order of log entry 2, and one with 2 ms left does not. -/
theorem test_timers_run_out :
    let s := hall.setStr .a { hall.str .a with roundTimer := some 1, gapTimer := some 0, recoveryTimer := some 2 }
    let s := s.setArb { s.arb with urgencyTimer := some 1 }
    s.falls = [.gapTimerExpiry .a, .roundTimerExpiry .a, .closingUrgencyTimerExpiry] := by decide +kernel

theorem witness_WithoutPowerThePartHasStopped :
    ((dark hall).power.on = false ∧ Instr.drainTick ≠ .powerUp) ∧ hall.power.on = true := by decide +kernel

theorem witness_PowerUpWithoutAMatchStartsCold : (hall.setPower ⟨false, false⟩).power.codeMatches = false := by decide +kernel

theorem witness_WarmStartKeepsWhatIsRetained :
    (dark hall).power.codeMatches = true ∧ (dark hall).power.on = false ∧ hall.power.on = true := by decide +kernel

/-- Power alone is the hypothesis of AlarmLineStartsAnEvacuation, SupplyLinesAreTaken, DrainTickRecoversCharge,
MinuteTickCountsDwellAndOccupancy, ValidityCountsDownToExpiry, ClockIsSetAndRead, NoticeAgeExpiryEntersStandalone, LinkAnswersForItself,
SupplyGroupIsChecked, OtherGroupsAreChecked, UnitsLeaveAndReturnToService, UnitsAreReported, AmendBandWritesTheNamedItems,
TransferMovesEveryHolding, BandsAreMarkedListedAndCleared, CancelDemandWithdraws, ServiceStopsAndResumes, PresentationsAreLookedUp and
PresentationsAreDecidedAtTheUnit; their cases are those of an if and else chain. -/
theorem witness_power : hall.power.on = true := by decide +kernel

theorem witness_AlarmLineStartsAnEvacuation :
    (hall.power.on = true ∧ hall.sweeps.alarm = false ∧ hall.sweeps.evacuation.state = .inactive)
      ∧ (after (.alarmLevelChange true) hall).sweeps.alarm = true := by decide +kernel

/-- The second before the enabled closing second, at a hall with no closing sweep and at one with a sweep, and a clock that stands elsewhere. -/
theorem witness_SecondTickAdvancesTheClock :
    let at79199 := fun s : State => (s.setTime { s.time with second := 79199, valid := true }).setParams
      { s.params with time := { s.params.time with closingEnabled := true } }
    let meets := fun s : State => s.power.on = true ∧ s.time.valid = true ∧ s.params.time.closingEnabled = true
      ∧ s.time.second + 1 = s.params.time.closing
    (meets (at79199 hall) ∧ (at79199 hall).sweeps.closing.state = .inactive)
      ∧ (meets (at79199 offering) ∧ (at79199 offering).sweeps.closing.state ≠ .inactive)
      ∧ (hall.power.on = true ∧ hall.time.valid = false) := by decide +kernel

theorem witness_SupplyForecastComesTrue :
    let meets := fun s : State => s.power.on = true
      ∧ (s.params.supply.good = true ∧ (s.supply.throttled = false → s.supply.account < s.params.supply.hw)
        ∧ (s.supply.throttled = true → s.params.supply.lw < s.supply.account)) ∧ 2400 ≤ s.params.supply.c
    (meets (loaded 1500 hall) ∧ (loaded 1500 hall).supply.throttled = true) ∧ (meets hall ∧ hall.supply.throttled = false) := by
  decide +kernel

theorem witness_ReceiverAssemblesAFrame :
    hall.power.on = true ∧ hall.link.receiver = .hunting ∧ identifyFrame.body.length ≤ 255
      ∧ (Frame.make 0 0x60#8 (List.replicate 255 0xC3#8)).body.length ≤ 255 := by decide +kernel

theorem witness_BadFramesAreDiscardedAndCounted :
    let s := hall.setLink { hall.link with receiver := .assembling [1] 20 }
    (hall.power.on = true ∧ hall.link.receiver = .hunting)
      ∧ (s.power.on = true ∧ s.link.receiver = .assembling [1] 20 ∧ 255 < 256 * (1#8).toNat + (0#8).toNat) := by decide +kernel

theorem witness_CompleteFramesArePlaced :
    let full := arrived badFrame (busyLink (some identifyFrame))
    let half := arrived identifyFrame (busyLink none)
    let spoilt := arrived badFrame hall
    (full.power.on = true ∧ full.link.completed = [badFrame] ∧ full.link.inHand.isSome = true ∧ full.link.waiting.isSome = true)
      ∧ (spoilt.power.on = true ∧ spoilt.link.completed = [badFrame] ∧ spoilt.link.inHand.isSome = false
        ∧ badFrame.crc ≠ crc16 (Frame.covered badFrame.tag badFrame.type badFrame.body))
      ∧ (half.power.on = true ∧ half.link.completed = [identifyFrame] ∧ half.link.inHand.isSome = true ∧ half.link.waiting.isSome = false
        ∧ identifyFrame.crc = crc16 (Frame.covered identifyFrame.tag identifyFrame.type identifyFrame.body)) := by decide +kernel

theorem witness_EveryGoodFrameIsAnswered :
    let s := arrived identifyFrame (standalone hall)
    s.power.on = true ∧ s.link.completed = [identifyFrame] ∧ s.link.inHand = none ∧ identifyFrame.good = true := by decide +kernel

theorem witness_RequestFramesDoTheirCommand :
    (Instr.identify 7).frame? = some identifyFrame ∧ hall.power.on = true ∧ hall.link.inHand = none := by decide +kernel

theorem witness_UnknownTypesAndWrongLengthsAreRefused :
    let meets := fun f : Frame =>
      let s := arrived f hall
      s.power.on = true ∧ s.link.inHand = none ∧ s.link.completed = [f] ∧ f.good = true
    (meets (Frame.make 0 0x65#8 []) ∧ (0x65#8 : Byte) ≠ 0x02#8 ∧ requestLength (0x65#8).toNat = none)
      ∧ (meets (Frame.make 0 0x10#8 [1]) ∧ requestLength (0x10#8).toNat = some 7 ∧ [1#8].length ≠ 7)
      ∧ meets (Frame.make 0 0x02#8 [])
      ∧ (meets (Frame.make 0 0x02#8 [5]) ∧ groupLength (5#8).toNat = none)
      ∧ (meets (Frame.make 0 0x02#8 [4, 15]) ∧ groupLength (4#8).toNat = some 2 ∧ [15#8].length ≠ 2) := by decide +kernel

theorem witness_ReplyEndTakesTheWaitingFrame :
    (hall.power.on = true ∧ hall.link.reply = none)
      ∧ ((busyLink none).power.on = true ∧ (busyLink none).link.reply.isSome = true ∧ (busyLink none).link.waiting = none)
      ∧ ((busyLink (some identifyFrame)).link.reply.isSome = true ∧ (busyLink (some identifyFrame)).link.waiting = some identifyFrame
        ∧ identifyFrame.good = true) := by decide +kernel

/-- The ranges of the SUPPLY group at their ends. -/
theorem witness_SupplyGroupIsChecked :
    hall.power.on = true ∧ (1 ≤ (1#16).toNat ∧ (4095#16).toNat ≤ 4095) ∧ 1 ≤ (1#8).toNat
      ∧ (0#16).toNat < (4095#16).toNat ∧ (4095#16).toNat ≤ (4095#16).toNat ∧ max (1#16).toNat (4095#16).toNat ≤ (4095#16).toNat := by
  decide +kernel

theorem witness_ConfigureUnitIsChecked :
    let s := inService hall .quiesced
    let low := (1#8).toNat ≤ 1 ∧ (3#8).toNat ≤ 3 ∧ (1 ≤ (60#8).toNat ∧ (60#8).toNat ≤ 60) ∧ (1 ≤ (15#8).toNat ∧ (15#8).toNat ≤ 15)
      ∧ (2#8).toNat ≤ 2 ∧ ¬((2#8).toNat = 2 ∧ (1#8).toNat = 0)
    (s.power.on = true ∧ ¬isUnit (241#8).toNat ∧ ¬isUnit (0#8).toNat)
      ∧ (isUnit (240#8).toNat ∧ low)
      ∧ ((2#8).toNat = 2 ∧ (0#8).toNat = 0)
      ∧ hall.arb.service ≠ .quiesced
      ∧ s.arb.service = .quiesced
      ∧ (s.unit 3).state ∉ [.unconfigured, .vacant, .withdrawn]
      ∧ (s.unit 240).state ∈ [.unconfigured, .vacant, .withdrawn]
      ∧ (isUnit 1 ∧ (1 : Nat) ≠ 240 ∧ string? 0#8 = some .a ∧ s.unitNode 1 = some (.a, (1#8).toNat))
      ∧ (unitNumbers.all fun v => s.unitNode v != some (.d, 60)) = true := by decide +kernel

theorem forall_unit {p : Nat → Prop} (h : ∀ u ∈ unitNumbers, p u) : ∀ u, isUnit u → p u := by
  intro u hu
  refine h u (List.mem_map.mpr ⟨u - 1, List.mem_range.mpr ?_, ?_⟩)
  · change u - 1 < 240; omega
  · omega

/-- A unit that takes a new node on an IDLE string, a unit on offer in the CLOSING slot that keeps its node, and a unit that moves away from the one
node of a string, with a frame to it on the line. -/
theorem witness_ConfigureUnitWritesTheUnit :
    let s := withOffer .closing 1 (inService hall .quiesced)
    let c : UnitConfig := ⟨.cabin, .d, 60, 15, .freeUse, 255⟩
    let k : UnitConfig := ⟨.locker, .a, 1, 1, .day, 0⟩
    (s.power.on = true ∧ s.arb.service = .quiesced)
      ∧ (isUnit (240#8).toNat ∧ unitConfig? 1 3 60 15 2 255 = some c ∧ (s.unit 240).state ∈ [.unconfigured, .vacant, .withdrawn]
        ∧ (s.node? c.string c.node).isSome = decide (s.unitNode 240 = some (c.string, c.node)))
      ∧ (isUnit (1#8).toNat ∧ unitConfig? 0 0 1 1 1 0 = some k ∧ (s.unit 1).state ∈ [.unconfigured, .vacant, .withdrawn]
        ∧ (s.node? k.string k.node).isSome = decide (s.unitNode 1 = some (k.string, k.node)))
      ∧ (∀ v ∈ unitNumbers, v ≠ 240 → s.unitNode v ≠ some (c.string, c.node))
      ∧ (∀ v ∈ unitNumbers, v ≠ 1 → s.unitNode v ≠ some (k.string, k.node))
      ∧ (s.offeredOn .closing 1 = some .a ∧ s.offeredOn .evacuation 1 = none)
      ∧ (s.str .d).state = .idle
      ∧ (let l := lastNode .quiesced
        l.power.on = true ∧ l.arb.service = .quiesced ∧ (l.unit 2).state ∈ [.unconfigured, .vacant, .withdrawn]
          ∧ l.unitNode 2 = some (.b, 1) ∧ (∀ v ∈ unitNumbers, v ≠ 2 → l.unitNode v ≠ some (c.string, c.node))
          ∧ (l.node? c.string c.node).isSome = decide (l.unitNode 2 = some (c.string, c.node))
          ∧ (∀ n ∈ (l.str .b).nodes, n.addr = 1) ∧ (l.str .b).exchange = some (sent 1 .poll)) := by decide +kernel

/-- A unit on offer in the EVACUATION slot may be removed like any other, and so may the unit of a string's one node, with a frame on the line to it. -/
theorem witness_RemoveUnitTakesItOut :
    let s := withOffer .evacuation 1 (inService hall .quiesced)
    (s.power.on = true ∧ ¬isUnit (241#8).toNat)
      ∧ (isUnit (1#8).toNat ∧ hall.arb.service ≠ .quiesced)
      ∧ (isUnit (240#8).toNat ∧ s.arb.service = .quiesced ∧ (s.unit 240).state = .unconfigured)
      ∧ (isUnit (3#8).toNat ∧ (s.unit 3).state ∉ [.unconfigured, .vacant, .withdrawn])
      ∧ ((s.unit 1).state ∈ [.vacant, .withdrawn] ∧ s.offeredOn .evacuation 1 = some .a)
      ∧ (let l := lastNode .quiesced
        l.power.on = true ∧ l.arb.service = .quiesced ∧ (l.unit 2).state ∈ [.vacant, .withdrawn] ∧ l.unitNode 2 = some (.b, 1)
          ∧ (∀ n ∈ (l.str .b).nodes, n.addr = 1) ∧ (l.str .b).exchange = some (sent 1 .poll)) := by decide +kernel

/-- The values with which REGISTER_BAND passes its first check. -/
def registrable (b : BandId) (cls : Byte) (validity : BitVec 16) (lockers cabins : Byte) : Bool :=
  decide (b ≠ 0 ∧ cls.toNat ≤ 3 ∧ validity.toNat ≤ 1440 ∧ (lockers = 0xFF#8 ∨ lockers.toNat ≤ 3) ∧ (cabins = 0xFF#8 ∨ cabins.toNat ≤ 1)
    ∧ (cls.toNat = 3 → (lockers = 0xFF#8 ∨ lockers = 0) ∧ (cabins = 0xFF#8 ∨ cabins = 0)))

theorem witness_RegisterBandMakesAnEntry :
    let full := hall.setDir (List.replicate 1024 (band 9 .guest 1 0 []))
    hall.power.on = true
      ∧ ¬registrable 0 0 0 0xFF 0xFF ∧ ¬registrable 5 3 0 1 0xFF ∧ ¬registrable 5 0 1441 0xFF 0xFF
      ∧ (registrable 1 3 1440 0 0 ∧ hall.dir.any (·.id == 1) = true)
      ∧ (registrable 0xFFFFFFFF 2 1440 3 1 ∧ full.dir.any (·.id == 0xFFFFFFFF) = false ∧ 1024 ≤ full.dir.length)
      ∧ (hall.dir.any (·.id == 0xFFFFFFFF) = false ∧ hall.dir.length < 1024) := by decide +kernel

theorem witness_DemandIsCheckedAndTaken :
    let d : Demand := ⟨1, 1, .openUnit, false⟩
    let eight := hall.setArb { hall.arb with demands := (List.range 8).map fun k => ⟨k + 1, 100 + k, .openUnit, false⟩ }
    let full := hall.setArb { hall.arb with demands := [d], queue := List.replicate 32 (record 9 .guestLock .lock none) }
    let opened := hall.modUnit 3 fun r => { r with state := .openHeld }
    (hall.power.on = true ∧ hall.arb.demands.length ≤ 8 ∧ ¬isUnit (0#8).toNat ∧ ¬isUnit (241#8).toNat)
      ∧ (isUnit (3#8).toNat ∧ 2 < (3#8).toNat)
      ∧ (queued.arb.demands.length ≤ 8 ∧ (queued.unit 3).state ∈ [.locking, .unlocking])
      ∧ ((hall.unit 3).state ∉ [.locking, .unlocking] ∧ (hall.unit 3).state ∉ [.openHeld])
      ∧ ((opened.unit 3).state = .openHeld ∧ (2#8).toNat = 2)
      ∧ (hall.unit 3).state ∈ [.held, .jammed, .forfeited, .occupied, .withdrawn]
      ∧ (eight.power.on = true ∧ eight.arb.demands.length = 8 ∧ (eight.unit 3).state = .held)
      ∧ (full.power.on = true ∧ full.arb.demands.length ≠ 8 ∧ 32 ≤ full.arb.queue.length ∧ (full.unit 3).state = .held) := by decide +kernel

theorem witness_OutcomesTakeEffectOnTheUnit : Completion.uncertain ≠ .doneLate := by decide

theorem witness_DispatchSupplyAndStringsAreReported :
    hall.power.on = true ∧ 3 < (4#8).toNat ∧ (0#8).toNat < 1 ∧ 60 < (61#8).toNat ∧ 1 < (2#8).toNat
      ∧ (string? 3#8 = some .d ∧ 1 ≤ (60#8).toNat ∧ (60#8).toNat ≤ 60 ∧ (1#8).toNat ≤ 1) := by decide +kernel

theorem witness_GrantPassLooksInRankOrder :
    queued.firstEligible = some (.record (record 3 .staff .unlock (some 1))) ∧ hall.firstEligible = none := by decide +kernel

/-- A record on a free line, on a line with an exchange on it, and on a line that is held; a look that finds none, with no line held and with one. -/
theorem witness_RecordsAreGranted :
    let r := record 3 .staff .unlock (some 1)
    let busy := queued.setStr .a { queued.str .a with exchange := some (sent 1 .poll) }
    (hall.power.on = true ∧ hall.arb.grantPass = false)
      ∧ (hall.startPass.arb.grantPass = true ∧ hall.startPass.firstEligible = none)
      ∧ (offering.power.on = true ∧ offering.firstEligible = some (.offer .closing .a ⟨3, 0⟩))
      ∧ (queued.power.on = true ∧ queued.arb.grantPass = true ∧ queued.firstEligible = some (.record r)
        ∧ (queued.unit r.unit).config = some (config .locker .a 2 .day)
        ∧ (queued.str .a).exchange = none ∧ queued.node? .a 2 = some (present 2))
      ∧ (busy.firstEligible = some (.record r) ∧ (busy.str .a).exchange.isSome = true)
      ∧ ((holding .a queued).firstEligible = some (.record r) ∧ ((holding .a queued).str .a).held = true)
      ∧ ((∀ c ∈ hall.startPass.strings.toList, c.held = false) ∧ (holding .b hall).firstEligible = none
        ∧ (holding .b hall).arb.grantPass = true) := by decide +kernel

/-- A candidate that is accepted, on a free line and on a busy one, alone on offer and beside another; one that has opened meanwhile; and one whose unit has a queued record. -/
theorem witness_SweepCandidatesAreGranted :
    let two := offering.setSlot .closing { walking with offers := ⟨some ⟨3, 0⟩, some ⟨2, 0⟩, none, none⟩ }
    let recorded := offering.setArb { offering.arb with queue := [record 3 .guestLock .lock none], urgent := true }
    let busy := offering.setStr .a { offering.str .a with exchange := some (sent 1 .poll) }
    let free := fun s : State => (s.arb.queue.any (·.unit == 3) || s.strings.toList.any fun y => y.inFlight.elim false (·.unit == 3)) = false
    (hall.power.on = true ∧ hall.arb.grantPass = false)
      ∧ (hall.startPass.arb.grantPass = true ∧ hall.startPass.firstEligible = none)
      ∧ queued.firstEligible = some (.record (record 3 .staff .unlock (some 1)))
      ∧ (offering.arb.grantPass = true ∧ offering.firstEligible = some (.offer .closing .a ⟨3, 0⟩)
        ∧ (offering.unit 3).config = some (config .locker .a 2 .day) ∧ offering.judge .closing 3 = .offer ∧ free offering)
      ∧ (offeringOpened.arb.grantPass = true ∧ offeringOpened.firstEligible = some (.offer .closing .a ⟨3, 0⟩)
        ∧ offeringOpened.judge .closing 3 ≠ .offer)
      ∧ (two.arb.grantPass = true ∧ two.firstEligible = some (.offer .closing .a ⟨3, 0⟩) ∧ two.judge .closing 3 = .offer ∧ free two
        ∧ (two.slot .closing).offers.get .b ≠ none)
      ∧ (recorded.arb.grantPass = true ∧ recorded.firstEligible = some (.offer .closing .a ⟨3, 0⟩) ∧ ¬free recorded)
      ∧ ((offering.str .a).exchange = none ∧ offering.node? .a 2 = some (present 2))
      ∧ (busy.arb.grantPass = true ∧ busy.firstEligible = some (.offer .closing .a ⟨3, 0⟩) ∧ busy.judge .closing 3 = .offer ∧ free busy
        ∧ (busy.unit 3).config = some (config .locker .a 2 .day) ∧ (busy.str .a).exchange.isSome = true) := by decide +kernel

theorem witness_DispatchOnlyWhenAllowed :
    exec .grantRecord queued = .next (after .grantRecord queued) ∧ (queued.str .a).inFlight = none
      ∧ ((after .grantRecord queued).str .a).inFlight = some { flight .commanding with limited := false }
      ∧ queued.supply.account < (after .grantRecord queued).supply.account := ⟨rfl, by decide +kernel⟩

def offString (exchange : Option Exchange) : State :=
  hall.setStr .a
    { StringCtl.idle with
      state := .off, score := 256, nodes := [NodeRecord.added 1, NodeRecord.added 2], recoveryTimer := some 1, exchange := exchange }

theorem witness_StringTimersRunOut :
    let idle := hall.setStr .a { hall.str .a with roundTimer := none }
    let between := hall.setStr .a { hall.str .a with inRound := false }
    let busy := between.setStr .a { between.str .a with exchange := some (sent 1 .poll) }
    let gone := between.setStr .a { between.str .a with nodes := [NodeRecord.added 1], roundCount := 1 }
    let flying := fun s : State => s.setStr .a { s.str .a with inFlight := some (flight .settling) }
    let line := fun s : State => s.power.on = true ∧ (s.str .a).roundTimer ≠ none ∧ (s.str .a).inRound = false ∧ (s.str .a).exchange = none
    let visited := fun s : State => (s.str .a).nodes.filter fun n => (s.str .a).roundCount = 0 ∨ n.presence ≠ .absent
    (idle.power.on = true ∧ (idle.str .a).roundTimer = none)
      ∧ ((hall.str .a).roundTimer ≠ none ∧ (hall.str .a).inRound = true)
      ∧ ((busy.str .a).roundTimer ≠ none ∧ (busy.str .a).inRound = false ∧ (busy.str .a).exchange ≠ none ∧ (busy.str .a).nodes ≠ [])
      ∧ (((holding .a between).str .a).held = true ∧ ((holding .a between).str .a).inRound = false)
      ∧ ((between.str .a).exchange = none ∧ (between.str .a).held = false ∧ (between.str .a).inFlight = none ∧ (between.str .a).nodes = [present 1, present 2]
        ∧ ∀ m ∈ (between.str .a).nodes, m.addr = 1 → m = present 1)
      ∧ (line (flying between) ∧ ((flying between).str .a).held = false ∧ visited (flying between) ≠ [])
      ∧ (line (flying gone) ∧ ((flying gone).str .a).held = false ∧ visited (flying gone) = [])
      ∧ (line (holding .a (flying gone)) ∧ ((holding .a (flying gone)).str .a).held = true ∧ visited (holding .a (flying gone)) = [])
      ∧ ((gone.str .a).inFlight = none ∧ ((gone.str .a).nodes.filter fun n => (gone.str .a).roundCount = 0 ∨ n.presence ≠ .absent) = [])
      ∧ ((hall.str .a).recoveryTimer = none ∧ (hall.str .a).state ≠ .off)
      ∧ (((offString none).str .a).recoveryTimer ≠ none ∧ ((offString none).str .a).state = .off ∧ ((offString none).str .a).nodes ≠ []
        ∧ ((offString none).str .a).exchange = none ∧ ((offString none).str .a).inFlight = none)
      ∧ string? 4#8 = none ∧ string? 0#8 = some .a := by decide +kernel

/-- A string with an actuation in flight and a frame on the line, one with a queued demand, and one with a queued guest record and both slots'
candidates. -/
theorem witness_ResetStringClearsTheString :
    (moving .settling).power.on = true ∧ string? 4#8 = none ∧ string? 0#8 = some .a
      ∧ ((moving .settling).str .a).inFlight = some (flight .settling) ∧ ((moving .settling).str .a).exchange = some (sent 2 .poll)
      ∧ (∃ r ∈ queued.arb.queue, r.origin = .staff ∧ queued.unitNode r.unit = some (.a, 2))
      ∧ (bothOffered.power.on = true ∧ (bothOffered.slot .evacuation).offers.a = some ⟨1, 0⟩
        ∧ (bothOffered.slot .closing).offers.a = some ⟨3, 0⟩
        ∧ (∃ r ∈ bothOffered.arb.queue, r.origin = .guestUnlock ∧ bothOffered.unitNode r.unit = some (.a, 2))) := by decide +kernel

/-- A-1, with a poll on the line, having missed some exchanges, on a string of some score. -/
def missedOf (s : State) (presence : Presence) (misses score : Nat) : State :=
  s.setStr .a
    { s.str .a with
      exchange := some (sent 1 .poll), nodes := [{ present 1 with presence := presence, misses := misses }, present 2], score := score, state := stateOfScore score }

def missed : Presence → Nat → Nat → State := missedOf polled

/-- Among them a third miss of a node whose unit is on offer, and a miss that takes a string with candidates and a guest record OFF. -/
theorem witness_MissesAreCounted :
    let meets := fun (s : State) (n : NodeRecord) =>
      s.power.on = true ∧ (s.str .a).exchange = some (sent 1 .poll) ∧ (s.str .a).state ≠ .idle ∧ (s.str .a).state ≠ .off
        ∧ s.node? .a 1 = some n
    (hall.power.on = true ∧ (hall.str .a).exchange = none)
      ∧ ((offString (some (sent 1 .poll))).str .a).exchange = some (sent 1 .poll)
      ∧ ((offString (some (sent 1 .poll))).str .a).state = .off
      ∧ meets (missed .absent 0 0) { present 1 with presence := .absent }
      ∧ ((polled.str .a).exchange = some (sent 1 .poll) ∧ judgeReply 1 .poll [] = .miss)
      ∧ (meets (missed .silent 1 247) { present 1 with presence := .silent, misses := 1 } ∧ min 256 (247 + 8) < 256)
      ∧ (meets (missed .silent 2 0) { present 1 with presence := .silent, misses := 2 } ∧ (missed .silent 2 0).unitAt .a 1 = some 1)
      ∧ (meets (missed .present 0 248) (present 1) ∧ 256 ≤ min 256 (248 + 8))
      ∧ (meets (missedOf bothOffered .silent 2 0) { present 1 with presence := .silent, misses := 2 }
        ∧ ((missedOf bothOffered .silent 2 0).slot .evacuation).offers.a = some ⟨1, 0⟩)
      ∧ (meets (missedOf bothOffered .silent 2 250) { present 1 with presence := .silent, misses := 2 }
        ∧ ∃ r ∈ (missedOf bothOffered .silent 2 250).arb.queue, r.origin = .guestUnlock) := by decide +kernel

/-- A new read, and a new actuator fault of a node whose unit is on offer. -/
theorem witness_GoodRepliesAreTaken :
    let r := quiet none (some (4, 1))
    let s := withOffer .closing 1 polled
    polled.power.on = true ∧ (polled.str .a).exchange = some (sent 1 .poll) ∧ (sent 1 .poll).stale = false
      ∧ (polled.str .a).state ≠ .idle ∧ (polled.str .a).state ≠ .off ∧ polled.node? .a 1 = some (present 1)
      ∧ judgeReply 1 .poll (replyFrame 1 r) = .good r ∧ ((polled.str .a).nodes.map (·.addr)).Pairwise (· < ·)
      ∧ (s.power.on = true ∧ (s.str .a).exchange = some (sent 1 .poll) ∧ s.node? .a 1 = some (present 1)
        ∧ judgeReply 1 .poll (replyFrame 1 faulty) = .good faulty ∧ ((s.str .a).nodes.map (·.addr)).Pairwise (· < ·)
        ∧ s.unitAt .a 1 = some 1 ∧ (s.slot .closing).offers.a = some ⟨1, 0⟩) := by decide +kernel

/-- A reply that completes an actuation, and one that reports a new actuator fault of a node whose unit is on offer. -/
theorem witness_NodeReportsReachTheUnit :
    let s := moving .commanding
    let r := quiet (some .accept) none
    let w := withOffer .closing 1 polled
    s.power.on = true ∧ (s.str .a).exchange = some (sent 2 (.actuate .unlock)) ∧ (s.str .a).state ≠ .idle ∧ (s.str .a).state ≠ .off
      ∧ s.node? .a 2 = some (present 2) ∧ judgeReply 2 (.actuate .unlock) (replyFrame 2 r) = .good r
      ∧ s.unitAt .a 2 = some 3
      ∧ ((w.str .a).exchange = some (sent 1 .poll) ∧ w.node? .a 1 = some (present 1) ∧ w.unitAt .a 1 = some 1
        ∧ judgeReply 1 .poll (replyFrame 1 faulty) = .good faulty) := by decide +kernel

theorem witness_WalksJudgeUnitsInOrder :
    let ahead := fun (s : State) (a : Nat) => ((s.str .a).nodes.map (·.addr)).filter (a ≤ ·)
    let gap := (cursorAt 1).modUnit 1 fun _ => UnitRecord.cold
    (hall.power.on = true ∧ (hall.slot .closing).state ≠ .walking)
      ∧ ((cursorAt 3).power.on = true ∧ ((cursorAt 3).slot .closing).state = .walking ∧ ((cursorAt 3).slot .closing).offers.get .a = none
        ∧ ((cursorAt 3).slot .closing).cursors.get .a = some 3 ∧ ahead (cursorAt 3) 3 = [])
      ∧ (ahead gap 1 = [1, 2] ∧ (((gap.str .a).nodes.map (·.addr)).Pairwise (· < ·)) ∧ gap.unitAt .a 1 = none)
      ∧ (ahead (cursorAt 1) 1 = [1, 2] ∧ (cursorAt 1).unitAt .a 1 = some 1 ∧ (cursorAt 1).visits .closing 1 = true
        ∧ (cursorAt 1).judge .closing 1 ≠ .offer)
      ∧ (ahead (cursorAt 2) 2 = [2] ∧ (cursorAt 2).unitAt .a 2 = some 3 ∧ (cursorAt 2).visits .closing 3 = true
        ∧ (cursorAt 2).judge .closing 3 = .offer)
      ∧ ((hall.setSlot .closing { walking with zone := 2, cursors := ⟨some 1, none, none, none⟩ }).visits .closing 1 = false) := by
  decide +kernel

theorem witness_SweepsStartStopAndGoOn :
    (hall.power.on = true ∧ 2 < (3#8).toNat ∧ 15 < (16#8).toNat)
      ∧ ((2#8).toNat ≤ 2 ∧ (15#8).toNat ≤ 15 ∧ (cursorAt 1).sweeps.closing.state ≠ .inactive)
      ∧ hall.sweeps.closing.state = .inactive
      ∧ (hall.slot .closing).pause = none ∧ ((hall.setSlot .closing pausedSlot).slot .closing).pause ≠ none
      ∧ 1 < (2#8).toNat ∧ (1#8).toNat ≤ 1 := by decide +kernel

theorem witness_NoticesAndCensusAreKept :
    let s := after (.census 0) hall
    (hall.power.on = true ∧ hall.census.number ≤ 65535)
      ∧ 4 < (5#8).toNat ∧ ((4#8).toNat ≤ 4 ∧ hall.census.number = 0)
      ∧ (s.power.on = true ∧ s.census.number ≠ 0 ∧ s.census.snapshot.isSome = true) := by decide +kernel

theorem witness_LineFramesAreJudged :
    (255 : Nat) < 256 ∧ (∀ p ∈ (quiet none (some (15, 1))).presentation, p.1 < 16) ∧ (quiet none none).verdict = none
      ∧ (quiet (some .refuse) none).verdict ≠ none ∧ (254 : Nat) ≠ 255 ∧ (1#8 : Byte) ≠ 0#8 ∧ [(0#8 : Byte)] ≠ []
      ∧ 1 < (2#8 : Byte).toNat ∧ 2 < (3#8 : Byte).toNat ∧ ¬(1 < (1#8 : Byte).toNat ∨ 2 < (2#8 : Byte).toNat) := by decide

/-! ## The invariants hold of the hall -/

theorem hall_holders : ∀ u ∈ unitNumbers, (hall.unit u).holder = if u = 3 then some 1 else none := by decide +kernel

theorem hall_nodes : ∀ u ∈ unitNumbers,
    hall.unitNode u = if u = 1 then some (.a, 1) else if u = 2 then some (.b, 1) else if u = 3 then some (.a, 2) else none := by
  decide +kernel

theorem hall_rosters : hall.RosterInv := by
  have node := forall_unit hall_nodes
  refine ⟨fun i => ⟨by cases i <;> decide +kernel, fun a => ⟨?_, ?_, ?_⟩⟩, ?_⟩
  · rw [show (hall.str i).nodes.map (·.addr) = match i with | .a => [1, 2] | .b => [1] | _ => [] by cases i <;> rfl]
    cases i <;> simp <;> omega
  · rw [show (hall.str i).nodes.map (·.addr) = match i with | .a => [1, 2] | .b => [1] | _ => [] by cases i <;> rfl]
    intro ha
    cases i <;> simp at ha
    · obtain rfl | rfl := ha
      · exact ⟨1, by decide, node 1 (by decide)⟩
      · exact ⟨3, by decide, node 3 (by decide)⟩
    · subst ha; exact ⟨2, by decide, node 2 (by decide)⟩
  · rintro ⟨u, hu, h⟩
    rw [node u hu] at h
    split_ifs at h <;> cases h <;> decide +kernel
  · intro u v hu hv hn h
    rw [node u hu] at hn h
    rw [node v hv] at h
    split_ifs at hn h <;> simp_all

theorem hall_sound : ∀ u, isUnit u → (hall.unit u).sound := by
  intro u hu
  by_cases h1 : u = 1
  · subst h1; exact ⟨rfl, rfl, rfl⟩
  by_cases h2 : u = 2
  · subst h2; exact ⟨rfl, rfl, rfl⟩
  by_cases h3 : u = 3
  · subst h3; exact ⟨rfl, rfl, rfl⟩
  have h : ∀ v ∈ unitNumbers, v = 1 ∨ v = 2 ∨ v = 3 ∨ hall.unit v = UnitRecord.cold := by decide +kernel
  rw [show hall.unit u = UnitRecord.cold by simpa [h1, h2, h3] using forall_unit h u hu]
  exact ⟨rfl, rfl, rfl⟩

theorem hall_movements (u : Nat) :
    hall.movements u = if (hall.unit u).state = .locking ∨ (hall.unit u).state = .unlocking then 1 else 0 := by
  have hs : ¬((hall.unit u).state = .locking ∨ (hall.unit u).state = .unlocking) := by
    by_cases hu : isUnit u
    · exact forall_unit (p := fun v => ¬((hall.unit v).state = .locking ∨ (hall.unit v).state = .unlocking)) (by decide +kernel) u hu
    · rw [show hall.unit u = UnitRecord.cold by unfold State.unit; rw [dif_neg hu]]; decide
  rw [if_neg hs]; rfl

theorem hall_tenancy : hall.TenancyInv := by
  refine ⟨by unfold State.DirectoryInv; decide +kernel, by unfold State.QueueInv; decide +kernel, hall_sound, ?_, by decide +kernel,
    hall_movements, by decide +kernel, by decide +kernel⟩
  intro u b hu
  rw [forall_unit hall_holders u hu, show hall.dir = [band 1 .guest 1 0 [3], band 2 .staff 0 0 []] from rfl]
  by_cases h3 : u = 3
  · subst h3; simp [band]
  · simp [band, h3]

/-- The hall meets every invariant, and a step from it answers a next state, as EveryStepKeepsTenancy and its two fellows suppose. -/
theorem witness_EveryStepKeeps :
    (hall.SupplyInv ∧ hall.FiguresInv ∧ hall.NoticeInv ∧ hall.LineInv) ∧ hall.StringInv ∧ hall.SweepInv ∧ hall.TenancyInv
      ∧ step hall = .next (stepped hall) := by
  refine ⟨⟨?_, ?_, ?_, ?_⟩, ?_, ?_, hall_tenancy, ?_⟩
  · unfold State.SupplyInv; decide +kernel
  · unfold State.FiguresInv; decide +kernel
  · unfold State.NoticeInv; decide +kernel
  · unfold State.LineInv; decide +kernel
  · exact ⟨hall_rosters, fun i => by cases i <;> (unfold StringCtl.ScoreInv; decide +kernel)⟩
  · unfold State.SweepInv SweepSlot.PassInv; decide +kernel
  · rfl

/-- The hypotheses of the release, for a band whose one locker stands HELD and mode FORCE. -/
theorem witness_CheckOutBandReleasesEveryHolding :
    hall.power.on = true ∧ hall.TenancyInv ∧ (1 : BandId) ≠ 0 ∧ (1#8).toNat ≤ 1
      ∧ hall.dir.find? (·.id == 1) = some (band 1 .guest 1 0 [3])
      ∧ (∀ u ∈ (band 1 .guest 1 0 [3]).holdings, (hall.unit u).state ∉ [.locking, .unlocking])
      ∧ ((1#8 : Byte) = 0 → ∀ u ∈ (band 1 .guest 1 0 [3]).holdings, (hall.unit u).state ∉ [.held, .jammed, .verify])
      ∧ ((0 : BandId) = 0 ∧ 1 < (2#8).toNat) ∧ hall.dir.find? (·.id == 9) = none :=
  ⟨by decide +kernel, hall_tenancy, by decide, by decide, by decide +kernel, by decide +kernel, by decide, by decide, by decide +kernel⟩

/-! ## One step of each command -/

/-- R29, R31: a matching code gives a warm start, in which a unit that was moving is in doubt. -/
theorem test_powerUp_warm :
    let t := after .powerUp (dark queued)
    (t.unit 3).state = .verify ∧ (t.unit 3).holder = some 1 ∧ t.arb.queue = []
      ∧ (t.notices.stored.map (·.data.code)) = [.start true] := by decide +kernel

/-- R29, R30: a code that does not match gives a cold start. -/
theorem test_powerUp_cold :
    let t := after .powerUp (hall.setPower ⟨false, false⟩)
    t.unit 3 = UnitRecord.cold ∧ t.dir = [] ∧ (t.str .a).state = .idle
      ∧ (t.notices.stored.map (·.data.code)) = [.start false] := by decide +kernel

theorem test_resetPulse :
    let t := after .resetPulse queued
    (t.unit 3).state = .verify ∧ t.dir = hall.dir ∧ (t.str .a).exchange.map (·.node) = some 1 := by decide +kernel

/-- R153, R154: with the evacuate-lockers figure at no, the walk finds nothing to do in the hall, and the sweep ends at once. -/
theorem test_alarmLevelChange_ends :
    let t := after (.alarmLevelChange true) hall
    t.sweeps.alarm = true ∧ t.sweeps.evacuation.result = some ⟨.evacuationComplete, 0, 0, 0⟩
      ∧ kinds t = [.start, .sweepDone] := by decide +kernel

/-- 7.10: a cabin with its inside bolt engaged is offered. -/
theorem test_alarmLevelChange_offers :
    let t := after (.alarmLevelChange true) (hall.modUnit 2 fun r => { r with state := .occupied, occupied := true })
    t.sweeps.evacuation.offers.b = some ⟨2, 0⟩ ∧ t.sweeps.evacuation.cursors = ⟨none, none, none, none⟩ ∧ t.arb.grantPass = true := by
  decide +kernel

/-- R119. -/
theorem test_supplyLowChange :
    let t := after (.supplyLowChange true) (loaded 1700 hall)
    t.supply.lowSeen = true ∧ t.notices.stored.getLast?.map (·.data)
      = some { kind := .supplyLow, code := .throttled true, value := some 1700 } := by decide +kernel

/-- R120: an assertion marks what is in flight. -/
theorem test_currentLimitChange :
    ((after (.currentLimitChange true) (moving .commanding)).str .a).inFlight.map (·.limited) = some true := by decide +kernel

/-- 5.9: the tick at 60 ms. -/
theorem test_drainTick : (after .drainTick (loaded 2180 hall)).supply = { hall.supply with account := 2176, throttled := true } := by
  decide +kernel

/-- R114: the flag clears at LW. -/
theorem test_drainTick_clears : (after .drainTick (loaded 604 hall)).supply = { hall.supply with account := 600 } := by decide +kernel

/-- R172. -/
theorem test_secondTick :
    let t := after .secondTick (hall.setTime { hall.time with second := 86399, valid := true })
    t.time.second = 0 ∧ kinds t = [.start, .clockRollover] := by decide +kernel

/-- R175: the tick that reaches the closing second starts a closing sweep, which offers the HELD locker. -/
theorem test_closingTime :
    let s := hall.setTime { hall.time with second := 79199, valid := true }
    let t := after .closingTime (s.setParams { s.params with time := { s.params.time with closingEnabled := true } })
    t.time.second = 79200 ∧ kinds t = [.start, .closingStarted] ∧ t.sweeps.closing.offers.a = some ⟨3, 0⟩ := by decide +kernel

/-- R177: the 240th minute of a GUEST is reported. -/
theorem test_minuteTick :
    let t := after .minuteTick (hall.modUnit 3 fun r => { r with dwell := 239 })
    (t.unit 3).dwell = 240 ∧ (t.unit 3).overstayReported = true ∧ t.notices.stored.getLast?.map (·.data)
      = some { kind := .overstay, unit := some 3, band := some 1, string := some .a, node := some 2, code := .bandClass .guest, value := some 240 } := by
  decide +kernel

/-- R36. -/
theorem test_validityCountdown :
    let t := after .validityCountdown (hall.setDir [{ band 1 .guest 1 0 [3] with validity := 1 }, { band 2 .staff 0 0 [] with validity := 9 }])
    t.dir.map (fun e => (e.validity, e.expired)) = [(0, true), (8, false)]
      ∧ t.notices.stored.getLast?.map (·.data) = some { kind := .bandExpired, band := some 1, value := some 1 } := by decide +kernel

theorem test_bandExpired :
    let t := after (.bandExpired 1) (hall.setDir [{ band 1 .guest 1 0 [3] with validity := 1 }, { band 2 .staff 0 0 [] with validity := 1 }])
    t.dir.map (fun e => (e.validity, e.expired)) = [(0, true), (1, false)] := by decide +kernel

/-- R185, R186, R194: the frame of IDENTIFY is answered. -/
theorem test_frameComplete :
    let t := after .frameComplete (arrived identifyFrame hall)
    replyBody t = [0x00, 0x02, 0x1C, 0x4E, 0x02, 0x40, 0x03] ∧ t.link.reply.map (fun f => (f.tag, f.type)) = some (7, 0x81) := by decide +kernel

theorem test_frameGapTimeout :
    let t := after .frameGapTimeout (hall.setLink { hall.link with receiver := .assembling [0] 20 })
    t.link.receiver = .hunting ∧ t.counters.framesBad = 1 := by decide +kernel

theorem test_replyEnd :
    let t := after .replyEnd (busyLink (some identifyFrame))
    t.link.inHand = some identifyFrame ∧ t.link.waiting = none ∧ status t = some 0 := by decide +kernel

/-- R196. -/
theorem test_noticeAgeTimerExpiry :
    let t := after .noticeAgeTimerExpiry hall
    t.link.state = .standalone ∧ t.link.ageTimer = .held
      ∧ t.notices.stored.getLast?.map (·.data) = some { kind := .linkState, code := .link .standalone, value := some 1 } := by decide +kernel

/-- R197: the reply carries RELINKED. -/
theorem test_identify : replyBody (after (.identify 1) (standalone hall)) = [0x00, 0x06, 0x1C, 0x4E, 0x02, 0x40, 0x03] := by decide +kernel

/-- 5.10, request 1: LW is not below HW. -/
theorem test_setParametersSupply_refused :
    let t := after (.setParametersSupply 0 300 500 4 1000 1000 2400) (loaded 2200 hall)
    status t = some 0x03 ∧ t.supply = (loaded 2200 hall).supply ∧ t.params = hall.params := by decide +kernel

/-- 5.10, request 3: 2,200 is at or below the new LW. -/
theorem test_setParametersSupply_clears :
    let t := after (.setParametersSupply 0 300 500 4 2300 2350 2400) (loaded 2200 hall)
    status t = some 0 ∧ t.supply = { hall.supply with account := 2200 } ∧ t.params.supply = ⟨300, 500, 4, 2300, 2350, 2400⟩ := by decide +kernel

/-- R127: disabling auto-recovery stops the recovery timer. -/
theorem test_setParametersStrings :
    let t := after (.setParametersStrings 0 1 9 2 400 40 0 10) (offString none)
    status t = some 0 ∧ (t.str .a).recoveryTimer = none ∧ (t.str .a).state = .off := by decide +kernel

theorem test_setParametersStrings_base_three : status (after (.setParametersStrings 0 3 9 2 400 40 0 10) hall) = some 0x03 := by decide +kernel

theorem test_setParametersTime : status (after (.setParametersTime 0 86400 1 500 0 0 0 0 0 1) hall) = some 0x03 := by decide +kernel

theorem test_setParametersLink : (after (.setParametersLink 0 120 1) hall).params.link = ⟨120, true⟩ := by decide +kernel

/-- R193: the defaults of the TIME group, in the layout of R208. -/
theorem test_getParameters :
    replyBody (after (.getParameters 0 3) hall)
      = [0, 2, 0x01, 0x35, 0x60, 0, 0x07, 0xD0, 0, 0, 240, 0, 240, 0x01, 0x2C, 0, 0, 30] := by decide +kernel

/-- R21, R22, R125: a new node on an IDLE string makes it ACTIVE, with a probe round that begins at once. -/
theorem test_configureUnit :
    let t := after (.configureUnit 0 240 1 3 60 15 2 0) (inService hall .quiesced)
    status t = some 0 ∧ (t.unit 240).state = .vacant ∧ (t.str .d).state = .active ∧ t.presence .d 60 = .absent
      ∧ (t.str .d).exchange.map (·.node) = some 60 ∧ kinds t = [.start, .stringState] := by decide +kernel

/-- R125: the last address leaves an IDLE string and a stale frame. -/
theorem test_removeUnit :
    let t := after (.removeUnit 0 2) (lastNode .quiesced)
    status t = some 0 ∧ t.unit 2 = UnitRecord.cold ∧ (t.str .b).state = .idle ∧ (t.str .b).roundTimer = none
      ∧ (t.str .b).exchange.map (·.stale) = some true := by decide +kernel

theorem test_withdrawUnit :
    (after (.withdrawUnit 0 1) hall |>.unit 1).state = .withdrawn ∧ status (after (.withdrawUnit 0 3) hall) = some 0x22 := by decide +kernel

/-- R25, R8: a bolted FREE_USE cabin returns OCCUPIED. -/
theorem test_restoreUnit :
    ((after (.restoreUnit 0 2) (hall.modUnit 2 fun r => { r with state := .withdrawn, occupied := true })).unit 2).state = .occupied := by
  decide +kernel

theorem test_markClean :
    let t := after (.markClean 0 2) (hall.modUnit 2 fun r => { r with state := .cleaning, uses := 2 })
    (t.unit 2).state = .vacant ∧ (t.unit 2).uses = 0 := by decide +kernel

/-- R209: the 30 bytes of a unit report. -/
theorem test_queryUnit :
    replyBody (after (.queryUnit 0 3) hall)
      = [0, 2] ++ [3, 3, 3, 0, 0, 2, 1, 1, 2, 0, 0, 0, 1, 0, 0, 0, 0, 0, 0, 0, 0, 0, 0, 0, 0, 2, 0, 1, 0, 0] := by decide +kernel

/-- R27: the HELD units of kind LOCKER in zone 1, each with a presence byte for its kind, zone and holder. -/
theorem test_listUnits :
    replyBody (after (.listUnits 0 0x0008 1 1 1) hall) = [0, 2, 1, 7, 3, 3, 0, 1, 0, 0, 0, 1, 0] := by decide +kernel

/-- 3.7: the registration of 14:02. -/
theorem test_registerBand :
    let t := after (.registerBand 0 0x01B7E344 0 0 240 0xFF 0xFF) hall
    status t = some 0 ∧ t.dir.map (·.id) = [1, 2, 0x01B7E344] ∧ t.band? 0x01B7E344 = some { band 0x01B7E344 .guest 1 0 [] with validity := 240 } := by
  decide +kernel

/-- R45: a change to STAFF without allowances is refused while the band holds a unit. -/
theorem test_amendBand :
    status (after (.amendBand 0 1 1 3 0 0 0 0) hall) = some 0x14
      ∧ (after (.amendBand 0 1 0x14 0 0 2 0 9) hall).band? 1 = some { band 1 .guest 2 0 [3] with validity := 9 } := by decide +kernel

/-- R48: FORCE leaves the HELD locker FORFEITED. -/
theorem test_checkOutBand :
    let t := after (.checkOutBand 0 1 1) hall
    replyBody t = [0, 2, 1, 3, 0, 8] ∧ (t.unit 3).holder = none ∧ t.dir.map (·.id) = [2] := by decide +kernel

/-- R47: NORMAL is refused with the unit. -/
theorem test_checkOutBand_normal : replyBody (after (.checkOutBand 0 1 0) hall) = [0x13, 2, 1, 3] := by decide +kernel

theorem test_reportLost :
    ((after (.reportLost 0 1) hall).band? 1).map (·.lost) = some true ∧ status (after (.reportLost 0 9) hall) = some 0x10 := by decide +kernel

/-- R50: a STAFF band takes no holding; R51: a GUEST band does. -/
theorem test_transferHoldings :
    let t := after (.transferHoldings 0 1 5) (hall.setDir (hall.dir ++ [band 5 .guest 1 0 []]))
    status (after (.transferHoldings 0 1 2) hall) = some 0x14 ∧ t.dir.map (·.holdings) = [[], [], [3]] ∧ (t.unit 3).holder = some 5 := by
  decide +kernel

/-- R209: the band report. -/
theorem test_queryBand :
    replyBody (after (.queryBand 0 1) hall) = [0, 2, 0, 0, 0, 1, 0, 0, 1, 0, 0, 0, 0, 0, 0, 1, 3, 0, 3] := by decide +kernel

theorem test_listBands :
    replyBody (after (.listBands 0 8 1) hall) = [0, 2, 1, 0, 0, 0, 1, 0, 0, 0, 0, 0, 1, 0, 0, 0, 0] := by decide +kernel

/-- R54, R208: one band holds a unit, band 1, and the count takes one byte. -/
theorem test_clearDirectory :
    status (after (.clearDirectory 0) hall) = some 0x23
      ∧ replyBody (after (.clearDirectory 0) (inService hall .quiesced)) = [0x13, 2, 1, 0, 0, 0, 1] := by decide +kernel

/-- R84, R85, R5. -/
theorem test_demand :
    let t := after (.demand 0 3 0) hall
    replyBody t = [0, 2, 1] ∧ (t.unit 3).state = .unlocking ∧ (t.unit 3).intent = some ⟨.staffOpen, .held, none⟩
      ∧ t.arb.queue.map (fun r => (r.unit, r.tag)) = [(3, some 1)] ∧ t.arb.nextTag = 2 := by decide +kernel

/-- R86: FREE at an OPEN_HELD unit releases it in the act. -/
theorem test_demand_free :
    let t := after (.demand 0 3 2) (hall.modUnit 3 fun r => { r with state := .openHeld })
    (t.unit 3).state = .vacant ∧ (t.unit 3).holder = none ∧ t.arb.demands = [] ∧ kinds t = [.start, .demandDone] := by decide +kernel

theorem test_cancelDemand :
    let t := after (.cancelDemand 0 1) queued
    status t = some 0 ∧ (t.unit 3).state = .held ∧ t.arb.queue = [] ∧ t.arb.demands = [] ∧ kinds t = [.start] := by decide +kernel

theorem test_quiesce :
    replyBody (after (.quiesce 0) (moving .commanding)) = [0, 2, 1]
      ∧ kinds (after (.quiesce 0) queued) = [.start, .quiesced] := by decide +kernel

theorem test_resume :
    let t := after (.resume 0) (inService hall .quiescing)
    t.arb.service = .running ∧ t.arb.grantPass = true := by decide +kernel

theorem test_queryDispatch : status (after (.queryDispatch 0 33) hall) = some 0x03 := by decide +kernel

/-- R122: from 2,200 the flag clears in 400 ticks; a locker fits in 25 ticks and a cabin in 75, as 5.10 counts them. -/
theorem test_querySupply :
    (replyBody (after (.querySupply 0 0) (loaded 2200 hall))).drop 22
      = [0, 200] ++ [0, 0, 0x01, 0x90] ++ [0, 0, 0, 25] ++ [0, 0, 0, 75] := by decide +kernel

theorem test_restartString :
    status (after (.restartString 0 0) hall) = some 0x40 ∧ ((after (.restartString 0 0) (offString none)).str .a).state = .active := by
  decide +kernel

/-- R92: a queued demand of the string closes CANCELLED. -/
theorem test_resetString :
    let t := after (.resetString 0 0) queued
    status t = some 0 ∧ (t.unit 3).state = .held ∧ t.notices.stored.getLast?.map (·.data.code) = some (.demand .cancelled)
      ∧ t.presence .a 2 = .absent := by decide +kernel

/-- R128, R150, R208: the score 0, a round period of 128 + 9 × 8 = 200 ms, and round count 0; two node entries of 14 bytes, each mark and latch a flag of
its own byte. -/
theorem test_queryString :
    let s := hall.modNode .a 1 fun n => { n with readerMark := true, actuatorLatch := true }
    let body := replyBody (after (.queryString 0 0 1 0) s)
    body.take 11 = [0, 2, 1, 0, 0, 0, 0, 0, 200, 0, 1] ∧ body.length = 64
      ∧ (body.drop 34).take 15 = [2, 0, 1, 1, 1, 0, 2, 3, 2, 0, 0, 1, 0, 0, 1] := by decide +kernel

theorem test_releaseZone :
    let t := after (.releaseZone 0 1 1) hall
    status t = some 0 ∧ t.sweeps.closing.offers.a = some ⟨3, 0⟩ ∧ t.arb.urgencyTimer = some 2000
      ∧ kinds t = [.start, .closingStarted] := by decide +kernel

theorem test_stopSweep :
    let t := after (.stopSweep 0) offering
    status (after (.stopSweep 0) hall) = some 0x42 ∧ t.sweeps.closing.result = some ⟨.closingStopped, 0, 0, 0⟩
      ∧ t.arb.urgencyTimer = none := by decide +kernel

theorem test_querySweep : status (after (.querySweep 0 2) hall) = some 0x03 := by decide +kernel

theorem test_setClock :
    let t := after (.setClock 0 86399) hall
    replyBody t = [0, 2, 0, 0, 0, 0] ∧ t.time.second = 86399 ∧ t.time.valid = true := by decide +kernel

/-- R180: 60,000 ms to the minute tick and the closing second 79,200 of a clock that is not set. -/
theorem test_queryClock :
    replyBody (after (.queryClock 0) hall)
      = [0, 2, 0, 0, 0, 0] ++ [0, 0, 0, 0] ++ [0, 0, 0, 0] ++ [0, 0, 0x03, 0xE8] ++ [0, 0, 0xEA, 0x60]
        ++ [0x01, 0x35, 0x60, 0] ++ [0, 0, 0, 0, 0] ++ [0] := by decide +kernel

/-- R201, R209: the START notice of a cold start as a record of 15 bytes. -/
theorem test_fetchNotices :
    let t := after (.fetchNotices 0 16) hall
    replyBody t = [0, 0, 0, 1, 0] ++ [0, 0, 23, 0xFF, 0xFF, 0xFF, 0, 0, 0, 0, 0, 0, 0, 0, 0] ∧ t.notices.attn = false
      ∧ t.link.ageTimer = .preset := by decide +kernel

theorem test_setNoticeEnables : replyBody (after (.setNoticeEnables 0 1) hall) = [0, 2, 0x80, 0, 1] := by decide +kernel

theorem test_census : replyBody (after (.census 0) hall) = [0, 2, 0, 1, 0, 0, 0, 0] := by decide +kernel

theorem test_readCensus : status (after (.readCensus 0 0) hall) = some 0x04 := by decide +kernel

theorem test_clearCounters : status (after (.clearCounters 0 16) hall) = some 0x03 := by decide +kernel

/-- R129, R131, R210: a round starts with a poll of the lowest address, whose command frame is 6 bytes. -/
theorem test_roundTimerExpiry :
    let t := after (.roundTimerExpiry .a) (hall.setStr .a { hall.str .a with inRound := false })
    ((t.str .a).lineOut.take 5) = [1, 3, 0, 0xFF, 0] ∧ (t.str .a).roundTimer = some 200 := by decide +kernel

/-- 3.7: a new read is acknowledged and handed on. R129, R203: at the last poll of a round that is late the overrun is counted and the next round
begins in the same act, also where a gap of 0 holds the line. -/
theorem test_nodeReplyGood :
    let s := (moving .settling).setParams { hall.params with strings := { hall.params.strings with gap := 0 } }
    let t := after (.nodeReplyGood .a (replyFrame 2 (quiet none (some (4, 1))))) (s.setStr .a { s.str .a with cursor := some 2, roundTimer := none })
    (t.node? .a 2).map (·.lastSeq) = some (some 4) ∧ t.decisions.map (fun d => (d.unit, d.band)) = [(3, 1)]
      ∧ t.counters.strings.a.overruns = 1 ∧ (t.str .a).roundTimer = some 200 ∧ (t.str .a).inRound = true
      ∧ (t.str .a).held = true ∧ (t.str .a).exchange = none := by decide +kernel

/-- R10 to R13: the demand's OPEN completes, and the holder is kept. -/
theorem test_nodeReplyGood_completes :
    let t := after (.nodeReplyGood .a (replyFrame 2 (quiet none none))) (moving .settling)
    (t.unit 3).state = .openHeld ∧ (t.unit 3).holder = some 1 ∧ t.arb.demands = [] ∧ (t.str .a).gapTimer = some 40
      ∧ kinds t = [.start, .actuationDone, .demandDone] := by decide +kernel

/-- 6.9: a miss adds 8, and makes a PRESENT node SILENT. -/
theorem test_nodeMiss :
    let t := after (.nodeMiss .a []) polled
    (t.str .a).score = 8 ∧ t.presence .a 1 = .silent := by decide +kernel

/-- 6.9: the third miss loses the node, and the guest unlock that waits for it. -/
theorem test_nodeMiss_third :
    let s := guestQueued.setStr .a
      { guestQueued.str .a with nodes := [present 1, { present 2 with presence := .silent, misses := 2 }], exchange := some (sent 2 .poll) }
    let t := after (.nodeMiss .a []) s
    t.presence .a 2 = .absent ∧ (t.unit 3).state = .held ∧ t.arb.queue = [] ∧ kinds t = [.start, .nodeLost, .guestWithdrawn] := by decide +kernel

theorem test_recoveryTimerExpiry :
    let t := after (.recoveryTimerExpiry .a) (offString none)
    (t.str .a).state = .active ∧ (t.str .a).score = 0 ∧ (t.str .a).exchange.map (·.node) = some 1 := by decide +kernel

/-- R144: a settle that runs out is JAMMED. -/
theorem test_settleTimerExpiry :
    let t := after (.settleTimerExpiry .a) (moving .settling)
    (t.unit 3).state = .jammed ∧ (t.unit 3).last = some .jammed ∧ (t.str .a).inFlight = none ∧ t.counters.jammed = 1 := by decide +kernel

/-- R147: with a gap of 0 the grant pass comes before the line's next exchange, also in a round. -/
theorem test_settleTimerExpiry_no_gap :
    let s := (moving .settling).setParams { hall.params with strings := { hall.params.strings with gap := 0 } }
    let t := after (.settleTimerExpiry .a) (s.setStr .a { s.str .a with exchange := none })
    (t.str .a).held = true ∧ (t.str .a).exchange = none ∧ t.arb.grantPass = true := by decide +kernel

/-- R147: the grant that the held line waited for is its next exchange, ahead of the round's poll. -/
theorem test_grantRecord_held :
    let t := after .grantRecord (holding .a queued)
    (t.str .a).held = false ∧ (t.str .a).exchange.map (·.command) = some (.actuate .unlock) := by decide +kernel

theorem test_gapTimerExpiry :
    let t := after (.gapTimerExpiry .a) (hall.setStr .a { hall.str .a with gapTimer := some 0 })
    (t.str .a).gapTimer = none ∧ t.arb.grantPass = true := by decide +kernel

/-- 3.7, 17:35: an unknown band while the link is LINKED. -/
theorem test_presentationLookup :
    let t := after (.presentationLookup .a 1) (deciding 9 .lookup)
    t.decisions = [] ∧ (t.node? .a 1).map (·.pending) = some .red ∧ t.counters.refused = 1
      ∧ t.notices.stored.getLast?.map (·.data.code) = some (.outcome .unknownBand) := by decide +kernel

/-- R38: the entry of an admitted band. -/
theorem test_standaloneAdmission :
    (after (.standaloneAdmission .a 1) (deciding 9 .admission)).band? 9 = some { band 9 .guest 1 0 [] with provisional := true } := by decide +kernel

/-- 3.7, 14:09: the unit act binds and queues. -/
theorem test_presentationUnitAct :
    let t := after (.presentationUnitAct .a 1) ((deciding 5 .unitAct).setDir [band 5 .guest 1 0 []])
    (t.unit 1).state = .locking ∧ (t.unit 1).holder = some 5 ∧ t.dir = [band 5 .guest 1 0 [1]]
      ∧ t.arb.queue.map (fun r => (r.unit, r.origin)) = [(1, .guestLock)] ∧ (t.node? .a 1).map (·.pending) = some .green := by decide +kernel

/-- R67: band 1 already holds its one locker. -/
theorem test_presentationUnitAct_allowance :
    (after (.presentationUnitAct .a 1) (deciding 1 .unitAct)).notices.stored.getLast?.map (·.data.code)
      = some (.outcome .allowanceUsed) := by decide +kernel

theorem test_grantRecord :
    let t := after .grantRecord queued
    t.supply.account = 300 ∧ (t.str .a).inFlight = some (flight .commanding) ∧ t.arb.demands.map (·.inFlight) = [true]
      ∧ (t.str .a).exchange.map (·.command) = some (.actuate .unlock) := by decide +kernel

theorem test_grantSweepCandidate :
    let t := after .grantSweepCandidate offering
    (t.unit 3).state = .unlocking ∧ (t.unit 3).intent = some ⟨.closing, .held, none⟩ ∧ t.sweeps.closing.issued = 1
      ∧ t.sweeps.closing.offers.a = none ∧ t.arb.urgencyTimer = none := by decide +kernel

/-- R161: a locker that opened meanwhile is released at the hand-back. -/
theorem test_grantSweepCandidate_handed_back :
    let t := after .grantSweepCandidate offeringOpened
    (t.unit 3).state = .vacant ∧ (t.unit 3).holder = none ∧ t.supply.account = 0 ∧ kinds t = [.start, .unitReleased, .sweepDone] := by
  decide +kernel

theorem test_closingUrgencyTimerExpiry :
    let t := after .closingUrgencyTimerExpiry offering
    t.arb.urgent = true ∧ t.arb.urgencyTimer = none := by decide +kernel

theorem test_sweepWalk :
    let t := after (.sweepWalk .closing .a) (cursorAt 1)
    t.sweeps.closing.offers.a = some ⟨3, 0⟩ ∧ t.sweeps.closing.cursors.a = none := by decide +kernel

theorem test_pauseTimerExpiry :
    let t := after (.pauseTimerExpiry .closing) (hall.setSlot .closing pausedSlot)
    t.sweeps.closing.pass = 2 ∧ t.sweeps.closing.visit = [3] ∧ t.sweeps.closing.offers.a = some ⟨3, 0⟩ := by decide +kernel

theorem test_characterReceived :
    (after (.characterReceived 0xC3 false) hall).link.receiver = .assembling [] 20
      ∧ (after (.characterReceived 0xC3 true) hall).link.receiver = .hunting := by decide +kernel

theorem test_mainPowerLoss : (after (.mainPowerLoss true) hall).power = ⟨false, false⟩ := by decide +kernel

theorem test_retLoss : (after .retLoss (dark hall)).power = ⟨false, false⟩ := by decide +kernel

/-! ## Shared operations -/

/-- R19: a DEMAND OPEN before the first report leaves the minutes of a cabin OCCUPIED at the start, and a cabin that begins a use starts at 0. -/
theorem test_reportInside :
    let r := { hall.unit 2 with occupancy := 7, state := .unlocking, intent := some ⟨.staffOpen, .occupied, none⟩ }
    (reportInside r .engaged).occupancy = 7 ∧ (reportInside { r with intent := some ⟨.staffOpen, .withdrawn, none⟩ } .engaged).occupancy = 0 := by
  decide +kernel

/-- R91, R138: every guest record of a string that goes OFF is withdrawn with STRING_OFF, though an evacuation walk resumes. -/
theorem test_goOff :
    let t := bothOffered.goOff .a
    (t.notices.stored.filter (·.data.kind == .guestWithdrawn)).map (·.data.code) = [.withdrawn .stringOff]
      ∧ (t.slot .evacuation).offers.a = none ∧ (t.slot .closing).offers.a = none ∧ (t.str .a).state = .off := by decide +kernel

/-! ## Figures of the frames -/

/-- R207: the check value of the CRC-16. -/
theorem test_crc16 : crc16 [0x31, 0x32, 0x33, 0x34, 0x35, 0x36, 0x37, 0x38, 0x39] = 0x29B1 := by decide +kernel

/-- R211: the check value of the CRC-8. -/
theorem test_crc8 : crc8 [0x31, 0x32, 0x33, 0x34, 0x35, 0x36, 0x37, 0x38, 0x39] = 0xF4 := by decide +kernel

end Sys2Proof.Tests
end

section
/-! PROOF. How a request is answered, whichever it is: the state in which its owner acts, and the reply that the owner's answer becomes (R186, R187). -/

namespace Sys2Proof.Machine

/-! ## The state in which the owner acts -/

theorem taken_eq_linkReturn (s : State) (i : Instr) : s.taken i = (s.setLink { s.link with inHand := i.frame? }).linkReturn := rfl

/-- The directory and the units are as they were: taking a frame in hand posts at most a notice. -/
theorem changes_taken (s : State) (i : Instr) : Changes [.link, .notices, .counters] s (s.taken i) := by
  rw [taken_eq_linkReturn]
  simp

@[simp] theorem State.taken_dir (s : State) (i : Instr) : (s.taken i).dir = s.dir := changes_taken s i .dir (by decide)

@[simp] theorem State.taken_units (s : State) (i : Instr) : (s.taken i).units = s.units := changes_taken s i .units (by decide)

/-! ## What rests on the units alone -/

theorem State.unit_congr {s t : State} (h : t.units = s.units) (u : Nat) : t.unit u = s.unit u := by
  simp only [State.unit, h]

/-! ## The reply -/

/-- The state in which a request stands once its owner's answer has become its reply. -/
def State.answered (s : State) (i : Instr) (r : State × Answer) : State := i.reply s r.1 r.2.status r.2.content

@[simp] theorem State.answered_ok (s t : State) (i : Instr) (content : List Byte) : s.answered i (t.ok content) = i.reply s t .ok content := rfl

@[simp] theorem State.answered_refuse (s t : State) (i : Instr) (status : Status) : s.answered i (t.refuse status) = i.reply s t status [] := rfl

@[simp] theorem State.answered_ite (s : State) (i : Instr) (c : Prop) [Decidable c] (r q : State × Answer) :
    s.answered i (if c then r else q) = if c then s.answered i r else s.answered i q :=
  apply_ite (s.answered i) c r q

/-- The link flags, laid out as bits or as a sum (R187). -/
theorem linkFlags_eq_sum (s : State) (relinked : Bool) :
    s.linkFlags relinked = s.link.overrun.toNat + 2 * (!s.notices.stored.isEmpty).toNat + 4 * relinked.toNat := by
  simp only [State.linkFlags, bits]
  omega

theorem formReply_eq_reply {i : Instr} {f : Frame} (hf : i.frame? = some f) (s t : State) (a : Answer) :
    t.formReply f a (s.link.state == .standalone) = i.reply s t a.status a.content := by
  simp only [State.formReply, State.replyBody, linkFlags_eq_sum, Instr.reply, hf]
  rfl

/-- Under power a request is its owner's act in the state in which the frame has been taken, answered. -/
theorem whenOn_takeInHand {s : State} (on : s.power.on = true) {i : Instr} {f : Frame} (hf : i.frame? = some f)
    (act : State → State × Answer) : (s.whenOn fun s => s.takeInHand f act) = s.answered i (act (s.taken i)) := by
  rw [State.whenOn, if_pos on, State.takeInHand, ← hf, ← taken_eq_linkReturn]
  exact formReply_eq_reply hf s _ _

end Sys2Proof.Machine
end

section
/-! PROOF. The class and the allowances that a band request names (R32, R34, R208). -/

namespace Sys2Proof.Machine

/-- The class that a class byte within its range names. -/
def namedClass (b : Byte) : BandClass := if b = 0 then .guest else if b = 1 then .child else if b = 2 then .family else .staff

/-- Within the range of R207, the byte of a class is one of four. -/
theorem classByte_cases {b : Byte} (h : b.toNat ≤ 3) : b = 0 ∨ b = 1 ∨ b = 2 ∨ b = 3 := by bv_omega

theorem class?_eq_some {b : Byte} (h : b.toNat ≤ 3) : class? b = some (namedClass b) := by
  obtain rfl | rfl | rfl | rfl := classByte_cases h <;> rfl

theorem class?_eq_none {b : Byte} (h : 3 < b.toNat) : class? b = none := by
  unfold class?
  split
  case h_5 => rfl
  all_goals omega

theorem class?_isNone_iff (b : Byte) : (class? b).isNone = true ↔ 3 < b.toNat := by
  obtain h | h := Nat.lt_or_ge 3 b.toNat
  · simp [class?_eq_none h, h]
  · simp [class?_eq_some h, h]

theorem namedClass_eq_staff_iff {b : Byte} (h : b.toNat ≤ 3) : namedClass b = .staff ↔ b.toNat = 3 := by
  obtain rfl | rfl | rfl | rfl := classByte_cases h <;> decide

/-- The default number of lockers, by the byte of the class (R34). -/
theorem namedClass_default_locker {b : Byte} (h : b.toNat ≤ 3) :
    (namedClass b).default .locker = if b = 2 then 3 else if b = 3 then 0 else 1 := by
  obtain rfl | rfl | rfl | rfl := classByte_cases h <;> rfl

/-- The default number of cabins, by the byte of the class (R34). -/
theorem namedClass_default_cabin {b : Byte} (h : b.toNat ≤ 3) : (namedClass b).default .cabin = if b = 2 then 1 else 0 := by
  obtain rfl | rfl | rfl | rfl := classByte_cases h <;> rfl

theorem given?_within_iff (b : Byte) (n : Nat) : (given? b).elim false (n < ·) = false ↔ b = 0xFF#8 ∨ b.toNat ≤ n := by
  unfold given?
  split <;> simp [*]

theorem given?_none_named_iff (b : Byte) : (given? b).elim false (0 < ·) = false ↔ b = 0xFF#8 ∨ b = 0 := by
  rw [given?_within_iff]
  bv_omega

theorem given?_getD (b : Byte) (n : Nat) : (given? b).getD n = if b = 0xFF#8 then n else b.toNat := by
  unfold given?
  split <;> rfl

end Sys2Proof.Machine
end

section
/-! PROOF. REGISTER_BAND (R43, R44). -/

namespace Sys2Proof.Machine

/-- An entry takes its place after every entry whose band ID is not higher (R33). -/
theorem insertBand_eq_takeWhile (e : Band) (dir : List Band) :
    insertBand e dir = dir.takeWhile (·.id ≤ e.id) ++ e :: dir.dropWhile (·.id ≤ e.id) := by
  induction dir with
  | nil => rfl
  | cons x rest ih =>
    rw [insertBand]
    by_cases first : e.id < x.id
    · simp [first, BitVec.not_le.mpr first]
    · simp [first, BitVec.not_lt.mp first, ih]

theorem band?_isSome (s : State) (b : BandId) : (s.band? b).isSome = s.dir.any (·.id == b) := by
  rw [Bool.eq_iff_iff, State.band?, List.find?_isSome, List.any_eq_true]

/-- The figures that check 1 of R43 lets pass. -/
def RegisterSound (band : BandId) (cls : Byte) (validity : BitVec 16) (lockers cabins : Byte) : Prop :=
  band ≠ 0 ∧ cls.toNat ≤ 3 ∧ validity.toNat ≤ 1440 ∧ (lockers = 0xFF#8 ∨ lockers.toNat ≤ 3) ∧ (cabins = 0xFF#8 ∨ cabins.toNat ≤ 1)
    ∧ (cls.toNat = 3 → (lockers = 0xFF#8 ∨ lockers = 0) ∧ (cabins = 0xFF#8 ∨ cabins = 0))

/-- The entry that R44 makes. -/
def registered (band : BandId) (cls group : Byte) (validity : BitVec 16) (lockers cabins : Byte) : Band :=
  { id := band
    cls := namedClass cls
    group := group.toNat
    lockers := if lockers = 0xFF#8 then (if cls = 2 then 3 else if cls = 3 then 0 else 1) else lockers.toNat
    cabins := if cabins = 0xFF#8 then (if cls = 2 then 1 else 0) else cabins.toNat
    validity := validity.toNat, expired := false, lost := false, provisional := false, holdings := [] }

theorem registerBad_eq_false_iff (c : BandClass) (validity : Nat) (lockers cabins : Byte) :
    registerBad c validity (given? lockers) (given? cabins) = false ↔
      validity ≤ 1440 ∧ (lockers = 0xFF#8 ∨ lockers.toNat ≤ 3) ∧ (cabins = 0xFF#8 ∨ cabins.toNat ≤ 1)
        ∧ (c = .staff → (lockers = 0xFF#8 ∨ lockers = 0) ∧ (cabins = 0xFF#8 ∨ cabins = 0)) := by
  simp only [registerBad, Bool.or_eq_false_iff, Bool.and_eq_false_iff, given?_within_iff _ 3, given?_within_iff _ 1, given?_none_named_iff,
    decide_eq_false_iff_not, not_lt, beq_eq_false_iff_ne]
  tauto

section
variable {band : BandId} {cls group : Byte} {validity : BitVec 16} {lockers cabins : Byte}

/-- Check 1 of R43 on a class byte within its range. -/
theorem registerSound_iff (h : cls.toNat ≤ 3) : RegisterSound band cls validity lockers cabins ↔
    ¬(band = 0 ∨ registerBad (namedClass cls) validity.toNat (given? lockers) (given? cabins) = true) := by
  rw [not_or, Bool.not_eq_true, registerBad_eq_false_iff, namedClass_eq_staff_iff h, RegisterSound]
  tauto

theorem registerBand_of_not_sound (unsound : ¬RegisterSound band cls validity lockers cabins) (s : State) :
    registerBand band cls group validity lockers cabins s = s.refuse .badValue := by
  unfold registerBand
  obtain h | h := Nat.lt_or_ge 3 cls.toNat
  · rw [class?_eq_none h]
  · rw [class?_eq_some h]
    exact if_pos (not_not.mp (unsound ∘ (registerSound_iff h).mpr))

theorem registerBand_of_sound (sound : RegisterSound band cls validity lockers cabins) (s : State) :
    registerBand band cls group validity lockers cabins s =
      if s.dir.any (·.id == band) = true then s.refuse .alreadyRegistered
      else if 1024 ≤ s.dir.length then s.refuse .directoryFull
      else (s.setDir (s.dir.takeWhile (·.id ≤ band) ++ registered band cls group validity lockers cabins :: s.dir.dropWhile (·.id ≤ band))).ok [] := by
  have ⟨_, h, _⟩ := sound
  unfold registerBand
  rw [class?_eq_some h]
  dsimp only
  rw [if_neg ((registerSound_iff h).mp sound), band?_isSome, insertBand_eq_takeWhile, given?_getD, given?_getD, namedClass_default_locker h,
    namedClass_default_cabin h]
  rfl

end

theorem exec_registerBand {s : State} (on : s.power.on = true) (tag : Byte) (band : BandId) (cls group : Byte) (validity : BitVec 16)
    (lockers cabins : Byte) :
    let i := Instr.registerBand tag band cls group validity lockers cabins
    exec i s = .next (s.answered i (registerBand band cls group validity lockers cabins (s.taken i))) :=
  congrArg Host.Outcome.next (whenOn_takeInHand on rfl _)

/-- Settles O32: check 1 of R43 decides between the two equations of `registerBand`, and the rest of the Directory's checks follow in their order. -/
theorem registerBandMakesAnEntry : Obligations.RegisterBandMakesAnEntry := by
  intro s tag band cls group validity lockers cabins on i o sound e
  rw [exec_registerBand on]
  refine ⟨fun unsound => ?_, fun ok there => ?_, fun ok new full => ?_, fun ok new free => ?_⟩
  · rw [registerBand_of_not_sound unsound, State.answered_refuse]
  · rw [registerBand_of_sound ok, State.taken_dir, if_pos there, State.answered_refuse]
  · rw [registerBand_of_sound ok, State.taken_dir, if_neg (by simp [new]), if_pos full, State.answered_refuse]
  · rw [registerBand_of_sound ok, State.taken_dir, if_neg (by simp [new]), if_neg (not_le.mpr free), State.answered_ok]
    rfl

end Sys2Proof.Machine
end

section
/-! PROOF. The band report of R209, as the model lays it out and as the statements do. -/

namespace Sys2Proof.Machine

theorem u8_classCode (c : BandClass) : u8 (classCode c) = classByte c := by cases c <;> rfl

theorem u8_kindCode (k : UnitKind) : u8 (kindCode k) = kindByte k := by cases k <;> rfl

theorem u8_stateCode (st : UnitState) : u8 (stateCode st) = stateByte st := by cases st <;> rfl

theorem Band.marks_eq_marksByte (e : Band) : e.marks = e.marksByte := by
  simp only [Band.marks, Band.marksByte, bits]
  congr 1
  omega

theorem kindCount_eq_heldOf (s : State) (k : UnitKind) (us : List Nat) : s.kindCount k us = s.heldOf us k := by
  refine List.countP_congr fun u _ => ?_
  unfold State.unitKind
  cases (s.unit u).config <;> simp

theorem holdingBytes_eq (s : State) (u : Nat) : s.holdingBytes u =
    u8 u ++ (s.unit u).config.elim (zeros 1) (fun c => kindByte c.kind) ++ stateByte (s.unit u).state := by
  unfold State.holdingBytes State.unitKind
  rw [u8_stateCode]
  cases (s.unit u).config with
  | none => rfl
  | some c => simp only [Option.map_some, Option.elim_some, u8_kindCode]

theorem holdingsBytes_eq_holdingsListed (s : State) (us : List Nat) : s.holdingsBytes us = s.holdingsListed us := by
  simp only [State.holdingsBytes, entries, State.holdingsListed, ← holdingBytes_eq]

theorem bandReport_eq_bandBytes (s : State) (e : Band) : s.bandReport e = s.bandBytes e := by
  simp only [State.bandReport, State.bandBytes, u8_classCode, Band.marks_eq_marksByte, kindCount_eq_heldOf, holdingsBytes_eq_holdingsListed]

/-- What a kind counts among holdings rests on the units alone. -/
theorem State.heldOf_congr {s t : State} (h : t.units = s.units) (us : List Nat) (k : UnitKind) : t.heldOf us k = s.heldOf us k := by
  simp only [State.heldOf, State.unit_congr h]

end Sys2Proof.Machine
end

section
/-! PROOF. AMEND_BAND (R45, R46). -/

namespace Sys2Proof.Machine

/-- The values that check 1 of R45 refuses. -/
def AmendBad (band : BandId) (named cls lockers cabins : Byte) (validity : BitVec 16) : Prop :=
  band = 0 ∨ (named.getLsbD 0 = true ∧ 3 < cls.toNat) ∨ (named.getLsbD 2 = true ∧ 3 < lockers.toNat)
    ∨ (named.getLsbD 3 = true ∧ 1 < cabins.toNat) ∨ (named.getLsbD 4 = true ∧ 1440 < validity.toNat)

/-- The entry with the named items and the resulting allowances written (R46). -/
def amended (named cls group lockers cabins : Byte) (validity : BitVec 16) (e : Band) : Band :=
  { e with
    cls := if named.getLsbD 0 then namedClass cls else e.cls
    group := if named.getLsbD 1 then group.toNat else e.group
    lockers := if named.getLsbD 2 then lockers.toNat
      else if named.getLsbD 0 then (match namedClass cls with | .family => 3 | .staff => 0 | _ => 1) else e.lockers
    cabins := if named.getLsbD 3 then cabins.toNat
      else if named.getLsbD 0 then (match namedClass cls with | .family => 1 | _ => 0) else e.cabins
    validity := if named.getLsbD 4 then validity.toNat else e.validity
    expired := if named.getLsbD 4 then false else e.expired
    provisional := false }

theorem BandClass.default_locker (c : BandClass) : c.default .locker = match c with | .family => 3 | .staff => 0 | _ => 1 := by
  cases c <;> rfl

theorem BandClass.default_cabin (c : BandClass) : c.default .cabin = match c with | .family => 1 | _ => 0 := by cases c <;> rfl

/-- An item stands where its bit of the named byte is set: a test of it is a test of the bit and of the value. -/
theorem ite_some_elim {α : Type} (b : Bool) (x : α) (p : α → Bool) :
    (if b = true then some x else none).elim false p = (b && p x) := by
  cases b <;> rfl

theorem ite_some_getD {α : Type} (b : Bool) (x y : α) : (if b = true then some x else none).getD y = if b = true then x else y := by
  cases b <;> rfl

section
variable {band : BandId} {named cls group lockers cabins : Byte} {validity : BitVec 16}

theorem amendBad_iff : AmendBad band named cls lockers cabins validity ↔
    band = 0 ∨ (amendment named cls group lockers cabins validity).bad = true := by
  simp only [AmendBad, Amendment.bad, amendment, ite_some_elim, Bool.or_eq_true, Bool.and_eq_true, class?_isNone_iff, decide_eq_true_eq, or_assoc]

theorem Amendment.resultAllowance_locker (a : Amendment) (e : Band) :
    a.resultAllowance e .locker = a.lockers.getD (if a.cls.isSome then (a.resultClass e).default .locker else e.lockers) := by
  unfold Amendment.resultAllowance
  cases a.lockers <;> rfl

theorem Amendment.resultAllowance_cabin (a : Amendment) (e : Band) :
    a.resultAllowance e .cabin = a.cabins.getD (if a.cls.isSome then (a.resultClass e).default .cabin else e.cabins) := by
  unfold Amendment.resultAllowance
  cases a.cabins <;> rfl

theorem amendment_cls_isSome : (amendment named cls group lockers cabins validity).cls.isSome = named.getLsbD 0 := by
  unfold amendment
  cases named.getLsbD 0 <;> rfl

theorem amendment_validity_isSome : (amendment named cls group lockers cabins validity).validity.isSome = named.getLsbD 4 := by
  unfold amendment
  cases named.getLsbD 4 <;> rfl

theorem amendment_resultClass (fine : named.getLsbD 0 = true → cls.toNat ≤ 3) (e : Band) :
    (amendment named cls group lockers cabins validity).resultClass e = if named.getLsbD 0 then namedClass cls else e.cls := by
  unfold Amendment.resultClass amendment
  split
  case isTrue h => simp [class?_eq_some (fine h)]
  case isFalse => rfl

/-- The defaults of a newly named class replace the allowances that are not named; without a named class they stay (R45). -/
theorem amendment_default (fine : named.getLsbD 0 = true → cls.toNat ≤ 3) (e : Band) (k : UnitKind) (present : Nat) :
    let a := amendment named cls group lockers cabins validity
    (if a.cls.isSome then (a.resultClass e).default k else present) = if named.getLsbD 0 then (namedClass cls).default k else present := by
  dsimp only
  rw [amendment_cls_isSome, amendment_resultClass fine]
  split <;> rfl

theorem amendment_apply (fine : named.getLsbD 0 = true → cls.toNat ≤ 3) (e : Band) :
    (amendment named cls group lockers cabins validity).apply e = amended named cls group lockers cabins validity e := by
  rw [Amendment.apply, Amendment.resultAllowance_locker, Amendment.resultAllowance_cabin, amendment_default fine, amendment_default fine,
    amendment_resultClass fine, amendment_validity_isSome, BandClass.default_locker, BandClass.default_cabin]
  simp only [amendment, ite_some_getD]
  rfl

/-- Check 3 of R45. -/
theorem amendment_staffAllowance_iff (fine : named.getLsbD 0 = true → cls.toNat ≤ 3) (e : Band) :
    (amendment named cls group lockers cabins validity).staffAllowance e = true ↔
      (amended named cls group lockers cabins validity e).cls = .staff
        ∧ ((named.getLsbD 2 = true ∧ 0 < lockers.toNat) ∨ (named.getLsbD 3 = true ∧ 0 < cabins.toNat)) := by
  rw [← amendment_apply fine]
  simp [Amendment.staffAllowance, Amendment.apply, amendment, ite_some_elim]

theorem amendBand_of_bad (bad : AmendBad band named cls lockers cabins validity) (s : State) :
    amendBand band (amendment named cls group lockers cabins validity) s = s.refuse .badValue :=
  if_pos (amendBad_iff.mp bad)

theorem amendBand_of_absent (fine : ¬AmendBad band named cls lockers cabins validity) {s : State} (absent : s.dir.find? (·.id == band) = none) :
    amendBand band (amendment named cls group lockers cabins validity) s = s.refuse .noSuchBand := by
  rw [amendBand, if_neg (fine ∘ amendBad_iff.mpr), State.band?, absent]

/-- An AMEND_BAND that check 1 lets pass, of a registered band: checks 3 and 4 of R45, and the effect of R46. -/
theorem amendBand_of_found (fine : ¬AmendBad band named cls lockers cabins validity) {s : State} {e : Band}
    (found : s.dir.find? (·.id == band) = some e) :
    let result := amended named cls group lockers cabins validity
    amendBand band (amendment named cls group lockers cabins validity) s =
      if (result e).cls = .staff ∧ ((named.getLsbD 2 = true ∧ 0 < lockers.toNat) ∨ (named.getLsbD 3 = true ∧ 0 < cabins.toNat)) then
        s.refuse .badValue
      else if (result e).lockers < s.heldOf e.holdings .locker ∨ (result e).cabins < s.heldOf e.holdings .cabin then s.refuse .allowanceExceeded
      else (s.modBand band result).ok ((s.modBand band result).bandBytes (result e)) := by
  have inRange : named.getLsbD 0 = true → cls.toNat ≤ 3 := fun h => Nat.le_of_not_lt fun out => fine (.inr (.inl ⟨h, out⟩))
  have applied := funext (amendment_apply (group := group) (lockers := lockers) (cabins := cabins) (validity := validity) inRange)
  intro result
  rw [amendBand, if_neg (fine ∘ amendBad_iff.mpr), State.band?, found]
  dsimp only
  rw [applied, bandReport_eq_bandBytes, kindCount_eq_heldOf, kindCount_eq_heldOf]
  simp only [amendment_staffAllowance_iff inRange, result, ← applied, Amendment.apply]

end

theorem State.modBand_taken (s : State) (i : Instr) (b : BandId) (f : Band → Band) :
    (s.taken i).modBand b f = { s.taken i with dir := s.dir.map fun x => if x.id = b then f x else x } := by
  rw [State.modBand, State.taken_dir]
  rfl

theorem exec_amendBand {s : State} (on : s.power.on = true) (tag : Byte) (band : BandId) (named cls group lockers cabins : Byte)
    (validity : BitVec 16) :
    let i := Instr.amendBand tag band named cls group lockers cabins validity
    exec i s = .next (s.answered i (amendBand band (amendment named cls group lockers cabins validity) (s.taken i))) :=
  congrArg Host.Outcome.next (whenOn_takeInHand on rfl _)

/-- Settles O33: the first two checks of R45 split the cases, and `amendBand_of_found` gives the other checks and the effect of R46. -/
theorem amendBandWritesTheNamedItems : Obligations.AmendBandWritesTheNamedItems := by
  intro s tag band named cls group lockers cabins validity on i o n bad given result held
  rw [exec_amendBand on]
  refine congrArg Host.Outcome.next ?_
  by_cases isBad : bad
  · rw [if_pos isBad, amendBand_of_bad isBad, State.answered_refuse]
  rw [if_neg isBad]
  cases entry : s.dir.find? (·.id == band) with
  | none => rw [amendBand_of_absent isBad (by rwa [State.taken_dir]), State.answered_refuse]
  | some e =>
    rw [amendBand_of_found isBad (by rwa [State.taken_dir])]
    simp only [State.answered_ite, State.answered_ok, State.answered_refuse, State.modBand_taken,
      State.heldOf_congr (State.taken_units s _)]
    rfl

end Sys2Proof.Machine
end

section
/-! PROOF. Unit records, and the withdrawal of a unit's intent with its effect on the holder and the Directory (R4, R7, R8, R20). -/

namespace Sys2Proof.Machine

/-! ## Unit records -/

theorem State.unit_of_not_isUnit (s : State) {u : Nat} (h : ¬isUnit u) : s.unit u = UnitRecord.cold := dif_neg h

@[simp] theorem State.setUnit_unit_self (s : State) (u : Nat) : s.setUnit u (s.unit u) = s := by
  unfold State.setUnit State.unit
  split
  · exact congrArg s.setUnits (Vector.set_getElem_self _)
  · rfl

@[simp] theorem State.setUnit_setUnit (s : State) (u : Nat) (r q : UnitRecord) : (s.setUnit u r).setUnit u q = s.setUnit u q := by
  unfold State.setUnit
  split
  · exact congrArg s.setUnits (Vector.set_set ..)
  · rfl

theorem State.unit_setUnit_self (s : State) {u : Nat} (h : isUnit u) (r : UnitRecord) : (s.setUnit u r).unit u = r := by
  simp only [State.setUnit, State.unit, dif_pos h, State.setUnits_units, Vector.getElem_set_self]

theorem State.modUnit_setUnit (s : State) {u : Nat} (h : isUnit u) (r : UnitRecord) (f : UnitRecord → UnitRecord) :
    (s.setUnit u r).modUnit u f = s.setUnit u (f r) := by
  rw [State.modUnit, s.unit_setUnit_self h, State.setUnit_setUnit]

theorem State.setDir_setUnit (s : State) (x : List Band) (u : Nat) (r : UnitRecord) :
    (s.setDir x).setUnit u r = (s.setUnit u r).setDir x := by
  unfold State.setUnit
  split <;> rfl

theorem State.setArb_setUnit (s : State) (x : Arbiter) (u : Nat) (r : UnitRecord) :
    (s.setArb x).setUnit u r = (s.setUnit u r).setArb x := by
  unfold State.setUnit
  split <;> rfl

/-! ## A notice neither reads nor writes the Directory and the Arbiter -/

theorem State.setDir_post (s : State) (x : List Band) (d : NoticeData) : (s.setDir x).post d = (s.post d).setDir x := by
  unfold State.post
  rw [apply_ite (State.setDir · x), apply_ite (State.setDir · x)]
  rfl

theorem State.setArb_post (s : State) (x : Arbiter) (d : NoticeData) : (s.setArb x).post d = (s.post d).setArb x := by
  unfold State.post
  rw [apply_ite (State.setArb · x), apply_ite (State.setArb · x)]
  rfl

theorem State.setDir_enters (s : State) (x : List Band) (u : Nat) (r : UnitRecord) :
    (s.setDir x).enters u r = (s.enters u r).setDir x := by
  unfold State.enters
  dsimp only
  rw [State.setDir_setUnit, State.setDir_post, apply_ite (State.setDir · x)]

theorem State.setArb_enters (s : State) (x : Arbiter) (u : Nat) (r : UnitRecord) :
    (s.setArb x).enters u r = (s.enters u r).setArb x := by
  unfold State.enters
  dsimp only
  rw [State.setArb_setUnit, State.setArb_post, apply_ite (State.setArb · x)]

/-! ## Entering a state, and the removal of a holder -/

theorem adjust_eq_adjusted (r : UnitRecord) (target : UnitState) : adjust r target = r.adjusted target := by
  unfold adjust UnitRecord.adjusted
  cases target
  case held | openHeld => cases r.holder <;> simp
  all_goals simp

theorem State.enter_setUnit (s : State) {u : Nat} (h : isUnit u) (r : UnitRecord) (target : UnitState) :
    (s.setUnit u r).enter u target = s.enters u { r with state := r.adjusted target } := by
  unfold State.enter State.enters
  simp only [s.unit_setUnit_self h, s.modUnit_setUnit h, adjust_eq_adjusted]

/-- R4, R41: both sides of a holding are removed, the unit's record and the band's entry. -/
theorem State.removeHolder_eq (s : State) (u : Nat) : s.removeHolder u = (s.setDir (s.dirWithout u)).setUnit u (s.unit u).freed := by
  unfold State.removeHolder UnitRecord.freed State.dirWithout
  cases holder : (s.unit u).holder with
  | none =>
    have same : s.setDir s.dir = s := rfl
    simp [same]
  | some b =>
    have unit : ∀ x, (s.setDir x).unit u = s.unit u := fun x => State.unit_congr (State.setDir_units s x) u
    simp [State.modUnit, State.modBand, unit, eq_comm]

/-- The removal of a holder leaves what decides between VACANT and OCCUPIED (R8). -/
theorem UnitRecord.freed_adjusted_vacant (r : UnitRecord) : r.freed.adjusted .vacant = r.adjusted .vacant := by
  unfold UnitRecord.freed
  split <;> rfl

/-! ## Withdrawal -/

theorem State.isUnit_of_intent {s : State} {u : Nat} {i : Intent} (h : (s.unit u).intent = some i) : isUnit u := by
  by_contra other
  rw [s.unit_of_not_isUnit other] at h
  cases h

/-- A unit takes another record and enters a state: the form of each branch of R7 that keeps the holder. -/
theorem State.enter_modUnit (s : State) {u : Nat} (h : isUnit u) (f : UnitRecord → UnitRecord) (target : UnitState) :
    (s.modUnit u f).enter u target = s.enters u { f (s.unit u) with state := (f (s.unit u)).adjusted target } :=
  s.enter_setUnit h _ target

/-- The model's withdrawal of an intent has the effect of R7 on the unit's record and on the Directory. -/
theorem withdrawIntent_eq_withdrawn (s : State) (u : Nat) : s.withdrawIntent u = s.withdrawn u := by
  unfold State.withdrawIntent State.withdrawn
  cases intent : (s.unit u).intent with
  | none => rfl
  | some i =>
    have unit : isUnit u := State.isUnit_of_intent intent
    have keepsDir : ∀ r, s.enters u r = { s.enters u r with dir := s.dir } := s.setDir_enters s.dir u
    dsimp only
    unfold UnitRecord.withdrawn
    by_cases fresh : i.cause = .guestLock ∧ i.ret = .vacant
    · simp only [if_pos fresh]
      rw [State.removeHolder_eq, State.modUnit_setUnit _ unit, State.enter_setUnit _ unit, State.setDir_enters,
        ← (s.unit u).freed_adjusted_vacant]
      rfl
    · simp only [if_neg fresh]
      by_cases again : i.ret = .jammed ∨ i.ret = .verify
      · have kept : ∀ r : UnitRecord, r.adjusted i.ret = i.ret := by
          intro r
          obtain h | h := again <;> rw [h] <;> rfl
        simp only [if_pos again]
        rw [State.enter_modUnit _ unit, kept]
        exact keepsDir _
      · simp only [if_neg again]
        rw [State.enter_modUnit _ unit]
        exact keepsDir _

theorem State.setArb_withdrawn (s : State) (x : Arbiter) (u : Nat) : (s.setArb x).withdrawn u = (s.withdrawn u).setArb x := by
  have unit : (s.setArb x).unit u = s.unit u := State.unit_congr (State.setArb_units s x) u
  unfold State.withdrawn State.dirWithout
  rw [unit]
  cases (s.unit u).intent with
  | none => rfl
  | some i =>
    dsimp only
    rw [State.setArb_enters]
    rfl

end Sys2Proof.Machine
end

section
/-! PROOF. CANCEL_DEMAND (R89). -/

namespace Sys2Proof.Machine

/-- A queued demand leaves the queue, the unit and the list of demands in one act (R7, R89). -/
theorem removeRecord_withdrawIntent_dropDemand (s : State) (d : Demand) :
    ((s.removeRecord d.unit).withdrawIntent d.unit).dropDemand d.tag =
      { s.withdrawn d.unit with
        arb := { s.arb with queue := s.arb.queue.filter (·.unit != d.unit), demands := s.arb.demands.filter (·.tag != d.tag) } } := by
  rw [State.removeRecord, withdrawIntent_eq_withdrawn, State.setArb_withdrawn]
  rfl

@[simp] theorem State.taken_arb (s : State) (i : Instr) : (s.taken i).arb = s.arb := changes_taken s i .arb (by decide)

theorem exec_cancelDemand {s : State} (on : s.power.on = true) (tag demandTag : Byte) :
    let i := Instr.cancelDemand tag demandTag
    exec i s = .next (s.answered i (cancelDemand demandTag (s.taken i))) :=
  congrArg Host.Outcome.next (whenOn_takeInHand on rfl _)

/-- Settles O38: the checks of R89 in their order, and `removeRecord_withdrawIntent_dropDemand` for a demand that stands in the queue. -/
theorem cancelDemandWithdraws : Obligations.CancelDemandWithdraws := by
  intro s tag demandTag on i o
  rw [exec_cancelDemand on, cancelDemand, State.answered_ite, State.taken_arb]
  cases s.arb.demands.find? (·.tag == demandTag.toNat) with
  | none => rfl
  | some d =>
    dsimp only
    rw [State.answered_ite, removeRecord_withdrawIntent_dropDemand, State.taken_arb]
    rfl

end Sys2Proof.Machine
end

section
/-! PROOF. The drain tick (R114). -/

namespace Sys2Proof.Machine

theorem exec_drainTick {s : State} (on : s.power.on = true) : exec .drainTick s = .next s.drainTick :=
  congrArg Host.Outcome.next (if_pos on)

/-- A drain clears a set flag at or below LW and never sets a clear one (R114). -/
theorem throttledAfterDrain_eq_ite (p : SupplyParams) (account : Nat) (was : Bool) :
    throttledAfterDrain p account was = if was = true ∧ account ≤ p.lw then false else was := by
  unfold throttledAfterDrain
  cases was with
  | false => simp
  | true => by_cases low : account ≤ p.lw <;> simp [low]

/-- A drain of more than the account holds leaves it at 0: the subtraction of the model stops there (R108, R114). -/
theorem drained_eq_sub (account d : Nat) : (if account < d then 0 else account - d) = account - d := by
  split
  case isTrue short => exact (Nat.sub_eq_zero_of_le short.le).symm
  case isFalse => rfl

/-- Settles O10: the act of the drain tick, with `drained_eq_sub` for the account and `throttledAfterDrain_eq_ite` for THROTTLED. -/
theorem drainTickRecoversCharge : Obligations.DrainTickRecoversCharge := by
  intro s on account
  have drained : account = s.supply.account - s.params.supply.d := drained_eq_sub _ _
  rw [exec_drainTick on, State.drainTick, ← drained, throttledAfterDrain_eq_ite]
  rfl

end Sys2Proof.Machine
end


section
/-! PROOF. One step: the front of the queue, what the part does of itself, and the ticks of the millisecond (R170, R171). -/

set_option Elab.async false

namespace Sys2Proof.Machine

/-! ## A command under power -/

/-- Under power a command that waits for power does its act. -/
theorem next_whenOn {s : State} (on : s.power.on = true) (act : State → State) :
    (Host.Outcome.next (s.whenOn act) : Host.Outcome State Fault Refusal) = .next (act s) :=
  congrArg Host.Outcome.next (if_pos on)

/-- Settles O1: the queue's front is matched before anything else. -/
theorem stepTakesTheFront : Obligations.StepTakesTheFront := fun _ _ _ => rfl

/-! ## What is due -/

/-- A list filtered and mapped, in one pass. -/
theorem map_filter_eq_filterMap {α β : Type} (p : α → Bool) (q : α → Prop) [DecidablePred q] (f : α → β)
    (same : ∀ x, p x = true ↔ q x) (xs : List α) :
    (xs.filter p).map f = xs.filterMap fun x => if q x then some (f x) else none := by
  induction xs with
  | nil => rfl
  | cons x rest ih =>
    by_cases h : q x
    · simp [(same x).mpr h, h, ih]
    · simp [mt (same x).mp h, h, ih]

theorem walkDue_iff (s : State) (k : SlotId) (i : StringId) : s.walkDue k i = true ↔
    (s.slot k).state = .walking ∧ (s.slot k).offers.get i = none ∧ (s.slot k).cursors.get i ≠ none := by
  simp [State.walkDue, and_assoc, Option.isSome_iff_ne_none]

theorem dueWalks_eq (s : State) : s.dueWalks =
    (allStrings.filter (s.walkDue .evacuation)).map (Instr.sweepWalk .evacuation)
      ++ (allStrings.filter (s.walkDue .closing)).map (Instr.sweepWalk .closing) := by
  simp [State.dueWalks]

theorem dueGrant_eq (s : State) : s.dueGrant = if s.arb.grantPass = false then [] else match s.firstEligible with
    | some (.offer _ _ _) => [Instr.grantSweepCandidate]
    | _ => [.grantRecord] := by
  unfold State.dueGrant
  cases s.arb.grantPass <;> rfl

/-! ## What falls -/

theorem orNot_runsOut (t : Option Nat) (c : Instr) :
    orNot (runsOut t) c = match t with | some n => if n ≤ 1 then [c] else [] | none => [] := by
  cases t <;> simp [orNot, runsOut]

theorem orNot_ageRunsOut (t : AgeTimer) (c : Instr) :
    orNot t.runsOut c = orNot (runsOut (match t with | .running n => some n | _ => none)) c := by
  cases t <;> rfl

theorem orNot_gapRunsOut (r : Receiver) (c : Instr) :
    orNot r.runsOut c = orNot (runsOut (match r with | .assembling _ n => some n | _ => none)) c := by
  cases r <;> rfl

theorem step_idle {s : State} (nothing : s.pending = []) : step s = .next s.idle := by rw [step, nothing]

theorem idle_of_off {s : State} (off : s.power.on = false) : s.idle = s := by simp [State.idle, off]

theorem idle_of_due {s : State} (on : s.power.on = true) {c : Instr} {rest : List Instr} (due : s.due = c :: rest) :
    s.idle = s.setPending (s.pending ++ [c]) := by simp [State.idle, on, due]

theorem idle_of_nothing {s : State} (on : s.power.on = true) (due : s.due = []) : s.idle = s.millisecond := by
  simp [State.idle, on, due]

/-- Settles O2: what is due and what falls, list by list, and then the three branches of an idle step. -/
theorem stepWithNothingWaiting : Obligations.StepWithNothingWaiting := by
  intro s next walks look due less out age gap expiries falls line t
  have dueIs : s.due = due := by
    have walk : ∀ k, (allStrings.filter (s.walkDue k)).map (Instr.sweepWalk k) = walks k := fun k =>
      map_filter_eq_filterMap _ _ _ (walkDue_iff s k) _
    have completed : (if s.link.completed.isEmpty then [] else [Instr.frameComplete]) =
        if s.link.completed = [] then [] else [Instr.frameComplete] := by simp only [List.isEmpty_iff]
    rw [State.due, dueWalks_eq, walk, walk, dueGrant_eq, completed]
    simp only [due, List.append_assoc]
    rfl
  have fallsIs : s.falls = falls := by
    simp only [State.falls, falls, expiries, out, age, gap, StringCtl.expiries, allStrings, orNot_ageRunsOut, orNot_gapRunsOut, orNot_runsOut,
      List.map_cons, List.map_nil, List.flatten_cons, List.flatten_nil, List.append_assoc, List.append_nil]
    rfl
  refine ⟨dueIs, fallsIs, rfl, fun nothing off => ?_, fun c rest nothing on first => ?_, fun nothing on none => ?_⟩
  · rw [step_idle nothing, idle_of_off off]
  · rw [step_idle nothing, idle_of_due on (dueIs.trans first), nothing]
    rfl
  · rw [step_idle nothing, idle_of_nothing on (dueIs.trans none), State.millisecond, fallsIs]
    simp only [State.setTime, State.setStrings, State.setSweeps, State.setArb, State.setLink, nothing, List.nil_append]
    rfl

/-! ## The ticks -/

/-- The time block `n` milliseconds after a start: each tick stands as far off as `n` falls short of its next period. -/
theorem down_iterate_reset (n : Nat) :
    let t := TimeBlock.down^[n] State.reset.time
    t.timebase = BitVec.ofNat 32 n ∧ t.toDrain = 10 - n % 10 ∧ t.toSecond = 1000 - n % 1000 ∧ t.toMinute = 60000 - n % 60000 := by
  induction n with
  | zero => exact ⟨rfl, rfl, rfl, rfl⟩
  | succ n ih =>
    obtain ⟨base, drain, second, minute⟩ := ih
    rw [Function.iterate_succ_apply']
    refine ⟨?_, ?_, ?_, ?_⟩
    · simp only [TimeBlock.down, base]
      exact (BitVec.ofNat_add n 1).symm
    all_goals
      simp only [TimeBlock.down, phaseDown, drain, second, minute]
      split <;> omega

theorem mem_orNot {c x : Instr} {b : Bool} : c ∈ orNot b x ↔ b = true ∧ c = x := by
  cases b <;> simp [orNot]

/-- The four ticks are no expiry: what else falls at a millisecond is a timer's. -/
theorem falls_eq_ticks_append (s : State) : ∃ rest, s.falls = s.time.ticks ++ rest
    ∧ ∀ c ∈ rest, c ∉ [Instr.drainTick, .secondTick, .minuteTick, .validityCountdown] := by
  refine ⟨_, by simp only [State.falls, List.append_assoc]; rfl, fun c timer tick => ?_⟩
  simp only [StringCtl.expiries, List.mem_append, List.mem_flatten, List.mem_map, mem_orNot] at timer
  simp only [List.mem_cons, List.not_mem_nil, or_false] at tick
  obtain rfl | rfl | rfl | rfl := tick <;> simp [mem_orNot] at timer

/-- Settles O3: `down_iterate_reset` gives the time left to each tick, and the ticks of the millisecond stand ahead of the timers' expiries. -/
theorem ticksFallAtTheirPeriods : Obligations.TicksFallAtTheirPeriods := by
  refine ⟨fun n => ?_, fun s nothing on due => ?_⟩
  · obtain ⟨base, drain, second, minute⟩ := down_iterate_reset n
    refine ⟨base, ?_, ?_, ?_, ?_⟩ <;>
      simp only [TimeBlock.ticks, List.mem_append, mem_orNot, drain, second, minute, decide_eq_true_eq, reduceCtorEq, and_true, and_false,
        or_false, false_or] <;>
      omega
  · obtain ⟨rest, split, timers⟩ := falls_eq_ticks_append s
    refine ⟨s.millisecond, rest, ?_, rfl, ?_, timers⟩
    · rw [step_idle nothing, idle_of_nothing on due]
    · rw [← split]
      exact congrArg (· ++ s.falls) nothing

end Sys2Proof.Machine
end

section
/-! PROOF. The frame of every command (chapter 1), and what a part without power does (R28). -/

set_option Elab.async false

namespace Sys2Proof.Machine

/-- An event under power changes what its act changes. -/
theorem event_changes {bs : List Block} (s : State) {act : State → State} (h : ∀ s, Changes bs s (act s)) :
    ∃ t, (Host.Outcome.next (s.whenOn act) : Host.Outcome State Fault Refusal) = .next t ∧ Changes bs s t :=
  ⟨_, rfl, changes_whenOn h⟩

/-- A request changes what its owner's act changes, and what the link changes to take the frame and answer it. -/
theorem request_changes {bs : List Block} (s : State) (f : Frame) {act : State → State × Answer} (link : [.link, .notices, .counters] ⊆ bs)
    (h : ∀ s, Changes bs s (act s).1) :
    ∃ t, (Host.Outcome.next (s.whenOn fun s => s.takeInHand f act) : Host.Outcome State Fault Refusal) = .next t ∧ Changes bs s t :=
  ⟨_, rfl, changes_whenOn fun _ => changes_takeInHand f link h⟩

/-- A change of a line changes its pin and what the line's act changes. -/
theorem line_changes {bs : List Block} (s : State) (x : Pins) {act : State → State} (pins : Block.pins ∈ bs) (h : ∀ s, Changes bs s (act s)) :
    ∃ t, (Host.Outcome.next ((s.setPins x).whenOn act) : Host.Outcome State Fault Refusal) = .next t ∧ Changes bs s t :=
  ⟨_, rfl, ((changes_setPins x pins).mpr Changes.refl).trans (changes_whenOn h)⟩

/-- Settles O4: the commands are events, changes of a line, or requests, and each act has its lemma in Laws/Changes. -/
theorem everyCommandChangesOnlyItsBlocks : Obligations.EveryCommandChangesOnlyItsBlocks := by
  intro c s
  cases c
  case powerUp => exact ⟨_, rfl, changes_start _ (by decide)⟩
  case resetPulse => exact event_changes s fun _ => changes_start _ (by decide)
  case mainPowerLoss | retLoss => exact ⟨_, rfl, by simp [Instr.touches]⟩
  case alarmLevelChange | supplyLowChange | currentLimitChange => exact line_changes s _ (by simp [Instr.touches]) fun _ => by simp [Instr.touches]
  case frameComplete => exact event_changes s fun _ => changes_frameComplete (by decide)
  case replyEnd => exact event_changes s fun _ => changes_replyEnd (by decide)
  case nodeReplyGood => exact event_changes s fun _ => changes_endExchange _ (by simp [Instr.touches]) fun _ _ => by simp [Instr.touches]
  case nodeMiss => exact event_changes s fun _ => changes_endExchange _ (by simp [Instr.touches]) fun _ _ => by simp [Instr.touches]
  case presentationLookup | standaloneAdmission | presentationUnitAct =>
    exact event_changes s fun _ => changes_decide _ _ _ fun _ _ => by simp [Instr.touches]
  case drainTick | secondTick | closingTime | minuteTick | validityCountdown | bandExpired | frameGapTimeout | noticeAgeTimerExpiry
      | roundTimerExpiry | recoveryTimerExpiry | settleTimerExpiry | gapTimerExpiry | grantRecord | grantSweepCandidate
      | closingUrgencyTimerExpiry | sweepWalk | pauseTimerExpiry | characterReceived =>
    exact event_changes s fun _ => by simp [Instr.touches]
  all_goals exact request_changes s _ (by simp [Instr.touches]) fun _ => by simp [Instr.touches]

/-- Settles O5: every command but POWER_UP waits for power, the pins and RET_LOSS apart. -/
theorem withoutPowerThePartHasStopped : Obligations.WithoutPowerThePartHasStopped := by
  refine ⟨fun c s off other => ?_, fun s on => ⟨fun stale => ?_, ?_⟩⟩
  · have waits : ∀ act, s.whenOn act = s := fun act => if_neg (by simp [off])
    cases c
    case powerUp => exact absurd rfl other
    case alarmLevelChange | supplyLowChange | currentLimitChange => exact congrArg Host.Outcome.next (if_neg (by simp [off]))
    case mainPowerLoss | retLoss => exact congrArg Host.Outcome.next (if_neg (by simp [off]))
    all_goals exact congrArg Host.Outcome.next (waits _)
  · exact congrArg Host.Outcome.next (if_pos on)
  · exact congrArg Host.Outcome.next (if_pos on)

end Sys2Proof.Machine
end


section
/-! PROOF. What posting a notice, taking a request and walking a string leave as it was. -/

set_option Elab.async false

namespace Sys2Proof.Machine

/-! ## Posting -/

theorem changes_posted (s : State) (d : NoticeData) : Changes [.link, .notices, .counters] s (s.post d) := by simp

@[simp] theorem State.post_units (s : State) (d : NoticeData) : (s.post d).units = s.units := changes_posted s d .units (by decide)
@[simp] theorem State.post_dir (s : State) (d : NoticeData) : (s.post d).dir = s.dir := changes_posted s d .dir (by decide)
@[simp] theorem State.post_decisions (s : State) (d : NoticeData) : (s.post d).decisions = s.decisions :=
  changes_posted s d .decisions (by decide)
@[simp] theorem State.post_arb (s : State) (d : NoticeData) : (s.post d).arb = s.arb := changes_posted s d .arb (by decide)
@[simp] theorem State.post_supply (s : State) (d : NoticeData) : (s.post d).supply = s.supply := changes_posted s d .supply (by decide)
@[simp] theorem State.post_strings (s : State) (d : NoticeData) : (s.post d).strings = s.strings := changes_posted s d .strings (by decide)
@[simp] theorem State.post_sweeps (s : State) (d : NoticeData) : (s.post d).sweeps = s.sweeps := changes_posted s d .sweeps (by decide)
@[simp] theorem State.post_time (s : State) (d : NoticeData) : (s.post d).time = s.time := changes_posted s d .time (by decide)
@[simp] theorem State.post_enables (s : State) (d : NoticeData) : (s.post d).enables = s.enables := changes_posted s d .enables (by decide)
@[simp] theorem State.post_census (s : State) (d : NoticeData) : (s.post d).census = s.census := changes_posted s d .census (by decide)
@[simp] theorem State.post_params (s : State) (d : NoticeData) : (s.post d).params = s.params := changes_posted s d .params (by decide)
@[simp] theorem State.post_pins (s : State) (d : NoticeData) : (s.post d).pins = s.pins := changes_posted s d .pins (by decide)
@[simp] theorem State.post_power (s : State) (d : NoticeData) : (s.post d).power = s.power := changes_posted s d .power (by decide)
@[simp] theorem State.post_pending (s : State) (d : NoticeData) : (s.post d).pending = s.pending := changes_posted s d .pending (by decide)

/-- Of the Desk Link, posting touches the age timer alone (R195). -/
theorem State.post_link (s : State) (d : NoticeData) : ∃ t, (s.post d).link = { s.link with ageTimer := t } := by
  unfold State.post
  split
  · exact ⟨s.link.ageTimer, rfl⟩
  · split
    · exact ⟨s.link.ageTimer, rfl⟩
    · exact ⟨_, rfl⟩

/-! ## Posting neither reads nor writes the units, the strings, the sweeps and the supply account -/

theorem State.setUnits_post (s : State) (x : Vector UnitRecord 240) (d : NoticeData) : (s.setUnits x).post d = (s.post d).setUnits x := by
  unfold State.post
  rw [apply_ite (State.setUnits · x), apply_ite (State.setUnits · x)]
  rfl

theorem State.setStrings_post (s : State) (x : PerString StringCtl) (d : NoticeData) :
    (s.setStrings x).post d = (s.post d).setStrings x := by
  unfold State.post
  rw [apply_ite (State.setStrings · x), apply_ite (State.setStrings · x)]
  rfl

theorem State.setSweeps_post (s : State) (x : Sweeps) (d : NoticeData) : (s.setSweeps x).post d = (s.post d).setSweeps x := by
  unfold State.post
  rw [apply_ite (State.setSweeps · x), apply_ite (State.setSweeps · x)]
  rfl

theorem State.setUnit_post (s : State) (u : Nat) (r : UnitRecord) (d : NoticeData) : (s.setUnit u r).post d = (s.post d).setUnit u r := by
  unfold State.setUnit
  split
  · rw [State.setUnits_post, State.post_units]
  · rfl

/-! ## Taking a request -/

@[simp] theorem State.taken_decisions (s : State) (i : Instr) : (s.taken i).decisions = s.decisions := changes_taken s i .decisions (by decide)
@[simp] theorem State.taken_supply (s : State) (i : Instr) : (s.taken i).supply = s.supply := changes_taken s i .supply (by decide)
@[simp] theorem State.taken_strings (s : State) (i : Instr) : (s.taken i).strings = s.strings := changes_taken s i .strings (by decide)
@[simp] theorem State.taken_sweeps (s : State) (i : Instr) : (s.taken i).sweeps = s.sweeps := changes_taken s i .sweeps (by decide)
@[simp] theorem State.taken_time (s : State) (i : Instr) : (s.taken i).time = s.time := changes_taken s i .time (by decide)
@[simp] theorem State.taken_enables (s : State) (i : Instr) : (s.taken i).enables = s.enables := changes_taken s i .enables (by decide)
@[simp] theorem State.taken_census (s : State) (i : Instr) : (s.taken i).census = s.census := changes_taken s i .census (by decide)
@[simp] theorem State.taken_params (s : State) (i : Instr) : (s.taken i).params = s.params := changes_taken s i .params (by decide)
@[simp] theorem State.taken_pins (s : State) (i : Instr) : (s.taken i).pins = s.pins := changes_taken s i .pins (by decide)
@[simp] theorem State.taken_power (s : State) (i : Instr) : (s.taken i).power = s.power := changes_taken s i .power (by decide)
@[simp] theorem State.taken_pending (s : State) (i : Instr) : (s.taken i).pending = s.pending := changes_taken s i .pending (by decide)

@[simp] theorem State.taken_unit (s : State) (i : Instr) (u : Nat) : (s.taken i).unit u = s.unit u := State.unit_congr (s.taken_units i) u
@[simp] theorem State.post_unit (s : State) (d : NoticeData) (u : Nat) : (s.post d).unit u = s.unit u := State.unit_congr (s.post_units d) u
@[simp] theorem State.taken_str (s : State) (i : Instr) (j : StringId) : (s.taken i).str j = s.str j :=
  congrArg (·.get j) (s.taken_strings i)
@[simp] theorem State.post_str (s : State) (d : NoticeData) (j : StringId) : (s.post d).str j = s.str j :=
  congrArg (·.get j) (s.post_strings d)

/-! ## Walking a string -/

theorem changes_walked (s : State) (k : SlotId) (i : StringId) :
    Changes [.units, .dir, .arb, .sweeps, .link, .notices, .counters] s (s.walk k i) := by simp

@[simp] theorem State.walk_power (s : State) (k : SlotId) (i : StringId) : (s.walk k i).power = s.power :=
  changes_walked s k i .power (by decide)

theorem exec_sweepWalk {s : State} (on : s.power.on = true) (k : SlotId) (i : StringId) : exec (.sweepWalk k i) s = .next (s.walk k i) :=
  next_whenOn on _

/-- The walks of a start or of a new pass are the commands of the four strings in turn. -/
theorem leads_walkAll {s : State} (on : s.power.on = true) (k : SlotId) :
    Leads [.sweepWalk k .a, .sweepWalk k .b, .sweepWalk k .c, .sweepWalk k .d] s (s.walkAll k) :=
  ⟨_, exec_sweepWalk on k .a, _, exec_sweepWalk (by simpa using on) k .b, _, exec_sweepWalk (by simpa using on) k .c, _,
    exec_sweepWalk (by simpa using on) k .d, rfl⟩

end Sys2Proof.Machine
end

section
/-! PROOF. The input lines (R119, R120, R153, R154). -/

set_option Elab.async false

namespace Sys2Proof.Machine

theorem exec_alarmLevelChange {s : State} (on : s.power.on = true) (a : Bool) :
    exec (.alarmLevelChange a) s = .next ((s.setPins { s.pins with alarm := a }).takeAlarm a) := congrArg Host.Outcome.next (if_pos on)

theorem exec_supplyLowChange {s : State} (on : s.power.on = true) (a : Bool) :
    exec (.supplyLowChange a) s = .next ((s.setPins { s.pins with supplyLow := a }).takeSupplyLow a) :=
  congrArg Host.Outcome.next (if_pos on)

theorem exec_currentLimitChange {s : State} (on : s.power.on = true) (a : Bool) :
    exec (.currentLimitChange a) s = .next ((s.setPins { s.pins with currentLimit := a }).takeCurrentLimit a) :=
  congrArg Host.Outcome.next (if_pos on)

/-- The level already recorded is no change (R153). -/
theorem takeAlarm_same {s : State} {a : Bool} (same : a = s.sweeps.alarm) : s.takeAlarm a = s := if_pos same

theorem takeAlarm_deasserted {s : State} (change : false ≠ s.sweeps.alarm) :
    s.takeAlarm false = (s.setSweeps { s.sweeps with alarm := false }).startPass := if_neg change

theorem sweepActive_evacuation_iff (s : State) : s.sweepActive .evacuation = true ↔ s.sweeps.evacuation.state ≠ .inactive := by
  simp [State.sweepActive, State.slot]

theorem takeAlarm_asserted {s : State} (change : true ≠ s.sweeps.alarm) :
    s.takeAlarm true =
      if s.sweeps.evacuation.state ≠ .inactive then s.setSweeps { s.sweeps with alarm := true }
      else (s.setSweeps { s.sweeps with alarm := true }).startEvacuation := by
  rw [State.takeAlarm, if_neg change]
  simp only [if_true, sweepActive_evacuation_iff, State.setSweeps_sweeps]

/-- Settles O8: the four cases of R153, and the four walks of a start by `leads_walkAll`. -/
theorem alarmLineStartsAnEvacuation : Obligations.AlarmLineStartsAnEvacuation := by
  intro a s on p r
  rw [exec_alarmLevelChange on]
  split
  case isTrue same => exact congrArg Host.Outcome.next (takeAlarm_same same)
  case isFalse change =>
    cases a
    · exact congrArg Host.Outcome.next (takeAlarm_deasserted change)
    · rw [takeAlarm_asserted (s := s.setPins { s.pins with alarm := true }) change]
      simp only [Bool.true_eq_false, if_false]
      split
      case isTrue active => exact congrArg Host.Outcome.next (if_pos active)
      case isFalse inactive =>
        refine ⟨_, congrArg Host.Outcome.next (if_neg inactive), leads_walkAll ?_ .evacuation⟩
        exact on

/-- Settles O9: each line's act, level by level. -/
theorem supplyLinesAreTaken : Obligations.SupplyLinesAreTaken := by
  constructor
  · intro a s on p secs
    rw [exec_supplyLowChange on, State.takeSupplyLow]
    exact congrArg Host.Outcome.next (if_congr Iff.rfl rfl (if_congr Iff.rfl rfl rfl))
  · intro a s on p mark
    rw [exec_currentLimitChange on, State.takeCurrentLimit]
    exact congrArg Host.Outcome.next (if_congr Iff.rfl rfl (if_congr Iff.rfl rfl rfl))

end Sys2Proof.Machine
end

section
/-! PROOF. The figures that QUERY_SUPPLY forecasts (R114, R122). -/

set_option Elab.async false

namespace Sys2Proof.Machine

/-- A number of ticks is enough exactly where so many drains take the charge away. -/
theorem ticksFor_le_iff {d : Nat} (pos : 1 ≤ d) (m n : Nat) : ticksFor d m ≤ n ↔ m ≤ n * d := by
  rw [ticksFor, Nat.div_le_iff_le_mul_add_pred pos, Nat.mul_comm d n]
  omega

theorem core_run_succ {M : Host.Core} {n : Nat} {s t : M.State} (h : M.step s = .next t) : M.run (n + 1) s = M.run n t := by
  simp only [Host.Core.run, h]

theorem run_succ {n : Nat} {s t : State} (h : step s = .next t) : Host.Core.run core (n + 1) s = Host.Core.run core n t :=
  core_run_succ (M := core) h

/-- The part runs through drain ticks alone: the account falls by D at each, and a set THROTTLED stands while the account is above LW. -/
theorem run_drainTicks (n : Nat) (s : State) (on : s.power.on = true) :
    ∃ t, Host.Core.run core n (s.setPending (List.replicate n .drainTick)) = .next t ∧ t.params = s.params
      ∧ t.supply.account = s.supply.account - n * s.params.supply.d
      ∧ (t.supply.throttled = true ↔
          s.supply.throttled = true ∧ (n = 0 ∨ s.params.supply.lw < s.supply.account - n * s.params.supply.d)) := by
  induction n generalizing s with
  | zero => exact ⟨_, rfl, rfl, by simp, by simp⟩
  | succ n ih =>
    obtain ⟨t, run, params, account, throttled⟩ := ih s.drainTick on
    have first : step (s.setPending (List.replicate (n + 1) .drainTick)) = .next (s.drainTick.setPending (List.replicate n .drainTick)) :=
      exec_drainTick (s := s.setPending (List.replicate n .drainTick)) on
    have left : s.drainTick.supply.account = s.supply.account - s.params.supply.d := rfl
    have was : s.drainTick.supply.throttled = throttledAfterDrain s.params.supply (s.supply.account - s.params.supply.d) s.supply.throttled := rfl
    have figures : s.drainTick.params = s.params := rfl
    rw [left, figures] at account throttled
    have total : s.supply.account - s.params.supply.d - n * s.params.supply.d = s.supply.account - (n + 1) * s.params.supply.d := by
      rw [Nat.succ_mul]; omega
    rw [total] at account throttled
    refine ⟨t, ?_, params, account, ?_⟩
    · exact (run_succ first).trans run
    · have falls : s.supply.account - (n + 1) * s.params.supply.d ≤ s.supply.account - s.params.supply.d := by
        rw [Nat.succ_mul]; omega
      rw [throttled, was, throttledAfterDrain, Bool.and_eq_true, Bool.not_eq_true', decide_eq_false_iff_not, not_le]
      obtain rfl | more := Nat.eq_zero_or_pos n
      · simp
      · have notFirst : n ≠ 0 := Nat.pos_iff_ne_zero.mp more
        simp only [notFirst, false_or, Nat.succ_ne_zero, and_assoc]
        exact and_congr_right fun _ => ⟨And.right, fun h => ⟨h.trans_le falls, h⟩⟩

theorem SupplyParams.good_drain {p : SupplyParams} (good : p.good = true) : 1 ≤ p.d := by
  simp only [SupplyParams.good, Bool.and_eq_true, decide_eq_true_eq] at good
  omega

/-- Settles O11: `run_drainTicks` gives the account and the flag, and `ticksFor_le_iff` turns each figure into the drains that it counts. -/
theorem supplyForecastComesTrue : Obligations.SupplyForecastComesTrue := by
  intro s n cost on ⟨good, clear, set⟩ fitsAtAll
  obtain ⟨t, run, params, account, throttled⟩ := run_drainTicks n s on
  have pos := SupplyParams.good_drain good
  refine ⟨t, run, account, ?_, ?_⟩
  · rw [throttled]
    refine and_congr_right fun was => ?_
    have above := set was
    rw [State.ticksToRelease, if_pos was, ← not_le (a := ticksFor _ _), ticksFor_le_iff pos]
    obtain rfl | more := Nat.eq_zero_or_pos n
    · simp only [true_or, Nat.zero_mul, true_iff]; omega
    · omega
  · rw [State.ticksToFit, ticksFor_le_iff pos, account, params]
    omega

end Sys2Proof.Machine
end


section
/-! PROOF. The clock: the second tick, SET_CLOCK and QUERY_CLOCK (R172, R174, R175, R180). -/

set_option Elab.async false

namespace Sys2Proof.Machine

theorem exec_secondTick {s : State} (on : s.power.on = true) : exec .secondTick s = .next s.secondTick := next_whenOn on _

theorem exec_closingTime {s : State} (on : s.power.on = true) : exec .closingTime s = .next s.closingTime := next_whenOn on _

theorem changes_clockAdvanced (s : State) : Changes [.time, .link, .notices, .counters] s s.advanceClock := by simp

theorem atClosing_iff (s : State) : s.atClosing = true ↔
    s.time.valid = true ∧ s.params.time.closingEnabled = true ∧ s.time.second = s.params.time.closing := by
  simp [State.atClosing, and_assoc]

theorem sweepActive_closing_eq_false_iff (s : State) : s.sweepActive .closing = false ↔ s.sweeps.closing.state = .inactive := by
  simp [State.sweepActive, State.slot]

/-- A closing sweep starts with its slot fresh, CLOSING_STARTED, and a walk of each string in turn (R155, R156). -/
theorem startClosing_eq (s : State) (zone : Nat) (filter : KindFilter) (byClock : Bool) :
    s.startClosing zone filter byClock =
      (({ s with sweeps := { s.sweeps with closing :=
          { state := .walking, zone := zone, filter := filter, pass := 1
            cursors := ⟨s.lowest .a, s.lowest .b, s.lowest .c, s.lowest .d⟩, offers := ⟨none, none, none, none⟩, visit := [], marks := []
            inFlight := 0, pause := none, issued := 0, done := 0, missed := 0, result := none } } } : State).post
        { kind := .closingStarted, code := .closingBy byClock, value := some zone }).walkAll .closing := rfl

/-- Settles O12: the clock's advance is the statement's own, and a closing sweep starts by `startClosing_eq`. -/
theorem secondTickAdvancesTheClock : Obligations.SecondTickAdvancesTheClock := by
  intro s on t closing low x started
  have advanced : s.advanceClock = t := rfl
  have moved : Changes [.time, .link, .notices, .counters] s t := changes_clockAdvanced s
  have strings : t.strings = s.strings := moved .strings (by decide)
  have sweeps : t.sweeps = s.sweeps := moved .sweeps (by decide)
  have params : t.params = s.params := moved .params (by decide)
  have power : t.power = s.power := moved .power (by decide)
  have atClosing : t.atClosing = true ↔ closing := by rw [atClosing_iff, params]
  have inactive : t.sweepActive .closing = false ↔ s.sweeps.closing.state = .inactive := by
    rw [sweepActive_closing_eq_false_iff, sweeps]
  have tick : s.secondTick = if closing ∧ s.sweeps.closing.state = .inactive then t.startClosing 0 .both true else t :=
    if_congr (and_congr atClosing inactive) rfl rfl
  rw [exec_secondTick on, exec_closingTime on, tick]
  refine ⟨fun isClosing free => ⟨_, rfl, ?_⟩, fun other => ?_, fun isClosing => ?_, fun other => ?_⟩
  · have start : t.startClosing 0 .both true = started.walkAll .closing := by
      rw [startClosing_eq]
      simp only [started, x, low, State.lowest, State.str, strings, sweeps]
    rw [if_pos ⟨isClosing, free⟩, start]
    refine leads_walkAll ?_ .closing
    rw [State.post_power]
    exact power ▸ on
  · rw [if_neg other]
  · rw [State.closingTime, advanced, if_pos (atClosing.mpr isClosing), tick]
  · rw [State.closingTime, advanced, if_neg (mt atClosing.mp other)]

theorem exec_setClock {s : State} (on : s.power.on = true) (tag : Byte) (second : BitVec 24) :
    let i := Instr.setClock tag second
    exec i s = .next (s.answered i (setClock second (s.taken i))) := congrArg Host.Outcome.next (whenOn_takeInHand on rfl _)

theorem exec_queryClock {s : State} (on : s.power.on = true) (tag : Byte) :
    let i := Instr.queryClock tag
    exec i s = .next (s.answered i (queryClock (s.taken i))) := congrArg Host.Outcome.next (whenOn_takeInHand on rfl _)

theorem untilClosing_eq (s : State) : s.untilClosing =
    if s.time.valid = true ∧ s.params.time.closingEnabled = true then
      some (if s.params.time.closing ≤ s.time.second then s.params.time.closing + 86400 - s.time.second
        else s.params.time.closing - s.time.second)
    else none := by
  simp only [State.untilClosing, Bool.and_eq_true]

/-- Settles O15: SET_CLOCK by its one check, QUERY_CLOCK by its bytes. -/
theorem clockIsSetAndRead : Obligations.ClockIsSetAndRead := by
  intro s tag second on i q o was close
  rw [exec_setClock on, exec_queryClock on]
  refine ⟨congrArg Host.Outcome.next ?_, congrArg Host.Outcome.next ?_⟩
  · rw [setClock, State.answered_ite, State.answered_refuse, State.answered_ok, State.taken_time]
    rfl
  · rw [queryClock, State.answered_ok, untilClosing_eq, State.taken_time, State.taken_params, State.sweepActive, State.slot, State.taken_sweeps]

end Sys2Proof.Machine
end

section
/-! PROOF. The minute tick at the Directory (R36, R179). -/

set_option Elab.async false

namespace Sys2Proof.Machine

theorem exec_validityCountdown {s : State} (on : s.power.on = true) : exec .validityCountdown s = .next s.countDown := next_whenOn on _

theorem exec_bandExpired {s : State} (on : s.power.on = true) (b : BandId) : exec (.bandExpired b) s = .next (s.expireBand b) :=
  next_whenOn on _

/-- Settles O14: both acts are the statement's own, entry by entry. -/
theorem validityCountsDownToExpiry : Obligations.ValidityCountsDownToExpiry := by
  intro s on down say
  refine ⟨exec_validityCountdown on, fun b => ?_⟩
  rw [exec_bandExpired on, State.expireBand, State.band?]
  cases s.dir.find? (·.id == b) <;> rfl

end Sys2Proof.Machine
end

section
/-! PROOF. The minute tick at the Tenancy Table (R177, R178). -/

set_option Elab.async false

namespace Sys2Proof.Machine

/-! ## Notices that are posted alike -/

/-- Two states in which the same notices are posted alike: the same queue, counters and age timer, and all that posting reads. -/
structure PostAlike (s t : State) : Prop where
  notices : t.notices = s.notices
  link : t.link = s.link
  counters : t.counters = s.counters
  enables : t.enables = s.enables
  params : t.params = s.params
  stamp : t.stamp = s.stamp

theorem PostAlike.refl (s : State) : PostAlike s s := ⟨rfl, rfl, rfl, rfl, rfl, rfl⟩

theorem PostAlike.trans {s t r : State} (h : PostAlike s t) (h' : PostAlike t r) : PostAlike s r where
  notices := h'.notices.trans h.notices
  link := h'.link.trans h.link
  counters := h'.counters.trans h.counters
  enables := h'.enables.trans h.enables
  params := h'.params.trans h.params
  stamp := h'.stamp.trans h.stamp

theorem PostAlike.setUnit (s : State) (u : Nat) (r : UnitRecord) : PostAlike s (s.setUnit u r) := by
  unfold State.setUnit
  split
  · exact ⟨rfl, rfl, rfl, rfl, rfl, rfl⟩
  · exact .refl s

theorem PostAlike.post {s t : State} (h : PostAlike s t) (d : NoticeData) : PostAlike (s.post d) (t.post d) := by
  obtain ⟨notices, link, counters, enables, params, stamp⟩ := h
  have enabled : t.kindEnabled d.kind = s.kindEnabled d.kind := by simp only [State.kindEnabled, enables]
  have stamped : ∀ r : State, (r.post d).stamp = r.stamp := fun r => by simp only [State.stamp, State.post_time]
  refine ⟨?_, ?_, ?_, ?_, ?_, ?_⟩
  · simp only [State.post, enabled, notices, apply_ite State.notices, State.dropNotice, State.storeNotice, State.count, State.setCounters,
      State.setNotices, State.setLink, stamp]
  · simp only [State.post, enabled, notices, apply_ite State.link, State.dropNotice, State.storeNotice, State.count, State.setCounters,
      State.setNotices, State.setLink, link, params]
  · simp only [State.post, enabled, notices, apply_ite State.counters, State.dropNotice, State.storeNotice, State.count, State.setCounters,
      State.setNotices, State.setLink, counters]
  · simp only [State.post_enables, enables]
  · simp only [State.post_params, params]
  · rw [stamped, stamped, stamp]

theorem PostAlike.foldl_post {s t : State} (h : PostAlike s t) (ds : List NoticeData) :
    PostAlike (ds.foldl State.post s) (ds.foldl State.post t) := by
  induction ds generalizing s t with
  | nil => exact h
  | cons d rest ih => exact ih (h.post d)

/-! ## One unit -/

theorem State.unit_setUnit_other (s : State) {u v : Nat} (r : UnitRecord) (h : v ≠ u) : (s.setUnit u r).unit v = s.unit v := by
  unfold State.setUnit State.unit
  split
  case isFalse => rfl
  case isTrue hu =>
    split
    case isFalse => rfl
    case isTrue hv => exact Vector.getElem_set_ne (by omega) (by omega) (by omega)

theorem State.unit_setUnit (s : State) {u v : Nat} (r : UnitRecord) (hv : isUnit v) :
    (s.setUnit u r).unit v = if v = u then r else s.unit v := by
  split
  case isTrue same => rw [same, s.unit_setUnit_self (same ▸ hv)]
  case isFalse other => exact s.unit_setUnit_other r other

@[simp] theorem State.setUnit_dir (s : State) (u : Nat) (r : UnitRecord) : (s.setUnit u r).dir = s.dir := by
  unfold State.setUnit; split <;> rfl

@[simp] theorem State.setUnit_params (s : State) (u : Nat) (r : UnitRecord) : (s.setUnit u r).params = s.params := by
  unfold State.setUnit; split <;> rfl

/-- The dwell minutes of a unit at a minute tick (R177). -/
def UnitRecord.dwelt (r : UnitRecord) : Nat := if r.holder.isSome then min 65535 (r.dwell + 1) else r.dwell

/-- The occupancy minutes of a unit at a minute tick (R178). -/
def UnitRecord.stayed (r : UnitRecord) : Nat := if r.occupied then min 65535 (r.occupancy + 1) else r.occupancy

/-- The overstay limit of a unit's holder, where the holder has an entry (R176, R177). -/
def State.limitOf (s : State) (r : UnitRecord) : Option Nat := (r.holder.bind s.band?).map fun e => s.params.time.overstay e.cls

/-- A unit is reported as an overstay at this tick (R177). -/
def State.overstays (s : State) (r : UnitRecord) : Bool :=
  Decidable.decide (∃ l, s.limitOf r = some l ∧ l ≠ 0 ∧ l ≤ r.dwelt) && !r.overstayReported

/-- A unit is reported as occupied for long at this tick (R178). -/
def State.staysLong (s : State) (r : UnitRecord) : Bool :=
  r.occupied && Decidable.decide (s.params.time.occupancy ≤ r.stayed) && !r.occupancyReported

/-- The notices of a unit at a minute tick, OVERSTAY first (R177, R178). -/
def State.minuteNotices (s : State) (u : Nat) : List NoticeData :=
  let r := s.unit u
  (if s.overstays r then
    [s.unitNotice .overstay u r.holder ((r.holder.bind s.band?).elim .none fun e => .bandClass e.cls) (some r.dwelt)] else [])
  ++ if s.staysLong r then [s.unitNotice .occupancyLong u r.holder (.mode (r.config.elim .single (·.mode))) (some r.stayed)] else []

/-- A unit's record after a minute tick (R177, R178). -/
def State.minuteRecord (s : State) (r : UnitRecord) : UnitRecord :=
  { r with
    dwell := r.dwelt, overstayReported := r.overstayReported || s.overstays r
    occupancy := r.stayed, occupancyReported := r.occupancyReported || s.staysLong r }

/-- A notice names a unit's node by the unit's configuration, which a change of the rest of its record leaves (R199). -/
theorem postUnit_setUnit (s : State) {u : Nat} (h : isUnit u) (r : UnitRecord) (same : r.config = (s.unit u).config) (kind : NoticeKind)
    (band : Option BandId) (code : NoticeCode) (value : Option Nat) :
    (s.setUnit u r).postUnit kind u band code value = (s.post (s.unitNotice kind u band code value)).setUnit u r := by
  rw [← State.setUnit_post]
  simp only [State.postUnit, State.unitNode, s.unit_setUnit_self h, same, State.unitNotice, Option.map_map]
  rfl

/-- The overstay check of a unit: the record written, and OVERSTAY ahead of it where it is due. -/
theorem dwellUnit_eq (s : State) {u : Nat} (h : isUnit u) :
    s.dwellUnit u =
      ((if s.overstays (s.unit u) then
          [s.unitNotice .overstay u (s.unit u).holder (((s.unit u).holder.bind s.band?).elim .none fun e => .bandClass e.cls)
            (some (s.unit u).dwelt)] else []).foldl State.post s).setUnit u
        { s.unit u with dwell := (s.unit u).dwelt, overstayReported := (s.unit u).overstayReported || s.overstays (s.unit u) } := by
  have band : ∀ (r : UnitRecord) b, (s.setUnit u r).band? b = s.band? b := fun r b => by simp only [State.band?, State.setUnit_dir]
  unfold State.dwellUnit
  cases holder : (s.unit u).holder with
  | none =>
    have quiet : s.overstays (s.unit u) = false := by simp [State.overstays, State.limitOf, holder]
    have still : (s.unit u).dwelt = (s.unit u).dwell := by simp [UnitRecord.dwelt, holder]
    simp only [quiet, still, Bool.false_eq_true, if_false, List.foldl_nil, Bool.or_false]
    exact (s.setUnit_unit_self u).symm
  | some b =>
    have grows : satInc 65535 (s.unit u).dwell = (s.unit u).dwelt := by simp [UnitRecord.dwelt, holder, satInc]
    simp only [State.modUnit, band, grows, s.unit_setUnit_self h, Option.bind_some, State.setUnit_setUnit, State.setUnit_params]
    cases entry : s.band? b with
    | none =>
      have quiet : s.overstays (s.unit u) = false := by simp [State.overstays, State.limitOf, holder, entry]
      simp [quiet]
    | some e =>
      have due : s.overstays (s.unit u) = true ↔ s.params.time.overstay e.cls ≠ 0 ∧ s.params.time.overstay e.cls ≤ (s.unit u).dwelt
          ∧ (s.unit u).overstayReported = false := by
        simp [State.overstays, State.limitOf, holder, entry, and_assoc]
      simp only [← due]
      cases late : s.overstays (s.unit u) with
      | false => simp
      | true =>
        simp only [if_true, Bool.or_true, List.foldl_cons, List.foldl_nil, Option.elim_some]
        exact postUnit_setUnit s h _ (by rfl) _ _ _ _

/-- The occupancy check of a unit: the record written, and OCCUPANCY_LONG ahead of it where it is due. -/
theorem occupancyUnit_eq (s : State) {u : Nat} (h : isUnit u) :
    s.occupancyUnit u =
      ((if s.staysLong (s.unit u) then
          [s.unitNotice .occupancyLong u (s.unit u).holder (.mode ((s.unit u).config.elim .single (·.mode))) (some (s.unit u).stayed)]
        else []).foldl State.post s).setUnit u
        { s.unit u with occupancy := (s.unit u).stayed, occupancyReported := (s.unit u).occupancyReported || s.staysLong (s.unit u) } := by
  unfold State.occupancyUnit
  by_cases inside : (s.unit u).occupied = true
  · have grows : satInc 65535 (s.unit u).occupancy = (s.unit u).stayed := by simp [UnitRecord.stayed, inside, satInc]
    have due : s.staysLong (s.unit u) = true ↔ s.params.time.occupancy ≤ (s.unit u).stayed ∧ (s.unit u).occupancyReported = false := by
      simp [State.staysLong, inside]
    rw [if_pos inside]
    simp only [State.modUnit, grows, s.unit_setUnit_self h, State.setUnit_setUnit, State.setUnit_params, ← due]
    by_cases long : s.staysLong (s.unit u) = true
    · simp only [long, if_true, Bool.or_true, List.foldl_cons, List.foldl_nil]
      exact postUnit_setUnit s h _ (by rfl) _ _ _ _
    · simp [long]
  · have quiet : s.staysLong (s.unit u) = false := by simp [State.staysLong, inside]
    have still : (s.unit u).stayed = (s.unit u).occupancy := by simp [UnitRecord.stayed, inside]
    simp only [if_neg inside, quiet, still, Bool.false_eq_true, if_false, List.foldl_nil, Bool.or_false]
    exact (s.setUnit_unit_self u).symm

theorem foldl_post_setUnit (s : State) (u : Nat) (r : UnitRecord) (ds : List NoticeData) :
    ds.foldl State.post (s.setUnit u r) = (ds.foldl State.post s).setUnit u r := by
  induction ds generalizing s with
  | nil => rfl
  | cons d rest ih => rw [List.foldl_cons, State.setUnit_post, ih, List.foldl_cons]

theorem changes_foldl_post (s : State) (ds : List NoticeData) : Changes [.link, .notices, .counters] s (ds.foldl State.post s) :=
  Changes.foldl (by simp) ds s

/-- Both checks of one unit at a minute tick: its notices, and then its record. -/
theorem minuteUnit_eq (s : State) {u : Nat} (h : isUnit u) :
    (s.dwellUnit u).occupancyUnit u = ((s.minuteNotices u).foldl State.post s).setUnit u (s.minuteRecord (s.unit u)) := by
  have told := changes_foldl_post s (if s.overstays (s.unit u) then
    [s.unitNotice .overstay u (s.unit u).holder (((s.unit u).holder.bind s.band?).elim .none fun e => .bandClass e.cls)
      (some (s.unit u).dwelt)] else [])
  rw [occupancyUnit_eq _ h, dwellUnit_eq s h, State.unit_setUnit_self _ h]
  have long : ∀ (t : State) (dwell : Nat) (reported : Bool), t.params = s.params →
      t.staysLong { s.unit u with dwell := dwell, overstayReported := reported } = s.staysLong (s.unit u) := by
    intro t dwell reported params
    simp only [State.staysLong, params]
    rfl
  dsimp only
  rw [long _ _ _ (by rw [State.setUnit_params]; exact told .params (by decide)), foldl_post_setUnit, State.setUnit_setUnit,
    State.minuteNotices, List.foldl_append]
  simp only [State.unitNotice, State.unit_setUnit_self _ h]
  rfl

/-! ## All units -/

/-- The minute tick has gone over some of the units: their records are written, the other units stand, and their notices have been posted. -/
structure MinuteDone (s p t : State) (todo : List Nat) : Prop where
  written : ∀ u, isUnit u → t.unit u = if u ∈ todo then s.unit u else s.minuteRecord (s.unit u)
  dir : t.dir = s.dir
  params : t.params = s.params
  alike : PostAlike p t

/-- A unit still to come is checked as it would be in the state before the tick. -/
theorem MinuteDone.next {s p t : State} {u : Nat} {rest : List Nat} (h : MinuteDone s p t (u :: rest)) (hu : isUnit u) (fresh : u ∉ rest) :
    MinuteDone s ((s.minuteNotices u).foldl State.post p) ((t.dwellUnit u).occupancyUnit u) rest := by
  obtain ⟨written, dir, params, alike⟩ := h
  have here : t.unit u = s.unit u := by rw [written u hu, if_pos (List.mem_cons_self ..)]
  have band : t.band? = s.band? := by funext b; rw [State.band?, dir]; rfl
  have limitOf : t.limitOf = s.limitOf := by funext r; unfold State.limitOf; rw [band, params]
  have limit : t.overstays = s.overstays := by funext r; unfold State.overstays; rw [limitOf]
  have long : t.staysLong = s.staysLong := by funext r; simp only [State.staysLong, params]
  have notices : t.minuteNotices u = s.minuteNotices u := by simp only [State.minuteNotices, State.unitNotice, here, band, limit, long]
  have record : t.minuteRecord (t.unit u) = s.minuteRecord (s.unit u) := by simp only [State.minuteRecord, here, limit, long]
  have told := changes_foldl_post t (s.minuteNotices u)
  rw [minuteUnit_eq t hu, notices, record]
  refine ⟨fun v hv => ?_, ?_, ?_, (alike.foldl_post _).trans (.setUnit _ _ _)⟩
  · rw [State.unit_setUnit _ _ hv, State.unit_congr (told .units (by decide)), written v hv]
    by_cases same : v = u
    · rw [if_pos same, same, if_neg fresh]
    · simp [same]
  · rw [State.setUnit_dir]; exact (told .dir (by decide)).trans dir
  · rw [State.setUnit_params]; exact (told .params (by decide)).trans params

theorem MinuteDone.all {s p t : State} {us : List Nat} (h : MinuteDone s p t us) (units : ∀ u ∈ us, isUnit u) (distinct : us.Nodup) :
    MinuteDone s ((us.flatMap s.minuteNotices).foldl State.post p) (us.foldl (fun t u => (t.dwellUnit u).occupancyUnit u) t) [] := by
  induction us generalizing p t with
  | nil => exact h
  | cons u rest ih =>
    rw [List.flatMap_cons, List.foldl_append, List.foldl_cons]
    obtain ⟨fresh, distinct⟩ := List.nodup_cons.mp distinct
    exact ih (h.next (units u (List.mem_cons_self ..)) fresh) (fun v hv => units v (List.mem_cons_of_mem _ hv)) distinct

theorem mem_unitNumbers {u : Nat} : u ∈ unitNumbers ↔ isUnit u := by
  simp only [unitNumbers, Config.unitCount, List.mem_map, List.mem_range, isUnit]
  exact ⟨fun ⟨n, hn, e⟩ => by omega, fun h => ⟨u - 1, by omega, by omega⟩⟩

theorem unitNumbers_nodup : unitNumbers.Nodup := List.nodup_range.map fun _ _ => Nat.succ.inj

theorem exec_minuteTick {s : State} (on : s.power.on = true) : exec .minuteTick s = .next s.minuteTick := next_whenOn on _

/-- Settles O13: `MinuteDone` holds with every unit to do and, by `MinuteDone.all`, with none. -/
theorem minuteTickCountsDwellAndOccupancy : Obligations.MinuteTickCountsDwellAndOccupancy := by
  intro s on dwell limit late occ long notices p
  have limits : ∀ u, limit u = s.limitOf (s.unit u) := fun _ => rfl
  have lates : ∀ u, late u = s.overstays (s.unit u) := fun u => by simp only [late, limits]; rfl
  have noticesAre : notices = s.minuteNotices := by
    funext u
    simp only [notices, State.minuteNotices, lates]
    rfl
  let begun : State := s.setTime { s.time with minuteCount := satInc Config.counterTop s.time.minuteCount }
  have start : MinuteDone s s begun unitNumbers :=
    { written := fun u hu => by rw [if_pos (mem_unitNumbers.mpr hu)]; rfl
      dir := rfl, params := rfl, alike := ⟨rfl, rfl, rfl, rfl, rfl, rfl⟩ }
  obtain ⟨written, -, -, alike⟩ := start.all (fun _ => mem_unitNumbers.mp) unitNumbers_nodup
  have frame : Changes [.units, .link, .notices, .counters] begun s.minuteTick := Changes.foldl (by simp) _ _
  refine ⟨s.minuteTick, exec_minuteTick on, fun u hu => ?_, frame .time (by decide), ?_, ?_, ?_, ?_⟩
  · rw [lates]
    exact written u hu
  · simp only [p, noticesAre]; exact alike.notices
  · simp only [p, noticesAre]; exact alike.link
  · simp only [p, noticesAre]; exact alike.counters
  · simp

end Sys2Proof.Machine
end


section
/-! PROOF. The receiver and the placing of frames (R182 to R185, R188). -/

set_option Elab.async false

namespace Sys2Proof.Machine

theorem exec_characterReceived {s : State} (on : s.power.on = true) (b : Byte) (fault : Bool) :
    exec (.characterReceived b fault) s = .next (s.character b fault) := next_whenOn on _

theorem exec_frameGapTimeout {s : State} (on : s.power.on = true) : exec .frameGapTimeout s = .next s.gapTimeout := next_whenOn on _

theorem exec_frameComplete {s : State} (on : s.power.on = true) : exec .frameComplete s = .next s.frameComplete := next_whenOn on _

theorem exec_replyEnd {s : State} (on : s.power.on = true) : exec .replyEnd s = .next s.replyEnd := next_whenOn on _

/-! ## Numbers in bytes and back -/

theorem ofBytes_u16 (x : BitVec 16) : ofBytes 16 [BitVec.ofNat 8 (x.toNat / 256), BitVec.ofNat 8 x.toNat] = x := by
  apply BitVec.eq_of_toNat_eq
  have := x.isLt
  simp only [ofBytes, List.foldl_cons, List.foldl_nil, BitVec.toNat_ofNat]
  omega

theorem ofBytes_u24 (x : BitVec 24) :
    ofBytes 24 [BitVec.ofNat 8 (x.toNat / 65536), BitVec.ofNat 8 (x.toNat / 256), BitVec.ofNat 8 x.toNat] = x := by
  apply BitVec.eq_of_toNat_eq
  have := x.isLt
  simp only [ofBytes, List.foldl_cons, List.foldl_nil, BitVec.toNat_ofNat]
  omega

theorem ofBytes_u32 (x : BitVec 32) :
    ofBytes 32 [BitVec.ofNat 8 (x.toNat / 65536 / 256), BitVec.ofNat 8 (x.toNat / 65536), BitVec.ofNat 8 (x.toNat / 256),
      BitVec.ofNat 8 x.toNat] = x := by
  apply BitVec.eq_of_toNat_eq
  have := x.isLt
  simp only [ofBytes, List.foldl_cons, List.foldl_nil, BitVec.toNat_ofNat]
  omega

/-- A length of at most 255 is read back from its two bytes. -/
theorem length_of_u16 {n : Nat} (h : n ≤ 255) : 256 * (BitVec.ofNat 8 (n / 256)).toNat + (BitVec.ofNat 8 n).toNat = n := by
  simp only [BitVec.toNat_ofNat]
  omega

/-! ## A frame on the line -/

/-- The bytes of a frame behind the start mark (R183). -/
def Frame.afterMark (f : Frame) : List Byte := Frame.covered f.tag f.type f.body ++ u16 f.crc.toNat

theorem Frame.afterMark_eq (f : Frame) : f.afterMark =
    BitVec.ofNat 8 (f.body.length / 256) :: BitVec.ofNat 8 f.body.length :: f.tag :: f.type :: (f.body ++ u16 f.crc.toNat) := by
  simp [Frame.afterMark, Frame.covered, u16, u8]

theorem frameOf_afterMark (f : Frame) (short : f.body.length ≤ 255) : frameOf f.afterMark = some f := by
  rw [f.afterMark_eq, frameOf]
  rw [length_of_u16 short, if_pos (by simp [u16, u8]), List.take_left, List.drop_left]
  exact congrArg (fun crc => some { f with crc := crc }) (ofBytes_u16 f.crc)

/-- Before its last CRC byte a frame is not complete. -/
theorem frameOf_prefix (f : Frame) (short : f.body.length ≤ 255) {pre post : List Byte} (parts : pre ++ post = f.afterMark)
    (more : post ≠ []) : frameOf pre = none := by
  unfold frameOf
  split
  case h_2 => rfl
  case h_1 l1 l0 tag type rest =>
    rw [f.afterMark_eq] at parts
    simp only [List.cons_append, List.cons.injEq] at parts
    obtain ⟨rfl, rfl, rfl, rfl, tail⟩ := parts
    have total := congrArg List.length tail
    have left := List.length_pos_iff.mpr more
    simp only [List.length_append, u16, u8, List.length_cons, List.length_nil] at total
    rw [length_of_u16 short]
    exact if_neg (by omega)

/-- The body length that the first two bytes give is within its bound. -/
theorem lengthBad_prefix (f : Frame) (short : f.body.length ≤ 255) {pre post : List Byte} (parts : pre ++ post = f.afterMark) :
    lengthBad pre = false := by
  unfold lengthBad
  split
  case h_2 => rfl
  case h_1 l1 l0 =>
    rw [f.afterMark_eq] at parts
    simp only [List.cons_append, List.cons.injEq] at parts
    obtain ⟨rfl, rfl, -⟩ := parts
    rw [length_of_u16 short]
    exact decide_eq_false (by omega)

/-- One byte of a frame whose last byte is still to come. -/
theorem character_inside {s : State} {pre : List Byte} {left : Nat} (inside : s.link.receiver = .assembling pre left) (b : Byte)
    (fine : lengthBad (pre ++ [b]) = false) (partial_ : frameOf (pre ++ [b]) = none) :
    s.character b false = s.setLink { s.link with receiver := .assembling (pre ++ [b]) 20 } := by
  simp [State.character, inside, State.assemble, fine, partial_]

/-- The last byte of a frame. -/
theorem character_last {s : State} {pre : List Byte} {left : Nat} (inside : s.link.receiver = .assembling pre left) (b : Byte) {f : Frame}
    (fine : lengthBad (pre ++ [b]) = false) (whole : frameOf (pre ++ [b]) = some f) :
    s.character b false = s.setLink { s.link with receiver := .hunting, completed := s.link.completed ++ [f] } := by
  simp [State.character, inside, State.assemble, fine, whole]

theorem step_character {s : State} (on : s.power.on = true) (b : Byte) (rest : List Instr) :
    step (s.setPending (.characterReceived b false :: rest)) = .next ((s.setPending rest).character b false) :=
  exec_characterReceived (s := s.setPending rest) on b false

/-- The bytes that are still to come complete the frame. -/
theorem run_assembling (f : Frame) (short : f.body.length ≤ 255) (post pre : List Byte) (left : Nat) (s : State) (on : s.power.on = true)
    (inside : s.link.receiver = .assembling pre left) (parts : pre ++ post = f.afterMark) (more : post ≠ []) :
    Host.Core.run core post.length (s.setPending (post.map fun b => .characterReceived b false)) =
      .next ((s.setPending []).setLink { s.link with receiver := .hunting, completed := s.link.completed ++ [f] }) := by
  induction post generalizing pre left s with
  | nil => exact absurd rfl more
  | cons b rest ih =>
    have now : (pre ++ [b]) ++ rest = f.afterMark := by rw [← parts]; simp
    have fine := lengthBad_prefix f short now
    by_cases done : rest = []
    · subst done
      have whole : frameOf (pre ++ [b]) = some f := by
        rw [List.append_nil] at now
        rw [now, frameOf_afterMark f short]
      have taken := character_last (s := s.setPending []) inside b fine whole
      exact run_succ ((step_character on b []).trans (congrArg Host.Outcome.next taken))
    · have taken := character_inside (s := s.setPending (rest.map fun b => .characterReceived b false)) inside b fine
        (frameOf_prefix f short now done)
      refine (run_succ ((step_character on b _).trans (congrArg Host.Outcome.next taken))).trans ?_
      exact ih (pre ++ [b]) 20 (s.setLink { s.link with receiver := .assembling (pre ++ [b]) 20 }) on rfl now done

/-- Settles O16: the start mark begins the frame, and `run_assembling` takes the bytes behind it. -/
theorem receiverAssemblesAFrame : Obligations.ReceiverAssemblesAFrame := by
  intro s f on hunting short
  have wire : f.wire = 0xC3#8 :: f.afterMark := by simp [Frame.wire, Frame.afterMark]
  have begins : (s.setPending (f.afterMark.map fun b => .characterReceived b false)).character 0xC3#8 false =
      (s.setLink { s.link with receiver := .assembling [] 20 }).setPending (f.afterMark.map fun b => .characterReceived b false) := by
    rw [State.character, State.setPending_link, hunting]
    rfl
  rw [wire]
  refine (run_succ ((step_character on 0xC3#8 _).trans (congrArg Host.Outcome.next begins))).trans ?_
  refine (run_assembling f short f.afterMark [] 20 (s.setLink { s.link with receiver := .assembling [] 20 }) on rfl rfl (by rw [f.afterMark_eq]; simp)).trans ?_
  simp only [State.setLink, State.setPending, ← hunting]

/-- Settles O17: each event by the receiver's condition. -/
theorem badFramesAreDiscardedAndCounted : Obligations.BadFramesAreDiscardedAndCounted := by
  intro s on bad
  refine ⟨fun hunting => ⟨?_, fun b fault => ?_⟩, fun bytes left inside => ⟨?_, fun b => ?_, ?_⟩⟩
  · rw [exec_frameGapTimeout on, State.gapTimeout, hunting]
  · rw [exec_characterReceived on, State.character, hunting]
    rfl
  · rw [exec_frameGapTimeout on, State.gapTimeout, inside]
    rfl
  · rw [exec_characterReceived on, State.character, inside]
    rfl
  · rintro l1 b rfl long
    rw [exec_characterReceived on, State.character, inside]
    have tooLong : lengthBad [l1, b] = true := decide_eq_true long
    exact congrArg Host.Outcome.next (if_pos tooLong)

/-! ## Placing a frame -/

theorem Frame.good_iff (f : Frame) : f.good = true ↔ f.crc = crc16 (Frame.covered f.tag f.type f.body) := by simp [Frame.good]

theorem frameComplete_eq {s : State} {f : Frame} {rest : List Frame} (first : s.link.completed = f :: rest) :
    s.frameComplete = (s.setLink { s.link with completed := rest }).placeFrame f := by rw [State.frameComplete, first]

/-- Settles O18: the three ways in which R185 places a frame that meets another. -/
theorem completeFramesArePlaced : Obligations.CompleteFramesArePlaced := by
  intro s f rest on first p good
  rw [exec_frameComplete on, frameComplete_eq first, State.placeFrame, State.setLink_link]
  refine ⟨fun inHand waiting => ?_, fun room bad => ?_, fun inHand waiting sound => ?_⟩
  · rw [if_pos ⟨inHand, waiting⟩]
    rfl
  · have room : ¬(s.link.inHand.isSome = true ∧ s.link.waiting.isSome = true) := by
      rintro ⟨inHand, waiting⟩
      simp [inHand, waiting] at room
    rw [if_neg room, if_pos (by simpa using mt f.good_iff.mp bad)]
    rfl
  · rw [if_neg (by simp [waiting]), if_neg (by simpa using f.good_iff.mpr sound), if_pos inHand]
    rfl

/-- A good frame that meets none in hand is taken in hand. -/
theorem placeFrame_handle {s : State} {f : Frame} (free : s.link.inHand = none) (good : f.good = true) : s.placeFrame f = s.handle f := by
  simp [State.placeFrame, free, good]

/-- Settles O22: the frame that waited is taken as `placeFrame_handle` takes one that meets none in hand. -/
theorem replyEndTakesTheWaitingFrame : Obligations.ReplyEndTakesTheWaitingFrame := by
  intro s on freed
  rw [exec_replyEnd on, State.replyEnd]
  refine ⟨fun idle => ?_, fun sending none => ?_, fun f sending waits good => ?_⟩
  · rw [if_pos (by simp [idle])]
  · rw [if_neg (by simp [Option.isNone_iff_eq_none, ← Option.isSome_iff_ne_none, sending])]
    simp only [State.setLink_link, none]
    exact congrArg Host.Outcome.next (by simp only [freed, State.setLink, none])
  · have on' : freed.power.on = true := on
    rw [if_neg (by simp [Option.isNone_iff_eq_none, ← Option.isSome_iff_ne_none, sending])]
    simp only [State.setLink_link, waits]
    refine Eq.trans ?_ (exec_frameComplete (s := freed.setLink { freed.link with waiting := none, completed := f :: s.link.completed }) on').symm
    rw [frameComplete_eq rfl, placeFrame_handle rfl good]
    rfl

/-- Settles O23: the expiry of the age timer by its condition. -/
theorem noticeAgeExpiryEntersStandalone : Obligations.NoticeAgeExpiryEntersStandalone := by
  intro s on
  refine (next_whenOn on _).trans ?_
  rw [State.ageExpiry]
  cases s.link.ageTimer <;> rfl

end Sys2Proof.Machine
end


section
/-! PROOF. IDENTIFY and the parameters (R116, R117, R127, R176, R191 to R194, R197). -/

set_option Elab.async false

namespace Sys2Proof.Machine

theorem exec_identify {s : State} (on : s.power.on = true) (tag : Byte) :
    let i := Instr.identify tag
    exec i s = .next (s.answered i (identify (s.taken i))) := congrArg Host.Outcome.next (whenOn_takeInHand on rfl _)

theorem exec_getParameters {s : State} (on : s.power.on = true) (tag group : Byte) :
    let i := Instr.getParameters tag group
    exec i s = .next (s.answered i (getParameters group (s.taken i))) := congrArg Host.Outcome.next (whenOn_takeInHand on rfl _)

/-- Settles O24: IDENTIFY by its bytes, GET_PARAMETERS by the group's code. -/
theorem linkAnswersForItself : Obligations.LinkAnswersForItself := by
  constructor
  · intro s tag on i h p o
    have took : s.taken i = o := by
      have figures : p.params = s.params := State.post_params _ _
      exact if_congr Iff.rfl (congrArg (fun q : Params => ({ p with link := { p.link with ageTimer := .running (q.link.ageLimit * 1000) } } : State))
        figures) rfl
    rw [exec_identify on, identify, State.answered_ok, took]
    rfl
  · intro s tag group on i o p
    rw [exec_getParameters on, getParameters]
    refine congrArg Host.Outcome.next ?_
    rcases group.toNat with _ | _ | _ | _ | _ | n <;> simp only [State.answered_ok, State.answered_refuse, State.taken_params] <;> rfl

/-- The checks of R116 that a group can fail: the others are the sizes of its fields. -/
theorem supplyGood_iff (kL kC : BitVec 16) (d : Byte) (lw hw c : BitVec 16) :
    (⟨kL.toNat, kC.toNat, d.toNat, lw.toNat, hw.toNat, c.toNat⟩ : SupplyParams).good = true ↔
      (1 ≤ kL.toNat ∧ kL.toNat ≤ 4095) ∧ (1 ≤ kC.toNat ∧ kC.toNat ≤ 4095) ∧ 1 ≤ d.toNat
        ∧ lw.toNat < hw.toNat ∧ hw.toNat ≤ c.toNat ∧ max kL.toNat kC.toNat ≤ c.toNat := by
  have := d.isLt
  have := c.isLt
  simp only [SupplyParams.good, Bool.and_eq_true, decide_eq_true_eq]
  omega

theorem u8_toNat (b : Byte) : u8 b.toNat = [b] := by simp [u8]

theorem exec_setParametersSupply {s : State} (on : s.power.on = true) (tag : Byte) (kL kC : BitVec 16) (d : Byte) (lw hw c : BitVec 16) :
    let i := Instr.setParametersSupply tag kL kC d lw hw c
    exec i s = .next (s.answered i (setSupplyGroup kL kC d lw hw c (s.taken i))) := congrArg Host.Outcome.next (whenOn_takeInHand on rfl _)

theorem State.applySupply_eq (s : State) (p : SupplyParams) :
    s.applySupply p =
      { s with
        params := { s.params with supply := p }
        supply := { s.supply with
          throttled := if p.hw ≤ s.supply.account then true else if s.supply.account ≤ p.lw then false else s.supply.throttled }
        arb := { s.arb with grantPass := true } } := rfl

/-- Settles O25: `supplyGood_iff` for the check, and the effect of R117 field by field. -/
theorem supplyGroupIsChecked : Obligations.SupplyGroupIsChecked := by
  intro s tag kL kC d lw hw c on i o sound
  rw [exec_setParametersSupply on, setSupplyGroup, State.answered_ite]
  refine congrArg Host.Outcome.next (if_congr (supplyGood_iff ..) ?_ rfl)
  rw [SupplyParams.bytes, State.answered_ok]
  dsimp only
  rw [u8_toNat]
  rw [State.applySupply_eq]

/-! ## The other groups -/

theorem yesNo?_eq (b : Byte) : yesNo? b = if b.toNat ≤ 1 then some (b.toNat == 1) else none := by
  unfold yesNo?
  by_cases zero : b = 0
  · subst zero; rfl
  · by_cases one : b = 1
    · subst one; rfl
    · rw [if_neg zero, if_neg one, if_neg (by bv_omega)]

theorem flag_of_yesNo {b : Byte} (h : b.toNat ≤ 1) : flag (b.toNat == 1) = [b] := by
  have : b = 0 ∨ b = 1 := by bv_omega
  obtain rfl | rfl := this <;> rfl

theorem exec_setParametersStrings {s : State} (on : s.power.on = true) (tag base mult allowance : Byte) (settle gap : BitVec 16)
    (auto interval : Byte) :
    let i := Instr.setParametersStrings tag base mult allowance settle gap auto interval
    exec i s = .next (s.answered i (setStringsGroup base mult allowance settle gap auto interval (s.taken i))) :=
  congrArg Host.Outcome.next (whenOn_takeInHand on rfl _)

theorem exec_setParametersTime {s : State} (on : s.power.on = true) (tag : Byte) (closing : BitVec 24) (enable : Byte)
    (urgency : BitVec 16) (lockers : Byte) (guest child family staff : BitVec 16) (occupancy : Byte) :
    let i := Instr.setParametersTime tag closing enable urgency lockers guest child family staff occupancy
    exec i s = .next (s.answered i (setTimeGroup closing enable urgency lockers guest child family staff occupancy (s.taken i))) :=
  congrArg Host.Outcome.next (whenOn_takeInHand on rfl _)

theorem exec_setParametersLink {s : State} (on : s.power.on = true) (tag age policy : Byte) :
    let i := Instr.setParametersLink tag age policy
    exec i s = .next (s.answered i (setLinkGroup age policy (s.taken i))) := congrArg Host.Outcome.next (whenOn_takeInHand on rfl _)

/-- The check of R127 on a group whose flag is in its range. -/
theorem stringsGood_iff (base mult allowance : Byte) (settle gap : BitVec 16) (auto : Bool) (interval : Byte) :
    (⟨base.toNat, mult.toNat, allowance.toNat, settle.toNat, gap.toNat, auto, interval.toNat⟩ : StringParams).good = true ↔
      base.toNat ≤ 2 ∧ mult.toNat ≤ 63 ∧ allowance.toNat ≤ 15 ∧ (50 ≤ settle.toNat ∧ settle.toNat ≤ 2000) ∧ gap.toNat ≤ 1000
        ∧ (1 ≤ interval.toNat ∧ interval.toNat ≤ 60) := by
  simp only [StringParams.good, Bool.and_eq_true, decide_eq_true_eq]
  tauto

/-- The check of R176 on a group whose flags are in their ranges. -/
theorem timeGood_iff (closing : BitVec 24) (on : Bool) (urgency : BitVec 16) (lockers : Bool) (guest child family staff : BitVec 16)
    (occupancy : Byte) :
    (⟨closing.toNat, on, urgency.toNat, lockers, guest.toNat, child.toNat, family.toNat, staff.toNat, occupancy.toNat⟩ : TimeParams).good =
        true ↔
      closing.toNat ≤ 86399 ∧ (500 ≤ urgency.toNat ∧ urgency.toNat ≤ 10000) ∧ guest.toNat ≤ 1440 ∧ child.toNat ≤ 1440
        ∧ family.toNat ≤ 1440 ∧ staff.toNat ≤ 1440 ∧ (1 ≤ occupancy.toNat ∧ occupancy.toNat ≤ 240) := by
  simp only [TimeParams.good, Bool.and_eq_true, decide_eq_true_eq]
  tauto

/-- Settles O26: each group's flags by `yesNo?_eq`, its other figures by the lemma on its check. -/
theorem otherGroupsAreChecked : Obligations.OtherGroupsAreChecked := by
  constructor
  · intro s tag base mult allowance settle gap auto interval on i o sound p stop
    rw [exec_setParametersStrings on, setStringsGroup, yesNo?_eq]
    refine congrArg Host.Outcome.next ?_
    by_cases flagOk : auto.toNat ≤ 1
    · rw [if_pos flagOk]
      dsimp only
      rw [State.answered_ite]
      refine if_congr ?_ ?_ rfl
      · rw [stringsGood_iff]; simp only [sound, flagOk, true_and]
      · rw [State.answered_ok, StringParams.bytes]
        dsimp only
        rw [u8_toNat, u8_toNat, u8_toNat, u8_toNat, flag_of_yesNo flagOk, State.applyStrings]
        simp only [beq_iff_eq]
        rfl
    · have unsound : ¬sound := fun h => flagOk h.2.2.2.2.2.1
      rw [if_neg flagOk, if_neg unsound]
      rfl
  · intro s tag on
    constructor
    · intro closing enable urgency lockers guest child family staff occupancy i o sound
      rw [exec_setParametersTime on, setTimeGroup, yesNo?_eq, yesNo?_eq]
      refine congrArg Host.Outcome.next ?_
      by_cases flagsOk : enable.toNat ≤ 1 ∧ lockers.toNat ≤ 1
      · rw [if_pos flagsOk.1, if_pos flagsOk.2]
        dsimp only
        rw [State.answered_ite]
        refine if_congr ?_ ?_ rfl
        · rw [timeGood_iff]; simp only [sound, flagsOk, true_and]
        · rw [State.answered_ok, TimeParams.bytes]
          dsimp only
          rw [flag_of_yesNo flagsOk.1, flag_of_yesNo flagsOk.2, u8_toNat]
          rfl
      · have unsound : ¬sound := fun h => flagsOk ⟨h.2.1, h.2.2.2.1⟩
        rw [if_neg unsound]
        obtain bad | bad := not_and_or.mp flagsOk
        · rw [if_neg bad]; rfl
        · rw [if_neg bad]
          split
          case h_1 same => cases same
          case h_2 => rfl
    · intro age policy i o
      rw [exec_setParametersLink on, setLinkGroup, yesNo?_eq]
      refine congrArg Host.Outcome.next ?_
      by_cases flagOk : policy.toNat ≤ 1
      · rw [if_pos flagOk]
        dsimp only
        rw [State.answered_ite]
        refine if_congr ?_ ?_ rfl
        · simp [LinkParams.good, flagOk]
        · rw [State.answered_ok, LinkParams.bytes]
          dsimp only
          rw [flag_of_yesNo flagOk, u8_toNat]
          rfl
      · rw [if_neg flagOk, if_neg (fun h => flagOk h.2)]
        rfl

end Sys2Proof.Machine
end


section
/-! PROOF. The frame of a request and its owner (R186, R189, R208). -/

set_option Elab.async false

namespace Sys2Proof.Machine

theorem Frame.make_good (tag type : Byte) (body : List Byte) : (Frame.make tag type body).good = true := by simp [Frame.good, Frame.make]

theorem owned {r : Host.Outcome State Fault Refusal} {f : Frame} {s : State} {act : State → State × Answer}
    (does : r = .next (s.whenOn fun s => s.takeInHand f act)) (owner : act = requestAct f) :
    r = .next (s.whenOn fun s => s.takeInHand f (requestAct f)) := by rw [does, owner]

/-- The owner of a request acts on the operands that its frame carries: each number of more than one byte is read back from its bytes. -/
theorem exec_eq_requestAct {i : Instr} {f : Frame} (carries : i.frame? = some f) (s : State) :
    exec i s = .next (s.whenOn fun s => s.takeInHand f (requestAct f)) := by
  cases i <;> cases carries
  case setParametersSupply =>
    exact owned rfl (funext fun s => by
      simp [requestAct, requestOf, Frame.make, u8, u16, setParameters, ofBytes_u16, -BitVec.ofNat_toNat])
  case setParametersStrings =>
    exact owned rfl (funext fun s => by
      simp [requestAct, requestOf, Frame.make, u8, u16, setParameters, ofBytes_u16, -BitVec.ofNat_toNat])
  case setParametersTime =>
    exact owned rfl (funext fun s => by
      simp [requestAct, requestOf, Frame.make, u8, u16, u24, setParameters, ofBytes_u16, ofBytes_u24, -BitVec.ofNat_toNat])
  case listUnits =>
    exact owned rfl (funext fun s => by
      simp [requestAct, requestOf, Frame.make, u8, u16, listUnitsBody, ofBytes_u16, -BitVec.ofNat_toNat])
  case registerBand =>
    exact owned rfl (funext fun s => by
      simp [requestAct, requestOf, Frame.make, u8, u16, u32, registerBandBody, ofBytes_u16, ofBytes_u32, -BitVec.ofNat_toNat])
  case amendBand =>
    exact owned rfl (funext fun s => by
      simp [requestAct, requestOf, Frame.make, u8, u16, u32, amendBandBody, ofBytes_u16, ofBytes_u32, -BitVec.ofNat_toNat])
  case checkOutBand =>
    exact owned rfl (funext fun s => by
      simp [requestAct, requestOf, Frame.make, u8, u16, u32, checkOutBandBody, ofBytes_u32, -BitVec.ofNat_toNat])
  case reportLost =>
    exact owned rfl (funext fun s => by
      simp [requestAct, requestOf, Frame.make, u8, u16, u32, bandOnly, ofBytes_u32, -BitVec.ofNat_toNat])
  case transferHoldings =>
    exact owned rfl (funext fun s => by
      simp [requestAct, requestOf, Frame.make, u8, u16, u32, transferBody, ofBytes_u32, -BitVec.ofNat_toNat])
  case queryBand =>
    exact owned rfl (funext fun s => by
      simp [requestAct, requestOf, Frame.make, u8, u16, u32, bandOnly, ofBytes_u32, -BitVec.ofNat_toNat])
  case listBands =>
    exact owned rfl (funext fun s => by
      simp [requestAct, requestOf, Frame.make, u8, u16, u32, listBandsBody, ofBytes_u32, -BitVec.ofNat_toNat])
  case setClock =>
    exact owned rfl (funext fun s => by
      simp [requestAct, requestOf, Frame.make, u8, u16, u24, threeByteNumber, ofBytes_u24, -BitVec.ofNat_toNat])
  case setNoticeEnables =>
    exact owned rfl (funext fun s => by
      simp [requestAct, requestOf, Frame.make, u8, u16, u24, threeByteNumber, ofBytes_u24, -BitVec.ofNat_toNat])
  all_goals rfl

/-- Settles O20: a frame that meets none in hand is taken in hand, and `exec_eq_requestAct` says that its owner then does what the command does. -/
theorem requestFramesDoTheirCommand : Obligations.RequestFramesDoTheirCommand := by
  intro i f s carries on free
  have good : f.good = true := by cases i <;> cases carries <;> exact Frame.make_good _ _ _
  refine ⟨good, ?_⟩
  rw [exec_eq_requestAct carries, State.whenOn, if_pos on]
  refine (exec_frameComplete (s := { s with link := { s.link with completed := f :: s.link.completed } }) on).trans ?_
  rw [frameComplete_eq rfl]
  exact congrArg Host.Outcome.next (placeFrame_handle (s := s) free good)

end Sys2Proof.Machine
end


section
/-! PROOF. Requests that are refused for their type or their length (R186, R191, R208). -/

set_option Elab.async false

namespace Sys2Proof.Machine

/-! ## The frame in hand -/

theorem kindEnabled_setLink (s : State) (l : DeskLink) (k : NoticeKind) : (s.setLink l).kindEnabled k = s.kindEnabled k := rfl

/-- Posting reads of the link its age timer alone. -/
theorem post_setInHand (s : State) (x : Option Frame) (d : NoticeData) :
    (s.setLink { s.link with inHand := x }).post d = (s.post d).setLink { (s.post d).link with inHand := x } := by
  unfold State.post
  rw [kindEnabled_setLink]
  by_cases off : (!s.kindEnabled d.kind) = true
  · rw [if_pos off, if_pos off]
  · rw [if_neg off, if_neg off]
    by_cases full : Config.noticeCapacity ≤ s.notices.stored.length
    · rw [if_pos full]; exact if_pos full
    · rw [if_neg full]; exact if_neg full

/-- The return of the link is the same whichever frame is in hand. -/
theorem linkReturn_setInHand (s : State) (x : Option Frame) :
    (s.setLink { s.link with inHand := x }).linkReturn = s.linkReturn.setLink { s.linkReturn.link with inHand := x } := by
  by_cases alone : s.link.state = .standalone
  · have post := post_setInHand (s.setLink { s.link with state := .linked }) x
      { kind := .linkState, code := .link .linked, value := some s.provisionalCount }
    have relink : s.linkReturn = s.relink := if_pos alone
    rw [relink]
    refine (if_pos alone).trans ?_
    exact congrArg (fun t : State => t.setLink { t.link with ageTimer := .running (t.params.link.ageLimit * 1000) }) post
  · have stays : s.linkReturn = s := if_neg alone
    rw [stays]
    exact if_neg alone

/-! ## Refusals -/

/-- A frame that meets none in hand and whose type or length its owner refuses is answered with status and flags alone. -/
theorem exec_frameComplete_refused {s : State} {f : Frame} (on : s.power.on = true) (free : s.link.inHand = none)
    (first : s.link.completed = [f]) (good : f.good = true) {st : Status} (refuses : requestAct f = fun t => t.refuse st) :
    let p : State := { s with link := { s.link with completed := [] } }
    let o : State := { p.taken (.identify 0) with link := { (p.taken (.identify 0)).link with inHand := some f } }
    let flags := o.link.overrun.toNat + 2 * (!o.notices.stored.isEmpty).toNat + 4 * (s.link.state == .standalone).toNat
    exec .frameComplete s = .next
      { o with link := { o.link with
          overrun := false
          reply := some (Frame.make f.tag (f.type + 0x80#8) [BitVec.ofNat 8 st.code, BitVec.ofNat 8 flags]) } } := by
  intro p o flags
  have took : (p.setLink { p.link with inHand := some f }).linkReturn = o := by
    rw [linkReturn_setInHand]
    have again := linkReturn_setInHand p (Instr.identify 0).frame?
    rw [← taken_eq_linkReturn] at again
    simp only [o, again]
    rfl
  rw [exec_frameComplete on, frameComplete_eq first]
  refine congrArg Host.Outcome.next ((placeFrame_handle (s := p) free good).trans ?_)
  rw [State.handle, State.takeInHand, refuses]
  refine ((congrArg (fun t : State => t.formReply f { status := st, content := [] } _) took).trans ?_)
  rw [State.formReply, State.replyBody, linkFlags_eq_sum]
  rfl

/-! ## Bodies of a wrong length -/

/-- The owner of a request takes no body but one of `n` bytes. -/
def RefusesLength (n : Nat) (act : List Byte → State → State × Answer) : Prop := ∀ body : List Byte, body.length ≠ n → act body = badLength

@[simp] theorem refusesLength_bodyless {act : State → State × Answer} : RefusesLength 0 (bodyless act) := by
  intro body long
  funext s
  unfold bodyless
  split
  · exact absurd rfl long
  · rfl

@[simp] theorem refusesLength_oneByte {act : Byte → State → State × Answer} : RefusesLength 1 (oneByte act) := by
  intro body long
  funext s
  unfold oneByte
  split
  · exact absurd rfl long
  · rfl

@[simp] theorem refusesLength_twoBytes {act : Byte → Byte → State → State × Answer} : RefusesLength 2 (twoBytes act) := by
  intro body long
  funext s
  unfold twoBytes
  split
  · exact absurd rfl long
  · rfl

@[simp] theorem refusesLength_threeBytes {act : Byte → Byte → Byte → State → State × Answer} : RefusesLength 3 (threeBytes act) := by
  intro body long
  funext s
  unfold threeBytes
  split
  · exact absurd rfl long
  · rfl

@[simp] theorem refusesLength_threeByteNumber {act : BitVec 24 → State → State × Answer} : RefusesLength 3 (threeByteNumber act) := by
  intro body long
  funext s
  unfold threeByteNumber
  split
  · exact absurd rfl long
  · rfl

@[simp] theorem refusesLength_bandOnly {act : BandId → State → State × Answer} : RefusesLength 4 (bandOnly act) := by
  intro body long
  funext s
  unfold bandOnly
  split
  · exact absurd rfl long
  · rfl

@[simp] theorem refusesLength_listUnitsBody : RefusesLength 5 listUnitsBody := by
  intro body long
  funext s
  unfold listUnitsBody
  split
  · exact absurd rfl long
  · rfl

@[simp] theorem refusesLength_checkOutBandBody : RefusesLength 5 checkOutBandBody := by
  intro body long
  funext s
  unfold checkOutBandBody
  split
  · exact absurd rfl long
  · rfl

@[simp] theorem refusesLength_listBandsBody : RefusesLength 5 listBandsBody := by
  intro body long
  funext s
  unfold listBandsBody
  split
  · exact absurd rfl long
  · rfl

@[simp] theorem refusesLength_configureUnitBody : RefusesLength 7 configureUnitBody := by
  intro body long
  funext s
  unfold configureUnitBody
  split
  · exact absurd rfl long
  · rfl

@[simp] theorem refusesLength_transferBody : RefusesLength 8 transferBody := by
  intro body long
  funext s
  unfold transferBody
  split
  · exact absurd rfl long
  · rfl

@[simp] theorem refusesLength_registerBandBody : RefusesLength 10 registerBandBody := by
  intro body long
  funext s
  unfold registerBandBody
  split
  · exact absurd rfl long
  · rfl

@[simp] theorem refusesLength_amendBandBody : RefusesLength 11 amendBandBody := by
  intro body long
  funext s
  unfold amendBandBody
  split
  · exact absurd rfl long
  · rfl

/-- Each request type of the table but SET_PARAMETERS takes the body length that the table gives it. -/
theorem requestOf_of_length {type n : Nat} (length : requestLength type = some n) :
    ∃ act, requestOf type = some act ∧ RefusesLength n act := by
  unfold requestLength at length
  split at length <;> cases length <;> exact ⟨_, rfl, by simp⟩

theorem requestOf_of_no_length {type : Nat} (unknown : requestLength type = none) (other : type ≠ 2) : requestOf type = none := by
  unfold requestOf
  split
  case h_2 => exact absurd rfl other
  case h_38 => rfl
  all_goals exact absurd unknown (by decide)

/-- The groups of SET_PARAMETERS and the lengths that go with them (R208). -/
theorem groupLength_cases {code n : Nat} (length : groupLength code = some n) :
    (code = 1 ∧ n = 11) ∨ (code = 2 ∧ n = 9) ∨ (code = 3 ∧ n = 16) ∨ (code = 4 ∧ n = 2) := by
  unfold groupLength at length
  split at length <;> cases length <;> simp

theorem groupLength_none {code : Nat} (unknown : groupLength code = none) : code ≠ 1 ∧ code ≠ 2 ∧ code ≠ 3 ∧ code ≠ 4 := by
  refine ⟨?_, ?_, ?_, ?_⟩ <;> rintro rfl <;> cases unknown

/-- SET_PARAMETERS takes no group but one of its length (R191). -/
theorem setParameters_of_length {group : Byte} {fields : List Byte} {n : Nat} (length : groupLength group.toNat = some n)
    (wrong : fields.length ≠ n) : setParameters (group :: fields) = badLength := by
  funext s
  unfold setParameters
  obtain ⟨code, rfl⟩ | ⟨code, rfl⟩ | ⟨code, rfl⟩ | ⟨code, rfl⟩ := groupLength_cases length
  all_goals
    simp only [code]
    split
    case h_1 => exact absurd rfl wrong
    case h_2 => rfl

theorem setParameters_of_no_group {group : Byte} {fields : List Byte} (unknown : groupLength group.toNat = none) :
    setParameters (group :: fields) = fun s => s.refuse .badValue := by
  obtain ⟨not1, not2, not3, not4⟩ := groupLength_none unknown
  funext s
  unfold setParameters
  dsimp only
  split
  case h_1 code => exact absurd code not1
  case h_2 code => exact absurd code not2
  case h_3 code => exact absurd code not3
  case h_4 code => exact absurd code not4
  case h_5 => rfl

/-- Settles O21: each refusal by the lemma on its check, answered as `exec_frameComplete_refused` says. -/
theorem unknownTypesAndWrongLengthsAreRefused : Obligations.UnknownTypesAndWrongLengthsAreRefused := by
  intro s f on free first good i p o refused
  have answers : ∀ {st}, requestAct f = (fun t => t.refuse st) → exec .frameComplete s = refused st :=
    fun refuses => exec_frameComplete_refused on free first good refuses
  have owner : requestOf f.type.toNat = some setParameters → requestAct f = setParameters f.body := fun h => by
    funext t
    rw [requestAct, h]
  refine ⟨fun other unknown => answers ?_, fun n length wrong => answers ?_, fun set => ?_⟩
  · have : requestOf f.type.toNat = none := requestOf_of_no_length unknown (by bv_omega)
    funext t
    simp only [requestAct, this]
  · obtain ⟨act, owned, refuses⟩ := requestOf_of_length length
    funext t
    simp only [requestAct, owned, refuses f.body wrong, badLength]
  · have act := owner (by rw [set]; rfl)
    refine ⟨fun empty => answers ?_, fun g rest body => ⟨fun unknown => answers ?_, fun n length wrong => answers ?_⟩⟩
    · rw [act, empty]; rfl
    · rw [act, body, setParameters_of_no_group unknown]
    · rw [act, body, setParameters_of_length length wrong]; rfl

end Sys2Proof.Machine
end


section
/-! PROOF. Strings and slots: what is read after a write. -/

set_option Elab.async false

namespace Sys2Proof.Machine

@[simp] theorem PerString.get_set_self {α : Type} (p : PerString α) (i : StringId) (x : α) : (p.set i x).get i = x := by
  cases i <;> rfl

theorem PerString.get_set_other {α : Type} (p : PerString α) {i j : StringId} (ne : j ≠ i) (x : α) : (p.set i x).get j = p.get j := by
  cases i <;> cases j <;> first | rfl | exact absurd rfl ne

theorem PerString.get_set {α : Type} (p : PerString α) (i j : StringId) (x : α) : (p.set i x).get j = if j = i then x else p.get j := by
  split
  case isTrue same => rw [same, PerString.get_set_self]
  case isFalse ne => exact p.get_set_other ne x

@[simp] theorem PerString.set_get {α : Type} (p : PerString α) (i : StringId) : p.set i (p.get i) = p := by cases i <;> rfl

@[simp] theorem PerString.set_set {α : Type} (p : PerString α) (i : StringId) (x y : α) : (p.set i x).set i y = p.set i y := by cases i <;> rfl

@[simp] theorem PerString.get_map {α β : Type} (f : α → β) (p : PerString α) (i : StringId) : (p.map f).get i = f (p.get i) := by cases i <;> rfl

@[simp] theorem State.str_setStr_self (s : State) (i : StringId) (c : StringCtl) : (s.setStr i c).str i = c := PerString.get_set_self _ i c

theorem State.str_setStr_other (s : State) {i j : StringId} (ne : j ≠ i) (c : StringCtl) : (s.setStr i c).str j = s.str j :=
  PerString.get_set_other _ ne c

theorem State.str_setStr (s : State) (i j : StringId) (c : StringCtl) : (s.setStr i c).str j = if j = i then c else s.str j :=
  PerString.get_set _ i j c

@[simp] theorem State.slot_setSlot_self (s : State) (k : SlotId) (x : SweepSlot) : (s.setSlot k x).slot k = x := by cases k <;> rfl

theorem State.slot_setSlot_other (s : State) {k l : SlotId} (ne : l ≠ k) (x : SweepSlot) : (s.setSlot k x).slot l = s.slot l := by
  cases k <;> cases l <;> first | rfl | exact absurd rfl ne

end Sys2Proof.Machine
end

section
/-! PROOF. The laws that acts keep, each law a relation between the state before an act and the state after it. The statements about every command
(O19, O45, O57 to O59) go act by act through these lemmas. -/

set_option Elab.async false

namespace Sys2Proof.Machine

/-- What an act may keep: the Desk Link but for its age timer, the law of the notices, each string free of an actuation, the addresses of the rosters,
the place of each unit, the state and the score of each string, the law of held lines, the law of scores, the law of the sweep slots, the law of the books,
the law of movements, the laws of the figures and of the account, the levels of the lines with main power, and the account, which does not
rise. -/
inductive Law where
  | link | notices | inFlight | rosters | places | states | held | scores | sweeps | books | moves | figures | supply | lines | account
deriving DecidableEq

/-- The addresses of a string's roster. -/
def StringCtl.addrs (c : StringCtl) : List Nat := c.nodes.map (·.addr)

def State.HeldInv (s : State) : Prop := ∀ i, (s.str i).held = true → s.arb.grantPass = true

/-- The part of the law of tenancy that speaks of holders and holdings. -/
def State.BooksInv (s : State) : Prop :=
  s.DirectoryInv
    ∧ (∀ u b, isUnit u → ((s.unit u).holder = some b ↔ ∃ e ∈ s.dir, e.id = b ∧ u ∈ e.holdings))
    ∧ ∀ e ∈ s.dir, e.holdings.Nodup ∧ ∀ u ∈ e.holdings, isUnit u

/-- The part of the law of tenancy that speaks of the queue, the demands, and the unit at each movement owed. -/
def State.MovesInv (s : State) : Prop :=
  s.QueueInv
    ∧ (∀ u, isUnit u → (s.unit u).sound)
    ∧ (∀ u, s.movements u = if (s.unit u).state = .locking ∨ (s.unit u).state = .unlocking then 1 else 0)
    ∧ (∀ d ∈ s.arb.demands, d.inFlight = false → ∃ r ∈ s.arb.queue, r.unit = d.unit ∧ r.tag = some d.tag)
    ∧ ∀ r ∈ s.arb.queue, r.origin ≠ .staff → r.tag = none

theorem tenancyInv_iff (s : State) : s.TenancyInv ↔ s.BooksInv ∧ s.MovesInv := by
  unfold State.TenancyInv State.BooksInv State.MovesInv
  tauto

/-- The recorded levels of the lines, the levels that stand on them, and main power. -/
def State.lineLevels (s : State) : Bool × Bool × Bool × Pins × Power := (s.sweeps.alarm, s.supply.lowLevel, s.supply.limitLevel, s.pins, s.power)

/-- What it means that an act that leads from `s` to `t` keeps a law. -/
def Law.kept (s t : State) : Law → Prop
  | .link => ∃ timer, t.link = { s.link with ageTimer := timer }
  | .notices => s.NoticeInv → t.NoticeInv
  | .inFlight => ∀ i, (s.str i).inFlight = none → (t.str i).inFlight = none
  | .rosters => ∀ i, (t.str i).addrs = (s.str i).addrs
  | .places => ∀ u, t.unitNode u = s.unitNode u
  | .states => ∀ i, (t.str i).state = (s.str i).state ∧ (t.str i).score = (s.str i).score
  | .held => s.HeldInv → t.HeldInv
  | .scores => (∀ i, (s.str i).ScoreInv) → ∀ i, (t.str i).ScoreInv
  | .sweeps => s.SweepInv → t.SweepInv
  | .books => s.BooksInv → t.BooksInv
  | .moves => s.MovesInv → t.MovesInv
  | .figures => s.FiguresInv → t.FiguresInv
  | .supply => s.SupplyInv → t.SupplyInv
  | .lines => t.lineLevels = s.lineLevels
  | .account => t.supply.account ≤ s.supply.account

/-- An act that leads from `s` to `t` keeps the laws `ls`. -/
def Keeps (ls : List Law) (s t : State) : Prop := ∀ l ∈ ls, l.kept s t

variable {ls : List Law} {r s t : State}

theorem Law.kept_refl (l : Law) : l.kept s s := by
  cases l
  case link => exact ⟨s.link.ageTimer, rfl⟩
  case rosters | places => exact fun _ => rfl
  case states => exact fun _ => ⟨rfl, rfl⟩
  case inFlight => exact fun _ => id
  case lines => exact rfl
  case account => exact le_refl s.supply.account
  all_goals exact id

theorem Law.kept.trans {l : Law} (h : l.kept r s) (h' : l.kept s t) : l.kept r t := by
  cases l
  case link =>
    obtain ⟨x, hx⟩ := h
    obtain ⟨y, hy⟩ := h'
    exact ⟨y, by rw [hy, hx]⟩
  case rosters | places => exact fun i => (h' i).trans (h i)
  case states => exact fun i => ⟨(h' i).1.trans (h i).1, (h' i).2.trans (h i).2⟩
  case inFlight => exact fun i free => h' i (h i free)
  case lines => exact Eq.trans h' h
  case account => exact le_trans (α := Nat) h' h
  all_goals exact fun x => h' (h x)

theorem Keeps.refl : Keeps ls s s := fun l _ => l.kept_refl

theorem Keeps.trans (h : Keeps ls r s) (h' : Keeps ls s t) : Keeps ls r t := fun l mem => (h l mem).trans (h' l mem)

theorem Keeps.mono {ms : List Law} (h : Keeps ls s t) (sub : ms ⊆ ls) : Keeps ms s t := fun l mem => h l (sub mem)

theorem Keeps.foldl {α : Type} {f : State → α → State} (h : ∀ s a, Keeps ls s (f s a)) (xs : List α) (s : State) : Keeps ls s (xs.foldl f s) := by
  induction xs generalizing s with
  | nil => exact Keeps.refl
  | cons x xs ih => exact (h s x).trans (ih _)

/-! ## Strings -/

/-- Two records of a string on which no law but that of a held line distinguishes them. -/
structure StringCtl.Like (c d : StringCtl) : Prop where
  inFlight : d.inFlight.map (·.unit) = c.inFlight.map (·.unit)
  addrs : d.addrs = c.addrs
  state : d.state = c.state
  score : d.score = c.score
  held : d.held = true → c.held = true

theorem StringCtl.Like.refl (c : StringCtl) : c.Like c := ⟨rfl, rfl, rfl, rfl, id⟩

theorem StringCtl.addrs_eq_nil (c : StringCtl) : c.addrs = [] ↔ c.nodes = [] := List.map_eq_nil_iff

theorem StringCtl.scoreInv_congr {c d : StringCtl} (addrs : d.addrs = c.addrs) (state : d.state = c.state) (score : d.score = c.score) :
    d.ScoreInv ↔ c.ScoreInv := by
  have nodes : d.nodes = [] ↔ c.nodes = [] := by rw [← addrs_eq_nil, ← addrs_eq_nil, addrs]
  simp only [StringCtl.ScoreInv, state, score, nodes]

/-- The movements owed over the strings rest on the units of their actuations. -/
theorem movements_congr {s t : State} (queue : t.arb.queue = s.arb.queue)
    (units : ∀ i, (t.str i).inFlight.map (·.unit) = (s.str i).inFlight.map (·.unit)) (u : Nat) : t.movements u = s.movements u := by
  have owed : ∀ i, (t.str i).inFlight.elim false (·.unit == u) = (s.str i).inFlight.elim false (·.unit == u) := by
    intro i
    have h := congrArg (fun o : Option Nat => o.elim false (· == u)) (units i)
    simpa only [Option.elim_map, Function.comp_def] using h
  have a := owed .a
  have b := owed .b
  have c := owed .c
  have d := owed .d
  simp only [State.str, PerString.get] at a b c d
  simp only [State.movements, queue, PerString.toList, List.countP_cons, List.countP_nil, a, b, c, d]

/-- The laws that speak of the figures and of the lines alone. -/
def Law.ofFigures (l : Law) : Prop := l = .figures ∨ l = .supply ∨ l = .lines ∨ l = .account

/-- An act that leaves alone the figures and the levels of the lines. -/
theorem kept_figures {l : Law} (which : l.ofFigures)
    (same : Changes [.units, .dir, .decisions, .arb, .strings, .sweeps, .link, .notices, .enables, .counters, .census, .pending] s t)
    (alarm : t.sweeps.alarm = s.sweeps.alarm) : l.kept s t := by
  have params : t.params = s.params := same .params (by decide)
  have time : t.time = s.time := same .time (by decide)
  have supply : t.supply = s.supply := same .supply (by decide)
  have pins : t.pins = s.pins := same .pins (by decide)
  have power : t.power = s.power := same .power (by decide)
  obtain rfl | rfl | rfl | rfl := which
  · exact fun inv => by simpa only [State.FiguresInv, params, time] using inv
  · exact fun inv => by simpa only [State.SupplyInv, params, supply] using inv
  · change t.lineLevels = s.lineLevels
    rw [State.lineLevels, State.lineLevels, alarm, supply, pins, power]
  · change t.supply.account ≤ s.supply.account
    rw [supply]

/-- An act on the strings, and on blocks of which no other law speaks, that leaves each string alike. -/
theorem kept_of_like {l : Law} (same : Changes [.strings, .counters, .decisions, .time, .enables, .census, .params, .pins, .power, .pending, .supply] s t)
    (figures : l.ofFigures → l.kept s t) (like : ∀ i, (s.str i).Like (t.str i)) : l.kept s t := by
  have units : t.units = s.units := same .units (by decide)
  have dir : t.dir = s.dir := same .dir (by decide)
  have arb : t.arb = s.arb := same .arb (by decide)
  have link : t.link = s.link := same .link (by decide)
  have notices : t.notices = s.notices := same .notices (by decide)
  have sweeps : t.sweeps = s.sweeps := same .sweeps (by decide)
  have unit : ∀ u, t.unit u = s.unit u := fun u => State.unit_congr units u
  cases l
  case link => exact ⟨s.link.ageTimer, link⟩
  case notices => exact fun inv => by simpa only [State.NoticeInv, link, notices] using inv
  case inFlight => exact fun i free => by simpa [free] using (like i).inFlight
  case rosters => exact fun i => (like i).addrs
  case places => exact fun u => by rw [State.unitNode, unit, State.unitNode]
  case states => exact fun i => ⟨(like i).state, (like i).score⟩
  case held => exact fun inv i held => by rw [arb]; exact inv i ((like i).held held)
  case scores => exact fun inv i => (StringCtl.scoreInv_congr (like i).addrs (like i).state (like i).score).mpr (inv i)
  case sweeps => exact fun inv => by simpa only [State.SweepInv, sweeps] using inv
  case books => exact fun inv => by simpa only [State.BooksInv, State.DirectoryInv, unit, dir] using inv
  case moves =>
    have moves : ∀ u, t.movements u = s.movements u := movements_congr (by rw [arb]) fun i => (like i).inFlight
    exact fun inv => by simpa only [State.MovesInv, State.QueueInv, unit, arb, moves] using inv
  case figures | supply | lines | account => exact figures (by simp [Law.ofFigures])

end Sys2Proof.Machine
end


section
/-! PROOF. The laws that the updates of one block keep. -/

set_option Elab.async false

namespace Sys2Proof.Machine

variable {ls : List Law} {s t : State}

/-- An act on the figures and the levels of the lines keeps the laws that do not speak of them, and those that do as far as it is shown to. -/
theorem Keeps.figured (h : Keeps ls s t) {r : State}
    (same : Changes [.counters, .decisions, .time, .enables, .census, .params, .pins, .power, .pending, .supply] t r)
    (figures : .figures ∈ ls → t.FiguresInv → r.FiguresInv) (supply : .supply ∈ ls → t.SupplyInv → r.SupplyInv)
    (lines : .lines ∈ ls → r.lineLevels = t.lineLevels)
    (account : .account ∈ ls → r.supply.account ≤ t.supply.account := by exact fun _ => le_rfl) : Keeps ls s r :=
  h.trans fun l mem => kept_of_like (same.mono (by decide))
    (fun which => by
      obtain rfl | rfl | rfl | rfl := which
      exacts [figures mem, supply mem, lines mem, account mem])
    fun i => by
      have : r.str i = t.str i := by rw [State.str, State.str, same .strings (by decide)]
      rw [this]
      exact .refl _

/-- An act that leaves the blocks alone of which the laws speak. -/
theorem Keeps.apart (h : Keeps ls s t) {r : State} (same : Changes [.counters, .decisions, .enables, .census, .pending] t r) : Keeps ls s r :=
  have kept := fun l which => kept_figures (l := l) which (same.mono (by decide)) (congrArg Sweeps.alarm (same .sweeps (by decide)))
  h.figured (same.mono (by decide)) (fun _ => kept .figures (by simp [Law.ofFigures])) (fun _ => kept .supply (by simp [Law.ofFigures]))
    (fun _ => kept .lines (by simp [Law.ofFigures])) fun _ => kept .account (by simp [Law.ofFigures])

theorem keeps_setDecisions (h : Keeps ls s t) (x : List Decision) : Keeps ls s (t.setDecisions x) := h.apart (by simp)

/-- A write to the account keeps the law of the account where it is shown to, and leaves the levels of its lines. -/
theorem keeps_setSupply (h : Keeps ls s t) {x : Supply} (supply : .supply ∈ ls → t.SupplyInv → (t.setSupply x).SupplyInv)
    (lines : .lines ∈ ls → x.lowLevel = t.supply.lowLevel ∧ x.limitLevel = t.supply.limitLevel)
    (account : .account ∈ ls → x.account ≤ t.supply.account := by exact fun _ => le_rfl) : Keeps ls s (t.setSupply x) :=
  h.figured (by simp) (fun _ => id) supply
    (fun mem => by
      obtain ⟨low, limit⟩ := lines mem
      simp only [State.lineLevels, State.setSupply, low, limit])
    account

/-- A write to the time block leaves a second of day. -/
theorem keeps_setTime (h : Keeps ls s t) {x : TimeBlock} (second : .figures ∈ ls → t.time.second ≤ 86399 → x.second ≤ 86399) : Keeps ls s (t.setTime x) :=
  h.figured (by simp) (fun mem ⟨strings, time, link, now⟩ => ⟨strings, time, link, second mem now⟩) (fun _ => id) fun _ => rfl

/-- A write to the figures of the strings, of the time and of the link, each within its ranges. -/
theorem keeps_setParams (h : Keeps ls s t) {x : Params} (supply : x.supply = t.params.supply)
    (figures : .figures ∈ ls → t.params.strings.good = true → t.params.time.good = true → t.params.link.good = true →
      x.strings.good = true ∧ x.time.good = true ∧ x.link.good = true) : Keeps ls s (t.setParams x) :=
  h.figured (by simp)
    (fun mem ⟨strings, time, link, now⟩ =>
      have ⟨strings', time', link'⟩ := figures mem strings time link
      ⟨strings', time', link', now⟩)
    (fun _ inv => by simpa only [State.SupplyInv, State.setParams, supply] using inv) fun _ => rfl

theorem keeps_count (h : Keeps ls s t) (f : Counters → Counters) : Keeps ls s (t.count f) := h.apart (by simp)
theorem keeps_countString (h : Keeps ls s t) (i : StringId) (f : StringCounters → StringCounters) : Keeps ls s (t.countString i f) :=
  h.apart (by simp)

/-! ## Strings -/

theorem keeps_setStr (h : Keeps ls s t) {i : StringId} {c : StringCtl} (like : (t.str i).Like c) : Keeps ls s (t.setStr i c) :=
  h.trans fun l _ => kept_of_like (by simp) (fun which => kept_figures which (by simp) rfl) fun j => by
    rw [State.str_setStr]
    split
    case isTrue same => rw [same]; exact like
    case isFalse => exact .refl _

/-- What each of the laws `ls` asks of a string's new record `d` after `c`; with a grant pass due a line may be held. -/
structure StringCtl.Fits (ls : List Law) (due : Bool) (c d : StringCtl) : Prop where
  flight : .inFlight ∈ ls → c.inFlight = none → d.inFlight = none := by exact fun _ => id
  addrs : .rosters ∈ ls → d.addrs = c.addrs := by exact fun _ => rfl
  states : .states ∈ ls → d.state = c.state ∧ d.score = c.score := by exact fun _ => ⟨rfl, rfl⟩
  scores : .scores ∈ ls → c.ScoreInv → d.ScoreInv := by exact fun _ => (StringCtl.scoreInv_congr rfl rfl rfl).mpr
  held : .held ∈ ls → d.held = true → c.held = true ∨ due = true := by exact fun _ => .inl
  moves : .moves ∈ ls → d.inFlight.map (·.unit) = c.inFlight.map (·.unit) := by exact fun _ => rfl

/-- A string's new record keeps the laws that it fits. -/
theorem keeps_setStr_of (h : Keeps ls s t) {i : StringId} {c : StringCtl} (fits : (t.str i).Fits ls t.arb.grantPass c) : Keeps ls s (t.setStr i c) :=
  h.trans fun l mem => by
    have str : ∀ j, (t.setStr i c).str j = if j = i then c else t.str j := fun j => t.str_setStr i j c
    have by_string : ∀ P : StringId → StringCtl → Prop, P i c → (∀ j, P j (t.str j)) → ∀ j, P j ((t.setStr i c).str j) := by
      intro P new old j
      rw [str]
      split
      case isTrue same => rw [same]; exact new
      case isFalse => exact old j
    cases l
    case link => exact ⟨t.link.ageTimer, rfl⟩
    case notices | books | sweeps | figures | supply => exact id
    case lines => exact rfl
    case account => exact le_refl t.supply.account
    case places => exact fun _ => rfl
    case inFlight => exact by_string (fun j d => (t.str j).inFlight = none → d.inFlight = none) (fits.flight mem) fun _ => id
    case rosters => exact by_string (fun j d => d.addrs = (t.str j).addrs) (fits.addrs mem) fun _ => rfl
    case states => exact by_string (fun j d => d.state = (t.str j).state ∧ d.score = (t.str j).score) (fits.states mem) fun _ => ⟨rfl, rfl⟩
    case scores => exact fun inv => by_string (fun _ d => d.ScoreInv) (fits.scores mem (inv i)) inv
    case held =>
      exact fun inv => by_string (fun _ d => d.held = true → t.arb.grantPass = true) (fun new => (fits.held mem new).elim (inv i) id) inv
    case moves =>
      have owed := movements_congr (s := t) (t := t.setStr i c) rfl
        (by_string (fun j d => d.inFlight.map (·.unit) = (t.str j).inFlight.map (·.unit)) (fits.moves mem) fun _ => rfl)
      exact fun ⟨queue, sound, owes, rest⟩ => ⟨queue, sound, fun u => (owed u).trans (owes u), rest⟩

theorem StringCtl.addrs_updateNode (nodes : List NodeRecord) (addr : Nat) {f : NodeRecord → NodeRecord} (same : ∀ n, (f n).addr = n.addr) :
    (updateNode nodes addr f).map (·.addr) = nodes.map (·.addr) := by
  rw [updateNode, List.map_map]
  refine List.map_congr_left fun n _ => ?_
  rw [Function.comp_apply]
  split
  · exact same n
  · rfl

theorem keeps_modNode (h : Keeps ls s t) (i : StringId) (addr : Nat) {f : NodeRecord → NodeRecord}
    (same : ∀ n, (f n).addr = n.addr := by intro; rfl) :
    Keeps ls s (t.modNode i addr f) :=
  keeps_setStr h ⟨rfl, StringCtl.addrs_updateNode _ addr same, rfl, rfl, id⟩

/-! ## Units and the Directory -/

/-- An act on the units and the Directory leaves every law alone but those of the places, of the books and of movements. -/
theorem kept_of_tables {l : Law} (same : Changes [.units, .dir] s t) (places : l = .places → ∀ u, (t.unit u).config = (s.unit u).config)
    (books : l = .books → s.BooksInv → t.BooksInv) (moves : l ≠ .moves) : l.kept s t := by
  have strings : ∀ i, t.str i = s.str i := fun i => by rw [State.str, State.str, same .strings (by decide)]
  have arb : t.arb = s.arb := same .arb (by decide)
  have link : t.link = s.link := same .link (by decide)
  have notices : t.notices = s.notices := same .notices (by decide)
  have sweeps : t.sweeps = s.sweeps := same .sweeps (by decide)
  cases l
  case link => exact ⟨s.link.ageTimer, link⟩
  case notices => exact fun inv => by simpa only [State.NoticeInv, link, notices] using inv
  case inFlight => exact fun i => by rw [strings]; exact id
  case rosters => exact fun i => by rw [strings]
  case places => exact fun u => by rw [State.unitNode, places rfl, State.unitNode]
  case states => exact fun i => by rw [strings]; exact ⟨rfl, rfl⟩
  case held => exact fun inv i => by rw [strings, arb]; exact inv i
  case scores => exact fun inv i => by rw [strings]; exact inv i
  case sweeps => exact fun inv => by simpa only [State.SweepInv, sweeps] using inv
  case books => exact books rfl
  case moves => exact absurd rfl moves
  case figures | supply | lines | account => exact kept_figures (by simp [Law.ofFigures]) (same.mono (by decide)) (congrArg Sweeps.alarm sweeps)

/-- An act on the units and the Directory that leaves every configuration as it was keeps every law but those of the books and of movements. -/
theorem Keeps.tables (h : Keeps ls s t) {r : State} (free : .moves ∉ ls) (same : Changes [.units, .dir] t r)
    (books : .books ∈ ls → t.BooksInv → r.BooksInv) (config : ∀ u, (r.unit u).config = (t.unit u).config) : Keeps ls s r :=
  h.trans fun _ mem => kept_of_tables same (fun _ => config) (fun books' => books (books' ▸ mem)) fun moves => free (moves ▸ mem)

/-- The books rest on the holders of the units, and on the IDs and the holdings of the entries. -/
theorem booksInv_congr {s t : State} (holder : ∀ u, (t.unit u).holder = (s.unit u).holder)
    (dir : t.dir.map (fun e => (e.id, e.holdings)) = s.dir.map fun e => (e.id, e.holdings)) : t.BooksInv ↔ s.BooksInv := by
  have ids : t.dir.map (·.id) = s.dir.map (·.id) := by
    have := congrArg (List.map Prod.fst) dir
    simpa only [List.map_map, Function.comp_def] using this
  have length : t.dir.length = s.dir.length := by simpa using congrArg List.length dir
  have entries : ∀ P : BandId → List Nat → Prop, (∃ e ∈ t.dir, P e.id e.holdings) ↔ ∃ e ∈ s.dir, P e.id e.holdings := by
    intro P
    have mem : ∀ l : List Band, (∃ e ∈ l, P e.id e.holdings) ↔ ∃ p ∈ l.map fun e => (e.id, e.holdings), P p.1 p.2 := by simp
    rw [mem, mem, dir]
  have every : ∀ P : List Nat → Prop, (∀ e ∈ t.dir, P e.holdings) ↔ ∀ e ∈ s.dir, P e.holdings := by
    intro P
    have none_ := not_congr (entries fun _ us => ¬P us)
    simpa only [not_exists, not_and, not_not] using none_
  simp only [State.BooksInv, State.DirectoryInv, ids, length, holder]
  refine and_congr Iff.rfl (and_congr (forall₃_congr fun u b _ => iff_congr Iff.rfl ?_) ?_)
  · exact entries fun id us => id = b ∧ u ∈ us
  · exact every fun us => us.Nodup ∧ ∀ u ∈ us, isUnit u

theorem keeps_setDir (h : Keeps ls s t) (x : List Band) (free : .moves ∉ ls)
    (same : .books ∈ ls → x.map (fun e => (e.id, e.holdings)) = t.dir.map fun e => (e.id, e.holdings)) : Keeps ls s (t.setDir x) :=
  h.tables free (by simp) (fun mem => (booksInv_congr (s := t) (t := t.setDir x) (fun _ => rfl) (same mem)).mpr) fun _ => rfl

/-- What a record of a unit reads after a write to it, or to another unit. -/
theorem State.unit_setUnit_of {P : UnitRecord → UnitRecord → Prop} (t : State) {u : Nat} {x : UnitRecord} (refl : ∀ r, P r r)
    (new : P (t.unit u) x) (v : Nat) : P (t.unit v) ((t.setUnit u x).unit v) := by
  by_cases unit : isUnit v
  · rw [State.unit_setUnit _ _ unit]
    split
    case isTrue same => rw [same]; exact new
    case isFalse => exact refl _
  · rw [State.unit_of_not_isUnit _ unit, State.unit_of_not_isUnit _ unit]
    exact refl _

theorem keeps_setUnit (h : Keeps ls s t) (u : Nat) {x : UnitRecord} (config : x.config = (t.unit u).config)
    (holder : .books ∈ ls → x.holder = (t.unit u).holder) (free : .moves ∉ ls) : Keeps ls s (t.setUnit u x) :=
  h.tables free (by simp)
    (fun mem => (booksInv_congr (t.unit_setUnit_of (P := fun r q => q.holder = r.holder) (fun _ => rfl) (holder mem)) (by simp)).mpr)
    (t.unit_setUnit_of (P := fun r q => q.config = r.config) (fun _ => rfl) config)

theorem keeps_modUnit (h : Keeps ls s t) (u : Nat) {f : UnitRecord → UnitRecord} (free : .moves ∉ ls)
    (config : ∀ r, (f r).config = r.config := by intro; rfl) (holder : ∀ r, (f r).holder = r.holder := by intro; rfl) :
    Keeps ls s (t.modUnit u f) :=
  keeps_setUnit h u (config _) (fun _ => holder _) free

/-! ## Notices -/

theorem noticeInv_dropNotice (inv : s.NoticeInv) : s.dropNotice.NoticeInv := by
  obtain ⟨few, attn, dropped, preset, held⟩ := inv
  exact ⟨few, attn, by simp only [State.dropNotice, State.count, State.setNotices, State.setCounters, satInc]; omega, preset, held⟩

theorem noticeInv_storeNotice (inv : s.NoticeInv) (room : ¬Config.noticeCapacity ≤ s.notices.stored.length) (d : NoticeData) :
    (s.storeNotice d).NoticeInv := by
  obtain ⟨few, attn, dropped, preset, held⟩ := inv
  refine ⟨?_, ?_, dropped, ?_, ?_⟩
  · simp only [State.storeNotice, State.setNotices, State.setLink, List.length_append, List.length_singleton]
    exact not_le.mp room
  · simp [State.storeNotice, State.setNotices, State.setLink]
  · intro timer
    by_cases first : s.notices.stored.isEmpty = true ∧ s.link.ageTimer = .preset
    · simp [State.storeNotice, State.setLink, State.setNotices, first] at timer
    · simp only [State.storeNotice, State.setLink, State.setNotices, if_neg first] at timer
      exact absurd ⟨by simpa using preset timer, timer⟩ first
  · by_cases first : s.notices.stored.isEmpty = true ∧ s.link.ageTimer = .preset
    · have notHeld : s.link.ageTimer ≠ .held := by rw [first.2]; simp
      simpa [State.storeNotice, State.setLink, State.setNotices, first] using mt held.mpr notHeld
    · simpa only [State.storeNotice, State.setLink, State.setNotices, if_neg first] using held

theorem noticeInv_post (inv : s.NoticeInv) (d : NoticeData) : (s.post d).NoticeInv := by
  unfold State.post
  split
  · exact inv
  · split
    case isTrue => exact noticeInv_dropNotice inv
    case isFalse room => exact noticeInv_storeNotice inv room d

theorem keeps_post (h : Keeps ls s t) (d : NoticeData) : Keeps ls s (t.post d) :=
  h.trans fun l _ => by
    have unit : ∀ u, (t.post d).unit u = t.unit u := fun u => State.post_unit _ _ _
    have str : ∀ i, (t.post d).str i = t.str i := fun i => State.post_str _ _ _
    cases l
    case link => exact State.post_link t d
    case notices => exact fun inv => noticeInv_post inv d
    case inFlight => exact fun i => by rw [str]; exact id
    case rosters => exact fun i => by rw [str]
    case places => exact fun u => by rw [State.unitNode, unit, State.unitNode]
    case states => exact fun i => by rw [str]; exact ⟨rfl, rfl⟩
    case held => exact fun inv i => by rw [str, State.post_arb]; exact inv i
    case scores => exact fun inv i => by rw [str]; exact inv i
    case sweeps => exact fun inv => by simpa only [State.SweepInv, State.post_sweeps] using inv
    case books => exact (booksInv_congr (fun u => by rw [unit]) (by rw [State.post_dir])).mpr
    case moves =>
      have moves : ∀ u, (t.post d).movements u = t.movements u := movements_congr (by rw [State.post_arb]) fun i => by rw [str]
      exact fun inv => by simpa only [State.MovesInv, State.QueueInv, unit, State.post_arb, moves] using inv
    case figures | supply | lines | account => exact kept_figures (by simp [Law.ofFigures]) (by simp) (by rw [State.post_sweeps])

theorem keeps_postUnit (h : Keeps ls s t) (kind : NoticeKind) (u : Nat) (band : Option BandId) (code : NoticeCode) (value : Option Nat) :
    Keeps ls s (t.postUnit kind u band code value) := keeps_post h _

/-! ## The Arbiter -/

/-- An act on the Arbiter alone that leaves a grant pass due, and for the law of movements the queue and the demands. -/
theorem keeps_setArb (h : Keeps ls s t) {a : Arbiter} (pass : .held ∈ ls → t.arb.grantPass = true → a.grantPass = true)
    (queue : .moves ∈ ls → a.queue = t.arb.queue ∧ a.demands = t.arb.demands ∧ a.nextTag = t.arb.nextTag) : Keeps ls s (t.setArb a) :=
  h.trans fun l mem => by
    cases l
    case moves =>
      obtain ⟨queue, demands, tag⟩ := queue mem
      have moves : ∀ u, (t.setArb a).movements u = t.movements u := movements_congr queue fun _ => rfl
      have unit : ∀ u, (t.setArb a).unit u = t.unit u := fun _ => rfl
      exact fun inv => by simpa only [State.MovesInv, State.QueueInv, unit, State.setArb_arb, queue, demands, tag, moves] using inv
    case held => exact fun inv i held => pass mem (inv i held)
    case link => exact ⟨t.link.ageTimer, rfl⟩
    case states => exact fun _ => ⟨rfl, rfl⟩
    case rosters | places => exact fun _ => rfl
    case inFlight => exact fun _ => id
    case lines => exact rfl
    case account => exact le_refl t.supply.account
    all_goals exact id

theorem keeps_startPass (h : Keeps ls s t) : Keeps ls s t.startPass := keeps_setArb h (fun _ _ => rfl) fun _ => ⟨rfl, rfl, rfl⟩

/-! ## The sweep slots -/

theorem sweepInv_iff (s : State) : s.SweepInv ↔ ∀ k, (s.slot k).PassInv (passLimit k) :=
  ⟨fun inv k => by cases k; exacts [inv.1, inv.2], fun inv => ⟨inv .evacuation, inv .closing⟩⟩

theorem keeps_setSlot (h : Keeps ls s t) {k : SlotId} {x : SweepSlot}
    (pass : .sweeps ∈ ls → (t.slot k).PassInv (passLimit k) → x.PassInv (passLimit k)) : Keeps ls s (t.setSlot k x) :=
  h.trans fun l mem => by
    have strings : (t.setSlot k x).strings = t.strings := by cases k <;> rfl
    have arb : (t.setSlot k x).arb = t.arb := by cases k <;> rfl
    have units : (t.setSlot k x).units = t.units := by cases k <;> rfl
    have dir : (t.setSlot k x).dir = t.dir := by cases k <;> rfl
    have link : (t.setSlot k x).link = t.link := by cases k <;> rfl
    have notices : (t.setSlot k x).notices = t.notices := by cases k <;> rfl
    have str : ∀ i, (t.setSlot k x).str i = t.str i := fun i => by rw [State.str, State.str, strings]
    have unit : ∀ u, (t.setSlot k x).unit u = t.unit u := fun u => State.unit_congr units u
    cases l
    case link => exact ⟨t.link.ageTimer, link⟩
    case notices => exact fun inv => by simpa only [State.NoticeInv, link, notices] using inv
    case inFlight => exact fun i => by rw [str]; exact id
    case rosters => exact fun i => by rw [str]
    case places => exact fun u => by rw [State.unitNode, unit, State.unitNode]
    case states => exact fun i => by rw [str]; exact ⟨rfl, rfl⟩
    case held => exact fun inv i => by rw [str, arb]; exact inv i
    case scores => exact fun inv i => by rw [str]; exact inv i
    case sweeps =>
      intro inv
      rw [sweepInv_iff] at inv ⊢
      intro m
      by_cases same : m = k
      · rw [same, State.slot_setSlot_self]; exact pass mem (inv k)
      · rw [State.slot_setSlot_other _ same]; exact inv m
    case books => exact (booksInv_congr (fun u => by rw [unit]) (by rw [dir])).mpr
    case moves =>
      have moves : ∀ u, (t.setSlot k x).movements u = t.movements u := movements_congr (by rw [arb]) fun i => by rw [str]
      exact fun inv => by simpa only [State.MovesInv, State.QueueInv, unit, arb, moves] using inv
    case figures | supply | lines | account => exact kept_figures (by simp [Law.ofFigures]) (by simp) (by cases k <;> rfl)

end Sys2Proof.Machine
end


section
/-! PROOF. The laws that the shared operations of the Tenancy Table keep, each taken alone. -/

set_option Elab.async false

namespace Sys2Proof.Machine

variable {ls : List Law} {s t : State}

/-! ## Holders -/

/-- An act that writes one unit's record and leaves every other record. -/
theorem State.config_modUnit (s : State) (u : Nat) {f : UnitRecord → UnitRecord} (config : ∀ r, (f r).config = r.config) (v : Nat) :
    ((s.modUnit u f).unit v).config = (s.unit v).config :=
  s.unit_setUnit_of (P := fun r q => q.config = r.config) (fun _ => rfl) (config _) v

/-- In sound books a unit that names no holder is listed by no entry. -/
theorem BooksInv.not_listed (inv : s.BooksInv) {u : Nat} (unit : isUnit u) {e : Band} (mem : e ∈ s.dir) (other : (s.unit u).holder ≠ some e.id) :
    u ∉ e.holdings := fun listed => other ((inv.2.1 u e.id unit).mpr ⟨e, mem, rfl, listed⟩)

/-- The entry of a Directory from which a unit has been taken out. -/
def Band.without (holder : Option BandId) (u : Nat) (e : Band) : Band :=
  if holder = some e.id then { e with holdings := e.holdings.filter (· != u) } else e

theorem State.dirWithout_eq (s : State) (u : Nat) : s.dirWithout u = s.dir.map (Band.without (s.unit u).holder u) := rfl

theorem Band.without_id (holder : Option BandId) (u : Nat) (e : Band) : (e.without holder u).id = e.id := by
  unfold Band.without
  split <;> rfl

theorem Band.mem_without {holder : Option BandId} {u v : Nat} {e : Band} (ne : v ≠ u) : v ∈ (e.without holder u).holdings ↔ v ∈ e.holdings := by
  unfold Band.without
  split
  · simp [ne]
  · rfl

theorem Band.without_sublist (holder : Option BandId) (u : Nat) (e : Band) : (e.without holder u).holdings.Sublist e.holdings := by
  unfold Band.without
  split
  · exact List.filter_sublist
  · exact .refl _

theorem booksInv_removeHolder (inv : s.BooksInv) (u : Nat) : (s.removeHolder u).BooksInv := by
  by_cases unit : isUnit u
  case neg =>
    rw [State.removeHolder, State.unit_of_not_isUnit _ unit]
    exact inv
  obtain ⟨⟨sorted, few⟩, listed, sound⟩ := inv
  have holderOf : ∀ v, isUnit v → ((s.removeHolder u).unit v).holder = if v = u then none else (s.unit v).holder := by
    intro v isV
    rw [State.removeHolder_eq, State.unit_setUnit _ _ isV]
    split
    · unfold UnitRecord.freed
      split
      · assumption
      · rfl
    · rfl
  have dir : (s.removeHolder u).dir = s.dir.map (Band.without (s.unit u).holder u) := by
    rw [State.removeHolder_eq, State.setUnit_dir, State.setDir_dir, State.dirWithout_eq]
  have ids : (s.dir.map (Band.without (s.unit u).holder u)).map (·.id) = s.dir.map (·.id) := by
    rw [List.map_map]
    exact List.map_congr_left fun e _ => Band.without_id _ _ _
  have gone : ∀ e ∈ s.dir, u ∉ (e.without (s.unit u).holder u).holdings := by
    intro e mem
    unfold Band.without
    split
    · simp
    case isFalse other => exact BooksInv.not_listed ⟨⟨sorted, few⟩, listed, sound⟩ unit mem other
  refine ⟨⟨by rw [dir, ids]; exact sorted, by rw [dir, List.length_map]; exact few⟩, fun v b isV => ?_, ?_⟩
  · rw [holderOf v isV, dir]
    simp only [List.mem_map, exists_exists_and_eq_and, Band.without_id]
    split
    case isTrue same =>
      subst same
      simp only [reduceCtorEq, false_iff, not_exists, not_and]
      exact fun e mem _ => gone e mem
    case isFalse ne => simpa only [Band.mem_without ne] using listed v b isV
  · rw [dir]
    simp only [List.mem_map, forall_exists_index, and_imp, forall_apply_eq_imp_iff₂]
    exact fun e mem => ⟨(sound e mem).1.sublist (Band.without_sublist _ _ _),
      fun v inside => (sound e mem).2 v ((Band.without_sublist _ _ _).subset inside)⟩

theorem keeps_removeHolder (h : Keeps ls s t) (u : Nat) (free : .moves ∉ ls) : Keeps ls s (t.removeHolder u) :=
  h.tables free (by simp) (fun _ inv => booksInv_removeHolder inv u) fun v => by
    unfold State.removeHolder
    split
    · rfl
    · exact State.config_modUnit _ u (f := fun r => { r with holder := none, overstayReported := false }) (fun _ => rfl) v

/-! ## States and intents -/

theorem keeps_enter (h : Keeps ls s t) (u : Nat) (target : UnitState) (free : .moves ∉ ls) : Keeps ls s (t.enter u target) := by
  unfold State.enter
  dsimp only
  split
  · exact keeps_post (keeps_modUnit h u free) _
  · exact keeps_modUnit h u free

theorem keeps_takeIntent (h : Keeps ls s t) (u : Nat) (c : Cause) (free : .moves ∉ ls) : Keeps ls s (t.takeIntent u c) :=
  keeps_modUnit h u free

theorem keeps_withdrawIntent (h : Keeps ls s t) (u : Nat) (free : .moves ∉ ls) : Keeps ls s (t.withdrawIntent u) := by
  unfold State.withdrawIntent
  split
  · exact h
  · split
    · exact keeps_enter (keeps_modUnit (keeps_removeHolder h u free) u free) u _ free
    · split <;> exact keeps_enter (keeps_modUnit h u free) u _ free

theorem keeps_releaseByClosing (h : Keeps ls s t) (u : Nat) (wasOpen : Bool) (free : .moves ∉ ls) : Keeps ls s (t.releaseByClosing u wasOpen) := by
  unfold State.releaseByClosing
  split
  · exact h
  · exact keeps_removeHolder (keeps_postUnit h _ _ _ _ _) u free

theorem keeps_applyDone (h : Keeps ls s t) (u : Nat) (free : .moves ∉ ls) : Keeps ls s (t.applyDone u) := by
  unfold State.applyDone
  split
  · exact h
  · have cleared := keeps_modUnit h u free (f := fun r => { r with intent := none })
    have entered : ∀ st, Keeps ls s ((t.modUnit u fun r => { r with intent := none }).enter u st) := fun st => keeps_enter cleared u st free
    dsimp only
    split
    · split
      · exact keeps_modUnit (entered _) u free
      · exact entered _
    · exact entered _
    · split
      · exact entered _
      · exact keeps_enter (keeps_removeHolder cleared u free) u _ free
    · exact entered _
    · exact entered _
    · exact keeps_enter (keeps_removeHolder cleared u free) u _ free
    · exact keeps_enter (keeps_releaseByClosing cleared u _ free) u _ free

theorem keeps_applyOutcome (h : Keeps ls s t) (u : Nat) (o : Completion) (free : .moves ∉ ls) : Keeps ls s (t.applyOutcome u o) := by
  cases o
  case done | doneLate => exact keeps_applyDone h u free
  case refusedByNode => exact keeps_withdrawIntent h u free
  case jammed | uncertain => exact keeps_modUnit h u free

theorem keeps_takeOutcome (h : Keeps ls s t) (u : Nat) (o : Completion) (limited : Bool) (free : .moves ∉ ls) :
    Keeps ls s (t.takeOutcome u o limited) :=
  keeps_applyOutcome (keeps_postUnit (keeps_modUnit h u free) _ _ _ _ _) u o free

/-! ## Node reports -/

theorem keeps_reportTamper (h : Keeps ls s t) (u : Nat) (door : Door) (bolt : Bolt) (free : .moves ∉ ls) :
    Keeps ls s (t.reportTamper u door bolt) := by
  unfold State.reportTamper
  dsimp only
  split
  · exact keeps_modUnit h u free
  · split
    · exact keeps_postUnit (keeps_modUnit h u free) _ _ _ _ _
    · exact h

theorem reportInside_config (r : UnitRecord) (inside : InsideBolt) : (reportInside r inside).config = r.config := by
  unfold reportInside
  (repeat' split) <;> rfl

theorem reportInside_holder (r : UnitRecord) (inside : InsideBolt) : (reportInside r inside).holder = r.holder := by
  unfold reportInside
  (repeat' split) <;> rfl

theorem keeps_followInside (h : Keeps ls s t) (u : Nat) (inside : InsideBolt) (free : .moves ∉ ls) : Keeps ls s (t.followInside u inside) := by
  have used := keeps_modUnit h u free (f := fun r => { r with uses := satInc 255 r.uses })
  have rewritten : Keeps ls s (match (t.unit u).intent with
      | some i => if i.origin = .occupied then
          (t.modUnit u fun r => { r with uses := satInc 255 r.uses }).modUnit u fun r => { r with intent := some (i.rewriteOccupied (afterUse r)) }
        else t
      | none => t) := by
    split
    · split
      · exact keeps_modUnit used u free
      · exact h
    · exact h
  unfold State.followInside
  dsimp only
  split
  · split
    · exact keeps_enter h u _ free
    · exact keeps_enter used u _ free
    · exact rewritten
    · exact rewritten
    · exact rewritten
    · exact h
  · exact h

theorem keeps_resolveBolt (h : Keeps ls s t) (u : Nat) (bolt : Bolt) (free : .moves ∉ ls) : Keeps ls s (t.resolveBolt u bolt) := by
  unfold State.resolveBolt
  dsimp only
  split
  · exact h
  · split
    · exact keeps_applyOutcome (keeps_postUnit (keeps_modUnit h u free) _ _ _ _ _) u _ free
    · split
      · exact keeps_takeOutcome (keeps_count h _) u _ _ free
      · exact h

theorem keeps_nodeReport' (h : Keeps ls s t) (u : Nat) (door : Door) (bolt : Bolt) (inside : InsideBolt) (free : .moves ∉ ls) :
    Keeps ls s (t.nodeReport u door bolt inside) :=
  keeps_resolveBolt (keeps_followInside (keeps_modUnit (keeps_reportTamper (keeps_modUnit h u free) u door bolt free)
    u free (fun r => reportInside_config r inside) (fun r => reportInside_holder r inside)) u inside free) u bolt free

end Sys2Proof.Machine
end


section
/-! PROOF. Outcomes and withdrawals at the Tenancy Table (R9 to R13, R15, R90). -/

set_option Elab.async false

namespace Sys2Proof.Machine

/-! ## The record of a unit through the shared operations -/

theorem State.enters_of_ne (s : State) (u : Nat) {r : UnitRecord} (h : r.state ≠ .cleaning) : s.enters u r = s.setUnit u r := if_neg h

theorem UnitRecord.adjusted_held_ne (r : UnitRecord) : r.adjusted .held ≠ .cleaning := by
  unfold UnitRecord.adjusted
  dsimp only
  split <;> decide

theorem State.enters_setDir_self (s : State) (u : Nat) (r : UnitRecord) : { s.enters u r with dir := s.dir } = s.enters u r :=
  (s.setDir_enters s.dir u r).symm

/-- The holder is removed, the record changed, and a state entered that rests on neither the holder nor the intent. -/
theorem State.enter_vacant_removeHolder (s : State) {u : Nat} (h : isUnit u) :
    (s.removeHolder u).enter u .vacant =
      { s.enters u { (s.unit u).freed with state := (s.unit u).adjusted .vacant } with dir := s.dirWithout u } := by
  rw [State.removeHolder_eq, State.enter_setUnit _ h, UnitRecord.freed_adjusted_vacant, State.setDir_enters]
  rfl

theorem State.enters_setUnit (s : State) (u : Nat) (r q : UnitRecord) : (s.setUnit u r).enters u q = s.enters u q := by
  unfold State.enters
  dsimp only
  rw [State.setUnit_setUnit]

theorem State.dirWithout_congr {s t : State} {u : Nat} (dir : t.dir = s.dir) (holder : (t.unit u).holder = (s.unit u).holder) :
    t.dirWithout u = s.dirWithout u := by rw [State.dirWithout, State.dirWithout, dir, holder]

/-- The intent of a unit is cleared, then its holder removed, and it becomes VACANT as adjusted by R8. -/
theorem State.enter_vacant_removeHolder_modUnit (s : State) {u : Nat} (h : isUnit u) :
    ((s.modUnit u fun r => { r with intent := none }).removeHolder u).enter u .vacant =
      { s.enters u { (s.unit u).freed with intent := none, state := (s.unit u).adjusted .vacant } with dir := s.dirWithout u } := by
  have unit : (s.modUnit u fun r => { r with intent := none }).unit u = { s.unit u with intent := none } := s.unit_setUnit_self h _
  rw [State.enter_vacant_removeHolder _ h, unit]
  have dir : (s.modUnit u fun r => { r with intent := none }).dirWithout u = s.dirWithout u :=
    State.dirWithout_congr (by simp [State.modUnit]) (by rw [unit])
  have freed : ({ s.unit u with intent := none } : UnitRecord).freed = { (s.unit u).freed with intent := none } := by
    unfold UnitRecord.freed
    split <;> rfl
  rw [dir, freed, State.modUnit, State.enters_setUnit]
  rfl

/-! ## DONE -/

theorem UnitRecord.adjusted_held_iff (r : UnitRecord) : r.adjusted .held = .held ↔ r.holder ≠ none := by
  unfold UnitRecord.adjusted
  dsimp only
  split <;> simp_all

/-- A guest lock is done: where it was the first after VACANT and the band still holds the unit, its dwell begins (R10). -/
theorem State.enter_held_guestLock (s : State) {u : Nat} (h : isUnit u) (i : Intent) (lock : i.cause = .guestLock) :
    (let t := (s.modUnit u fun r => { r with intent := none }).enter u .held
     if i.ret = .vacant ∧ (t.unit u).state = .held then t.modUnit u fun r => { r with dwell := 0 } else t) =
      s.setUnit u ((s.unit u).accomplished i) := by
  have entered : (s.modUnit u fun r => { r with intent := none }).enter u .held =
      s.setUnit u { s.unit u with intent := none, state := (s.unit u).adjusted .held } := by
    rw [State.enter_modUnit _ h, State.enters_of_ne _ _ (UnitRecord.adjusted_held_ne _)]
    rfl
  simp only [entered, s.unit_setUnit_self h, State.modUnit_setUnit _ h, UnitRecord.accomplished, lock, UnitRecord.adjusted_held_iff]
  split <;> rfl

/-- What an opening that keeps the holder leads to (R11). -/
theorem adjusted_openTarget (r : UnitRecord) (i : Intent) (open_ : i.cause = .staffOpen ∨ i.cause = .evacuation) :
    ({ r with intent := none, state := ({ r with intent := none } : UnitRecord).adjusted (openTarget { r with intent := none } i) } : UnitRecord) =
      r.accomplished i := by
  have same : ∀ st, ({ r with intent := none } : UnitRecord).adjusted st = r.adjusted st := fun _ => rfl
  unfold UnitRecord.accomplished openTarget Intent.origin
  rw [same]
  obtain h | h := open_ <;> rw [h] <;> dsimp only
  all_goals
    cases holder : r.holder with
    | some b => simp [UnitRecord.adjusted, holder]
    | none =>
      simp only [Option.isSome_none, Bool.false_eq_true, ↓reduceIte, ne_eq, not_true_eq_false]
      split
      · simp_all [UnitRecord.adjusted]
      · simp_all [UnitRecord.adjusted]
      · simp_all

/-- An intent whose effect keeps the holder is done. -/
theorem State.accomplished_of_keeps {s : State} {u : Nat} {i : Intent} (intent : (s.unit u).intent = some i) (closing : i.cause ≠ .closing)
    (keeps : (s.unit u).releases i = false) : s.accomplished u = s.enters u ((s.unit u).accomplished i) := by
  rw [State.accomplished, intent]
  simp only [closing, false_and, if_false, keeps, Bool.false_eq_true]
  exact s.enters_setDir_self u _

/-- An intent whose effect removes the holder is done. -/
theorem State.accomplished_of_releases {s : State} {u : Nat} {i : Intent} (intent : (s.unit u).intent = some i) (closing : i.cause ≠ .closing)
    (releases : (s.unit u).releases i = true)
    (record : (s.unit u).accomplished i = { (s.unit u).freed with intent := none, state := (s.unit u).adjusted .vacant }) :
    s.accomplished u = ((s.modUnit u fun r => { r with intent := none }).removeHolder u).enter u .vacant := by
  rw [s.enter_vacant_removeHolder_modUnit (State.isUnit_of_intent intent), ← record, State.accomplished, intent]
  simp only [closing, false_and, if_false, releases, if_true]

theorem State.removeHolder_of_none {s : State} {u : Nat} (h : (s.unit u).holder = none) : s.removeHolder u = s := by rw [State.removeHolder, h]

theorem State.enters_post_setUnit (s : State) (u : Nat) (r q : UnitRecord) (d : NoticeData) :
    ((s.setUnit u r).post d).enters u q = (s.post d).enters u q := by
  rw [State.setUnit_post, State.enters_setUnit]

theorem State.postUnit_eq (s : State) (kind : NoticeKind) (u : Nat) (band : Option BandId) (code : NoticeCode) (value : Option Nat) :
    s.postUnit kind u band code value = s.post (s.unitNotice kind u band code value) := by
  rw [State.postUnit, State.unitNotice, State.unitNode, Option.map_map, Option.map_map]
  rfl

theorem State.postUnit_eq_post (s t : State) (kind : NoticeKind) (u : Nat) (band : Option BandId) (code : NoticeCode) (value : Option Nat) :
    t.post { kind := kind, unit := some u, band := band, string := (s.unitNode u).map (·.1), node := (s.unitNode u).map (·.2), code := code,
             value := value } = t.post (s.unitNotice kind u band code value) := by
  rw [State.unitNotice, State.unitNode, Option.map_map, Option.map_map]
  rfl

/-- A notice that names a unit does not read of the unit's record what a change of the rest of it writes. -/
theorem State.modUnit_postUnit (s : State) {u : Nat} (h : isUnit u) {f : UnitRecord → UnitRecord} (same : ∀ r, (f r).config = r.config)
    (kind : NoticeKind) (band : Option BandId) (code : NoticeCode) (value : Option Nat) :
    (s.modUnit u f).postUnit kind u band code value = (s.postUnit kind u band code value).modUnit u f := by
  have posted : (s.postUnit kind u band code value).unit u = s.unit u := State.post_unit _ _ _
  rw [State.modUnit, State.modUnit, posted, postUnit_setUnit s h _ (same _), ← State.postUnit_eq]

/-- A closing intent is done (R11), with UNIT_RELEASED where it removes a holder (R163). -/
theorem State.accomplished_of_closing {s : State} {u : Nat} {i : Intent} (intent : (s.unit u).intent = some i) (closing : i.cause = .closing) :
    s.accomplished u = ((s.modUnit u fun r => { r with intent := none }).releaseByClosing u false).enter u .vacant := by
  have h := State.isUnit_of_intent intent
  have unit : (s.modUnit u fun r => { r with intent := none }).unit u = { s.unit u with intent := none } := s.unit_setUnit_self h _
  have releases : (s.unit u).releases i = true := by simp [UnitRecord.releases, closing]
  have record : (s.unit u).accomplished i = { (s.unit u).freed with intent := none, state := (s.unit u).adjusted .vacant } := by
    rw [UnitRecord.accomplished, closing]
  rw [State.accomplished, intent, State.releaseByClosing, unit]
  dsimp only
  cases holder : (s.unit u).holder with
  | none =>
    have plain := s.enter_vacant_removeHolder_modUnit h
    rw [State.removeHolder_of_none (by rw [unit]; exact holder)] at plain
    simp only [releases, record, plain, ne_eq, not_true_eq_false, and_false, if_false, if_true]
  | some b =>
    let p := s.postUnit .unitReleased u (some b) (.released false) (some (s.unit u).dwell)
    have posted : p.unit u = s.unit u := State.post_unit _ _ _
    have told := s.modUnit_postUnit h (f := fun r => { r with intent := none }) (fun _ => rfl) .unitReleased (some b) (.released false)
      (some (s.unit u).dwell)
    have dir : p.dirWithout u = s.dirWithout u := State.dirWithout_congr (State.post_dir _ _) (by rw [posted])
    refine Eq.trans ?_ (congrArg (fun t : State => (t.removeHolder u).enter u .vacant) told).symm
    refine Eq.trans ?_ (p.enter_vacant_removeHolder_modUnit h).symm
    rw [posted, dir]
    simp only [releases, record, closing, true_and, ne_eq, reduceCtorEq, not_false_eq_true, if_true, ← State.postUnit_eq]
    rfl

/-- The model's effect of DONE is that of R10 and R11. -/
theorem applyDone_eq_accomplished (s : State) (u : Nat) : s.applyDone u = s.accomplished u := by
  unfold State.applyDone
  cases intent : (s.unit u).intent with
  | none => rw [State.accomplished, intent]
  | some i =>
    have h : isUnit u := State.isUnit_of_intent intent
    have unit : (s.modUnit u fun r => { r with intent := none }).unit u = { s.unit u with intent := none } := s.unit_setUnit_self h _
    dsimp only
    cases cause : i.cause with
    | guestLock =>
      have ne : ((s.unit u).accomplished i).state ≠ .cleaning := by
        rw [UnitRecord.accomplished, cause]
        exact UnitRecord.adjusted_held_ne _
      rw [State.accomplished_of_keeps intent (by simp [cause]) (by simp [UnitRecord.releases, cause]), State.enters_of_ne _ _ ne]
      exact s.enter_held_guestLock h i cause
    | staffLock =>
      rw [State.accomplished_of_keeps intent (by simp [cause]) (by simp [UnitRecord.releases, cause]), UnitRecord.accomplished, cause]
      exact s.enter_modUnit h _ _
    | staffOpen | evacuation =>
      rw [State.accomplished_of_keeps intent (by simp [cause]) (by simp [UnitRecord.releases, cause]), unit,
        ← adjusted_openTarget _ _ (by simp [cause])]
      exact s.enter_modUnit h _ _
    | staffFree =>
      exact (State.accomplished_of_releases intent (by simp [cause]) (by simp [UnitRecord.releases, cause])
        (by rw [UnitRecord.accomplished, cause])).symm
    | closing => exact (State.accomplished_of_closing intent cause).symm
    | guestUnlock =>
      rw [unit]
      have mode : ((s.unit u).config.elim false (·.mode == .day)) = decide ((s.unit u).config.map (·.mode) = some .day) := by
        cases (s.unit u).config with
        | none => rfl
        | some c => cases mode : c.mode <;> simp [mode]
      dsimp only
      rw [mode]
      by_cases day : (s.unit u).config.map (·.mode) = some .day
      · rw [State.accomplished_of_keeps intent (by simp [cause]) (by simp [UnitRecord.releases, cause, day]), UnitRecord.accomplished, cause]
        simp only [day, decide_true, if_true]
        exact s.enter_modUnit h _ _
      · rw [State.accomplished_of_releases intent (by simp [cause]) (by simp [UnitRecord.releases, cause, day])
          (by simp only [UnitRecord.accomplished, cause, day, if_false])]
        simp only [day, decide_false, if_false, Bool.false_eq_true]

/-! ## Outcomes -/

theorem actuationValue_eq (r : UnitRecord) (limited : Bool) :
    actuationValue r limited = r.intent.map fun i => causeCode i.cause + if limited then 256 else 0 := by
  cases limited <;> rfl

/-- R12, R13: the unit stands JAMMED or VERIFY with its intent as it was. -/
theorem State.modUnit_of_posted (s : State) (u : Nat) (r : UnitRecord) (d : NoticeData) (st : UnitState) :
    (((s.setUnit u r).post d).modUnit u fun r => { r with state := st }) = ((s.setUnit u r).post d).setUnit u { r with state := st } := by
  by_cases h : isUnit u
  · rw [State.modUnit, State.post_unit, s.unit_setUnit_self h]
  · have none_ : ∀ (t : State) (q : UnitRecord), t.setUnit u q = t := fun t q => dif_neg h
    exact (none_ _ _).trans (none_ _ _).symm

/-- The model's effect of an outcome is that of R9 to R13 and R15. -/
theorem takeOutcome_eq_outcomeTaken (s : State) (u : Nat) (o : Completion) (limited : Bool) :
    s.takeOutcome u o limited = s.outcomeTaken u o limited := by
  have config : ((s.setUnit u { s.unit u with last := some o }).unit u).config = (s.unit u).config := by
    by_cases h : isUnit u
    · rw [s.unit_setUnit_self h]
    · rw [State.unit_of_not_isUnit _ h, State.unit_of_not_isUnit _ h]
  have notice : ∀ (k : NoticeKind) b c v, (s.setUnit u { s.unit u with last := some o }).unitNotice k u b c v = s.unitNotice k u b c v :=
    fun k b c v => by rw [State.unitNotice, config, State.unitNotice]
  unfold State.takeOutcome State.outcomeTaken State.applyOutcome
  dsimp only
  rw [State.modUnit, State.postUnit_eq, notice, actuationValue_eq]
  cases o
  case done | doneLate => exact applyDone_eq_accomplished _ u
  case refusedByNode => exact withdrawIntent_eq_withdrawn _ u
  case jammed | uncertain => exact State.modUnit_of_posted s u _ _ _

/-! ## A guest record withdrawn -/

theorem State.unitNode_withdrawIntent (s : State) (u v : Nat) : (s.withdrawIntent u).unitNode v = s.unitNode v :=
  keeps_withdrawIntent (ls := [.places]) Keeps.refl u (by decide) .places (by decide) v

/-- The model's withdrawal of a guest record is that of R90. -/
theorem withdrawGuest_eq_guestWithdrawn (s : State) (u : Nat) (why : WithdrawReason) : s.withdrawGuest u why = s.guestWithdrawn u why := by
  unfold State.withdrawGuest State.guestWithdrawn
  cases s.arb.queue.find? fun r => r.unit == u && r.origin != .staff with
  | none => rfl
  | some r =>
    have node : ((s.removeRecord u).withdrawIntent u).unitNode u = s.unitNode u := State.unitNode_withdrawIntent _ u u
    dsimp only
    rw [State.postUnit, node, ← State.postUnit_eq_post, withdrawIntent_eq_withdrawn]
    rfl

/-! ## The end of a pass and of a sweep -/

theorem endSweep_eq_sweepEnded (s : State) (k : SlotId) (e : Ending) : s.endSweep k e = s.sweepEnded k e := by
  cases k <;> rfl

/-- A value for each string is END everywhere exactly when each is. -/
theorem PerString.all_isNone_iff {α : Type} (p : PerString (Option α)) : p.toList.all (·.isNone) = true ↔ p = ⟨none, none, none, none⟩ := by
  obtain ⟨a, b, c, d⟩ := p
  simp [PerString.toList]

theorem SweepSlot.passDone_iff (x : SweepSlot) : x.passDone = true ↔
    x.state = .walking ∧ x.cursors = ⟨none, none, none, none⟩ ∧ x.offers = ⟨none, none, none, none⟩ ∧ x.inFlight = 0 := by
  simp only [SweepSlot.passDone, Bool.and_eq_true, PerString.all_isNone_iff, beq_iff_eq, and_assoc]

theorem testPass_eq_passTested (s : State) (k : SlotId) : s.testPass k = s.passTested k := by
  unfold State.testPass State.passTested
  dsimp only
  refine if_congr (SweepSlot.passDone_iff _) ?_ rfl
  refine if_congr List.isEmpty_iff ?_ ?_
  · rw [endSweep_eq_sweepEnded]
    cases k <;> rfl
  · rw [← ite_not]
    refine if_congr ?_ rfl ?_
    · rw [not_le]; cases k <;> rfl
    · rw [endSweep_eq_sweepEnded]
      cases k <;> rfl

theorem countSweep_eq_sweepCounted (s : State) (slot : Option SlotId) (o : Completion) : s.countSweep slot o = s.sweepCounted slot o := by
  unfold State.countSweep State.sweepCounted
  cases slot with
  | none => rfl
  | some k =>
    dsimp only
    rw [testPass_eq_passTested]
    by_cases done : o = .done
    · simp only [done, if_true]
    · simp only [done, if_false]

/-! ## Completions -/

theorem closeDemand_eq_demandClosed (s : State) (tag : Option Nat) (holder : Option BandId) (e : DemandEnd) :
    s.closeDemand tag holder e = s.demandClosed tag holder e := by
  unfold State.closeDemand State.demandClosed
  cases tag with
  | none =>
    have noneFound : s.arb.demands.find? (fun d => none == some d.tag) = none := List.find?_eq_none.mpr fun d _ => by simp
    rw [noneFound]
  | some tag =>
    have same : (fun d : Demand => some tag == some d.tag) = fun d => d.tag == tag := by
      funext d
      simp [eq_comm]
    rw [same]
    dsimp only
    cases found : s.arb.demands.find? fun d => d.tag == tag with
    | none => rfl
    | some d =>
      have tagged : d.tag = tag := by simpa using List.find?_some found
      rw [← tagged]
      exact State.postUnit_eq _ _ _ _ _ _

theorem State.inFlightCount_eq_zero_iff (s : State) : s.inFlightCount = 0 ↔ ∀ i ∈ allStrings, (s.str i).inFlight = none := by
  simp [State.inFlightCount, allStrings, PerString.toList, List.countP_eq_zero, State.str, PerString.get]

theorem testQuiesced_eq_quiesceTested (s : State) : s.testQuiesced = s.quiesceTested :=
  if_congr (and_congr Iff.rfl s.inFlightCount_eq_zero_iff) rfl rfl

/-- A value raised by one where a condition holds, to the top of a live counter (R203). -/
def raised (b : Bool) (n : Nat) : Nat := if b then min 4294967295 (n + 1) else n

/-- The counters of a completion, each by its own condition (R121, R146). -/
theorem Counters.completed_eq (c : Counters) {o : Completion} (limited : Bool) (early : o ≠ .doneLate) :
    c.completed o limited =
      { c with
        done := raised (o == .done) c.done, refusedByNode := raised (o == .refusedByNode) c.refusedByNode
        jammed := raised (o == .jammed) c.jammed, uncertain := raised (o == .uncertain) c.uncertain
        limited := raised limited c.limited } := by
  cases o
  case doneLate => exact absurd rfl early
  all_goals cases limited <;> rfl

/-- The gap after a completion, or none in the act of going OFF or of a reset (R146, R147). -/
theorem State.startGap_eq (s : State) (i : StringId) (cleared : Bool) :
    s.startGap i cleared =
      { s with
        strings := s.strings.set i
          { s.str i with
            gapTimer := if cleared = true ∨ s.params.strings.gap = 0 then none else some s.params.strings.gap
            held := !cleared && s.params.strings.gap == 0 }
        arb := { s.arb with grantPass := s.arb.grantPass || (!cleared && s.params.strings.gap == 0) } } := by
  unfold State.startGap
  cases cleared with
  | true => simp [State.setStr, State.setStrings]
  | false =>
    by_cases gap : s.params.strings.gap = 0
    · simp [gap, State.setStr, State.setStrings, State.startPass, State.setArb]
    · have noGap : (s.params.strings.gap == 0) = false := by simpa using gap
      simp [gap, noGap, State.setStr, State.setStrings]

/-- The model's completion of an actuation has the effects of R146, in the order of the model. -/
theorem complete_eq_ended (s : State) (i : StringId) (o : Completion) (cleared : Bool) (early : o ≠ .doneLate) :
    s.complete i o cleared = s.ended i o cleared := by
  unfold State.complete State.ended
  cases flying : (s.str i).inFlight with
  | none => rfl
  | some f =>
    dsimp only
    rw [takeOutcome_eq_outcomeTaken, closeDemand_eq_demandClosed, countSweep_eq_sweepCounted, testQuiesced_eq_quiesceTested,
      State.startGap_eq, State.count, Counters.completed_eq _ _ early, State.str_setStr_self]
    simp only [State.setStr, State.setStrings, State.setCounters, PerString.set_set]
    cases o <;> rfl

/-- Settles O39: each shared operation by the lemma that equates it with the rules' own terms. -/
theorem outcomesTakeEffectOnTheUnit : Obligations.OutcomesTakeEffectOnTheUnit :=
  ⟨takeOutcome_eq_outcomeTaken, withdrawIntent_eq_withdrawn, withdrawGuest_eq_guestWithdrawn, complete_eq_ended, adjust_eq_adjusted⟩

end Sys2Proof.Machine
end


section
/-! PROOF. Node reports (R14, R15, R17 to R20). -/

set_option Elab.async false

namespace Sys2Proof.Machine

/-! ## The record of a unit through a report -/

/-- A unit's record with the door, tamper and the occupied flag of a report (R17 to R19). -/
def UnitRecord.felt (r : UnitRecord) (door : Door) (bolt : Bolt) (inside : InsideBolt) : UnitRecord :=
  let cabin : Bool := r.config.elim false (·.kind == .cabin)
  let begins : Bool := cabin && inside == .engaged && !r.occupied && !r.unseen
  let ends : Bool := cabin && inside == .free && r.occupied
  { r with
    door := some door
    tamper := Decidable.decide (door = .opened) && (r.tamper || Decidable.decide ((r.state = .held ∨ r.state = .forfeited) ∧ bolt = .locked))
    occupied := if cabin = true then Decidable.decide (inside = .engaged) else r.occupied
    occupancy := if begins = true then 0 else r.occupancy
    occupancyReported := if begins = true ∨ ends = true then false else r.occupancyReported }

/-- One more use. -/
def UnitRecord.usedOnce (r : UnitRecord) : UnitRecord := { r with uses := min 255 (r.uses + 1) }

/-- Where a use that has just been counted leads (R20). -/
def UnitRecord.useEnds (r : UnitRecord) : UnitState :=
  let interval := r.config.elim 0 (·.interval)
  if interval ≠ 0 ∧ interval ≤ r.usedOnce.uses then .cleaning else .vacant

/-- A unit's record when a FREE_USE cabin has followed its inside bolt (R20). -/
def UnitRecord.follows (r : UnitRecord) (inside : InsideBolt) : UnitRecord :=
  if r.freeUse = false then r
  else if r.state = .vacant ∧ inside = .engaged then { r with state := .occupied }
  else if r.state = .occupied ∧ inside = .free then { r.usedOnce with state := r.usedOnce.adjusted r.useEnds }
  else if r.state ∈ [.unlocking, .jammed, .verify] ∧ inside = .free then
    match r.intent with
    | none => r
    | some i =>
      if i.ret = .occupied then { r.usedOnce with intent := some { i with ret := r.useEnds } }
      else match i.under with
        | some b =>
          if (i.ret = .jammed ∨ i.ret = .verify) ∧ b.ret = .occupied then
            { r.usedOnce with intent := some { i with under := some { b with ret := r.useEnds } } }
          else r
        | none => r
  else r

theorem UnitRecord.seen_eq (r : UnitRecord) (door : Door) (bolt : Bolt) (inside : InsideBolt) :
    r.seen door bolt inside = (r.felt door bolt inside).follows inside := rfl

/-- The record with the door and tamper of a report (R17, R18). -/
def UnitRecord.sensed (r : UnitRecord) (door : Door) (bolt : Bolt) : UnitRecord :=
  { r with
    door := some door
    tamper := Decidable.decide (door = .opened) && (r.tamper || Decidable.decide ((r.state = .held ∨ r.state = .forfeited) ∧ bolt = .locked)) }

theorem UnitRecord.keepsCount_eq (r : UnitRecord) : r.keepsCount = r.unseen := by
  unfold UnitRecord.keepsCount UnitRecord.unseen
  cases r.intent <;> cases r.freeUse <;> simp [Bool.decide_or, Bool.decide_and] <;> rfl

theorem reportInside_sensed (r : UnitRecord) (door : Door) (bolt : Bolt) (inside : InsideBolt) :
    reportInside (r.sensed door bolt) inside = r.felt door bolt inside := by
  have keeps : (r.sensed door bolt).keepsCount = r.unseen := (UnitRecord.keepsCount_eq _).trans rfl
  unfold reportInside UnitRecord.felt
  rw [keeps]
  by_cases cabin : r.isCabin = true
  · have kind : r.config.elim false (·.kind == .cabin) = true := cabin
    have same : (r.sensed door bolt).isCabin = true := cabin
    simp only [same, kind, if_true]
    cases inside <;> cases occupied : r.occupied <;> cases unseen : r.unseen <;> simp [UnitRecord.sensed, occupied]
  · have kind : r.config.elim false (·.kind == .cabin) = false := Bool.eq_false_iff.mpr cabin
    have same : (r.sensed door bolt).isCabin = false := kind
    rw [if_neg (by simp [same])]
    simp [kind, UnitRecord.sensed]

/-! ## The report at the table -/

theorem State.setUnit_of_not_isUnit (s : State) {u : Nat} (h : ¬isUnit u) (r : UnitRecord) : s.setUnit u r = s := dif_neg h

/-- TAMPER is posted where the door of a secured unit opens (R18). -/
def State.tamperTold (s : State) (u : Nat) (door : Door) (bolt : Bolt) : State :=
  let r := s.unit u
  if door = .opened ∧ (r.state = .held ∨ r.state = .forfeited) ∧ bolt = .locked ∧ r.tamper = false then
    s.post (s.unitNotice .tamper u r.holder (.tampered (r.state == .forfeited)) none)
  else s

theorem reportTamper_eq (s : State) {u : Nat} (h : isUnit u) (door : Door) (bolt : Bolt) :
    (s.modUnit u fun r => { r with door := some door }).reportTamper u door bolt =
      (s.tamperTold u door bolt).setUnit u ((s.unit u).sensed door bolt) := by
  unfold State.reportTamper State.tamperTold UnitRecord.sensed
  have unit : (s.modUnit u fun r => { r with door := some door }).unit u = { s.unit u with door := some door } := s.unit_setUnit_self h _
  have wrote : ∀ f : UnitRecord → UnitRecord, (s.modUnit u fun r => { r with door := some door }).modUnit u f =
      s.setUnit u (f { s.unit u with door := some door }) := fun f => s.modUnit_setUnit h _ f
  simp only [unit, wrote]
  cases door with
  | closed => simp
  | opened =>
    by_cases secured : ((s.unit u).state = .held ∨ (s.unit u).state = .forfeited) ∧ bolt = .locked
    · cases tamper : (s.unit u).tamper with
      | false =>
        simp only [secured, reduceCtorEq, if_true, if_false, and_self]
        rw [postUnit_setUnit s h _ (by rfl)]
        simp
      | true => simp [secured, State.modUnit, tamper]
    · have open_ : ¬(((s.unit u).state = .held ∨ (s.unit u).state = .forfeited) ∧ bolt = .locked ∧ (s.unit u).tamper = false) :=
        fun h => secured ⟨h.1, h.2.1⟩
      simp [secured, open_, State.modUnit]

theorem afterUse_usedOnce (r : UnitRecord) : afterUse r.usedOnce = r.useEnds := by
  unfold afterUse UnitRecord.useEnds
  have same : r.usedOnce.config = r.config := rfl
  rw [same]
  cases r.config with
  | none => simp
  | some c => rfl

/-- An intent is rewritten where its unit was taken from OCCUPIED (R20). -/
theorem rewriteOccupied_eq (r : UnitRecord) (i : Intent) (st : UnitState) :
    (if i.origin = .occupied then { r.usedOnce with intent := some (i.rewriteOccupied st) } else r) =
      if i.ret = .occupied then { r.usedOnce with intent := some { i with ret := st } }
      else match i.under with
        | some b =>
          if (i.ret = .jammed ∨ i.ret = .verify) ∧ b.ret = .occupied then
            { r.usedOnce with intent := some { i with under := some { b with ret := st } } }
          else r
        | none => r := by
  unfold Intent.origin Intent.rewriteOccupied
  by_cases here : i.ret = .occupied
  · simp [here]
  · cases under : i.under with
    | none => simp [here]
    | some b =>
      by_cases again : i.ret = .jammed ∨ i.ret = .verify
      · by_cases there : b.ret = .occupied
        · simp [here, again, there]
        · simp [here, again, there]
      · simp [here, again]

theorem follows_of_moving {r : UnitRecord} (free : r.freeUse = true) (state : r.state = .unlocking ∨ r.state = .jammed ∨ r.state = .verify) :
    r.follows .free = match r.intent with
      | none => r
      | some i => if i.origin = .occupied then { r.usedOnce with intent := some (i.rewriteOccupied r.useEnds) } else r := by
  have mem : r.state ∈ [UnitState.unlocking, .jammed, .verify] := by simpa using state
  have vacant : r.state ≠ .vacant := by obtain h | h | h := state <;> simp [h]
  have occupied : r.state ≠ .occupied := by obtain h | h | h := state <;> simp [h]
  unfold UnitRecord.follows
  simp only [free, Bool.true_eq_false, if_false, vacant, occupied, false_and, mem, and_self, if_true]
  cases r.intent with
  | none => rfl
  | some i => exact (rewriteOccupied_eq r i _).symm

/-- The model's follow of the inside bolt, on a record just written. -/
theorem followInside_setUnit (s : State) {u : Nat} (h : isUnit u) (r : UnitRecord) (inside : InsideBolt) :
    (s.setUnit u r).followInside u inside = if r.state = .occupied then s.enters u (r.follows inside) else s.setUnit u (r.follows inside) := by
  have used : (s.setUnit u r).modUnit u (fun r => { r with uses := satInc 255 r.uses }) = s.setUnit u r.usedOnce := s.modUnit_setUnit h r _
  have moving : (match r.intent with
      | some i => if i.origin = .occupied then
          (s.setUnit u r.usedOnce).modUnit u fun r => { r with intent := some (i.rewriteOccupied (afterUse r)) }
        else s.setUnit u r
      | none => s.setUnit u r) =
      s.setUnit u (match r.intent with
        | none => r
        | some i => if i.origin = .occupied then { r.usedOnce with intent := some (i.rewriteOccupied r.useEnds) } else r) := by
    cases r.intent with
    | none => rfl
    | some i =>
      dsimp only
      rw [State.modUnit_setUnit _ h, afterUse_usedOnce, apply_ite (s.setUnit u)]
  unfold State.followInside
  simp only [s.unit_setUnit_self h, used]
  by_cases free : r.freeUse = true
  case neg =>
    have same : r.follows inside = r := if_pos (by simpa using free)
    rw [if_neg free, same]
    split
    case isTrue occupied => rw [State.enters_of_ne _ _ (by simp [occupied])]
    case isFalse => rfl
  rw [if_pos free]
  cases state : r.state <;> cases inside
  case vacant.engaged =>
    dsimp only
    rw [State.enter_setUnit _ h, State.enters_of_ne _ _ (by simp [UnitRecord.adjusted])]
    simp [UnitRecord.follows, free, state, UnitRecord.adjusted]
  case occupied.free =>
    dsimp only
    rw [State.enter_setUnit _ h, afterUse_usedOnce]
    simp [UnitRecord.follows, free, state]
  case unlocking.free | jammed.free | verify.free =>
    refine moving.trans ?_
    rw [if_neg (by simp), follows_of_moving free (by simp [state])]
  case occupied.engaged =>
    have same : r.follows .engaged = r := by simp [UnitRecord.follows, free, state]
    rw [same, State.enters_of_ne _ _ (by simp [state])]
    rfl
  all_goals simp [UnitRecord.follows, free, state]

/-! ## The bolt resolves VERIFY and JAMMED -/

theorem direction_bolt (c : Cause) : c.direction.bolt = c.bolt := by cases c <;> rfl

/-- The bolt's share of `State.reportTaken`, on a record already written. -/
def State.boltTaken (t : State) (u : Nat) (next : UnitRecord) (bolt : Bolt) : State :=
  match next.intent with
  | none => t
  | some i =>
    let reached := bolt == i.cause.bolt
    if next.state = .verify ∧ bolt ≠ .moving then
      let v := (t.setUnit u { next with last := some (if reached then .done else .refusedByNode) }).post
        (t.unitNotice .unitVerified u next.holder (.verdict (!reached)) (some (causeCode i.cause)))
      if reached then v.accomplished u else v.withdrawn u
    else if next.state = .jammed ∧ reached = true then
      ({ t with counters := { t.counters with doneLate := min 4294967295 (t.counters.doneLate + 1) } } : State).outcomeTaken u .doneLate false
    else t

theorem State.boltTaken_none (t : State) (u : Nat) {next : UnitRecord} (bolt : Bolt) (h : next.intent = none) : t.boltTaken u next bolt = t := by
  unfold State.boltTaken
  split
  · rfl
  case h_2 other => rw [h] at other; cases other

theorem State.boltTaken_some (t : State) (u : Nat) {next : UnitRecord} (bolt : Bolt) {i : Intent} (h : next.intent = some i) :
    t.boltTaken u next bolt =
      if next.state = .verify ∧ bolt ≠ .moving then
        (let v := (t.setUnit u { next with last := some (if bolt == i.cause.bolt then .done else .refusedByNode) }).post
          (t.unitNotice .unitVerified u next.holder (.verdict (!(bolt == i.cause.bolt))) (some (causeCode i.cause)))
         if bolt == i.cause.bolt then v.accomplished u else v.withdrawn u)
      else if next.state = .jammed ∧ (bolt == i.cause.bolt) = true then
        ({ t with counters := { t.counters with doneLate := min 4294967295 (t.counters.doneLate + 1) } } : State).outcomeTaken u .doneLate false
      else t := by
  unfold State.boltTaken
  split
  case h_1 other => rw [h] at other; cases other
  case h_2 j other =>
    rw [h] at other
    cases other
    rfl

theorem resolveBolt_eq_boltTaken (t : State) (u : Nat) (bolt : Bolt) : t.resolveBolt u bolt = t.boltTaken u (t.unit u) bolt := by
  unfold State.resolveBolt
  dsimp only
  split
  case h_1 none_ => exact (t.boltTaken_none u bolt none_).symm
  case h_2 i intent =>
    have h : isUnit u := State.isUnit_of_intent intent
    rw [t.boltTaken_some u bolt intent]
    simp only [direction_bolt]
    by_cases verify : (t.unit u).state = .verify ∧ bolt ≠ .moving
    · rw [if_pos verify, if_pos verify, State.modUnit, postUnit_setUnit t h _ (by rfl), ← State.setUnit_post]
      by_cases reached : bolt = i.cause.bolt
      · simp only [reached, bne_self_eq_false, beq_self_eq_true, if_true, Bool.false_eq_true, if_false, Bool.not_true]
        exact applyDone_eq_accomplished _ u
      · have missed : (bolt == i.cause.bolt) = false := by simpa using reached
        simp only [bne, missed, Bool.not_false, if_true, Bool.false_eq_true, if_false]
        exact withdrawIntent_eq_withdrawn _ u
    · rw [if_neg verify, if_neg verify]
      refine if_congr (and_congr Iff.rfl beq_iff_eq.symm) ?_ rfl
      rw [takeOutcome_eq_outcomeTaken]
      rfl

/-! ## The report -/

theorem reportTaken_eq (s : State) (u : Nat) (door : Door) (bolt : Bolt) (inside : InsideBolt) :
    s.reportTaken u door bolt inside =
      (let next := (s.unit u).seen door bolt inside
       (if (s.unit u).state = .occupied then (s.tamperTold u door bolt).enters u next
        else (s.tamperTold u door bolt).setUnit u next).boltTaken u next bolt) := rfl

theorem State.unit_enters_self (s : State) {u : Nat} (h : isUnit u) (r : UnitRecord) : (s.enters u r).unit u = r := by
  unfold State.enters
  dsimp only
  split
  · rw [State.post_unit, s.unit_setUnit_self h]
  · exact s.unit_setUnit_self h r

/-- A number that is no unit has no record to change: its report does nothing (R1). -/
theorem nodeReport_of_not_isUnit (s : State) {u : Nat} (h : ¬isUnit u) (door : Door) (bolt : Bolt) (inside : InsideBolt) :
    s.nodeReport u door bolt inside = s := by
  have cold : s.unit u = UnitRecord.cold := s.unit_of_not_isUnit h
  have same : ∀ f, s.modUnit u f = s := fun f => s.setUnit_of_not_isUnit h _
  have tamper : s.reportTamper u door bolt = s := by
    unfold State.reportTamper
    rw [same, same, cold]
    simp [UnitRecord.cold]
  have follow : s.followInside u inside = s := by
    unfold State.followInside
    rw [cold]
    rfl
  rw [State.nodeReport, same, tamper, same, follow, State.resolveBolt, cold]
  rfl

theorem reportTaken_of_not_isUnit (s : State) {u : Nat} (h : ¬isUnit u) (door : Door) (bolt : Bolt) (inside : InsideBolt) :
    s.reportTaken u door bolt inside = s := by
  have cold : s.unit u = UnitRecord.cold := s.unit_of_not_isUnit h
  have told : s.tamperTold u door bolt = s := by
    rw [State.tamperTold, cold]
    exact if_neg (by simp [UnitRecord.cold])
  rw [reportTaken_eq, told, cold]
  dsimp only
  rw [if_neg (by simp [UnitRecord.cold]), s.setUnit_of_not_isUnit h]
  rfl

/-- The model's node report has the effects of R14, R15 and R17 to R20, in the order of the model. -/
theorem nodeReport_eq_reportTaken (s : State) (u : Nat) (door : Door) (bolt : Bolt) (inside : InsideBolt) :
    s.nodeReport u door bolt inside = s.reportTaken u door bolt inside := by
  by_cases h : isUnit u
  case neg => rw [nodeReport_of_not_isUnit s h, reportTaken_of_not_isUnit s h]
  rw [State.nodeReport, reportTaken_eq]
  dsimp only
  rw [reportTamper_eq s h, State.modUnit_setUnit _ h, reportInside_sensed, followInside_setUnit _ h, ← UnitRecord.seen_eq, resolveBolt_eq_boltTaken]
  have state : ((s.unit u).felt door bolt inside).state = (s.unit u).state := rfl
  rw [state]
  split
  · rw [State.unit_enters_self _ h]
  · rw [State.unit_setUnit_self _ h]

/-! ## What a report does to the units -/

theorem State.unit_enters_other (s : State) {u v : Nat} (r : UnitRecord) (h : v ≠ u) : (s.enters u r).unit v = s.unit v := by
  unfold State.enters
  dsimp only
  split
  · rw [State.post_unit, s.unit_setUnit_other _ h]
  · exact s.unit_setUnit_other _ h

theorem State.unit_setDir (s : State) (x : List Band) (v : Nat) : ({ s with dir := x } : State).unit v = s.unit v := rfl

theorem State.unit_accomplished_other (s : State) {u v : Nat} (h : v ≠ u) : (s.accomplished u).unit v = s.unit v := by
  unfold State.accomplished
  split
  · rfl
  · rw [State.unit_setDir, State.unit_enters_other _ _ h]
    split
    · rw [State.post_unit]
    · rfl

theorem State.unit_accomplished_self (s : State) {u : Nat} {i : Intent} (intent : (s.unit u).intent = some i) :
    (s.accomplished u).unit u = (s.unit u).accomplished i := by
  have h := State.isUnit_of_intent intent
  rw [State.accomplished, intent]
  dsimp only
  rw [State.unit_setDir, State.unit_enters_self _ h]

theorem State.unit_withdrawn_other (s : State) {u v : Nat} (h : v ≠ u) : (s.withdrawn u).unit v = s.unit v := by
  unfold State.withdrawn
  split
  · rfl
  · rw [State.unit_setDir, State.unit_enters_other _ _ h]

theorem State.unit_withdrawn_self (s : State) {u : Nat} {i : Intent} (intent : (s.unit u).intent = some i) :
    (s.withdrawn u).unit u = (s.unit u).withdrawn i := by
  have h := State.isUnit_of_intent intent
  rw [State.withdrawn, intent]
  dsimp only
  rw [State.unit_setDir, State.unit_enters_self _ h]

theorem State.unit_setUnit_post (s : State) {u : Nat} (h : isUnit u) (r : UnitRecord) (d : NoticeData) : ((s.setUnit u r).post d).unit u = r := by
  rw [State.post_unit, s.unit_setUnit_self h]

/-- The bolt's share of a report leaves the record that `UnitRecord.reported` names. -/
theorem State.unit_boltTaken_self {t : State} {u : Nat} (h : isUnit u) {r : UnitRecord} {door : Door} {bolt : Bolt} {inside : InsideBolt}
    (written : t.unit u = r.seen door bolt inside) :
    (t.boltTaken u (r.seen door bolt inside) bolt).unit u = r.reported door bolt inside := by
  unfold UnitRecord.reported
  dsimp only
  split
  case h_1 none_ => rw [t.boltTaken_none u bolt none_, written]
  case h_2 i intent =>
    rw [t.boltTaken_some u bolt intent]
    split
    · by_cases reached : bolt = i.cause.bolt
      · have met : (bolt == i.cause.bolt) = true := by simpa using reached
        rw [if_pos reached]
        simp only [met, if_true]
        rw [State.unit_accomplished_self (i := i), State.unit_setUnit_post _ h]
        rw [State.unit_setUnit_post _ h]
        exact intent
      · have missed : (bolt == i.cause.bolt) = false := by simpa using reached
        rw [if_neg reached]
        simp only [missed, Bool.false_eq_true, if_false]
        rw [State.unit_withdrawn_self (i := i), State.unit_setUnit_post _ h]
        rw [State.unit_setUnit_post _ h]
        exact intent
    · rw [apply_ite (fun x : State => x.unit u)]
      refine if_congr (and_congr Iff.rfl beq_iff_eq) ?_ written
      have unit : ({ t with counters := { t.counters with doneLate := min 4294967295 (t.counters.doneLate + 1) } } : State).unit u =
          r.seen door bolt inside := written
      unfold State.outcomeTaken
      dsimp only
      rw [unit, State.unit_accomplished_self (i := i), State.unit_setUnit_post _ h]
      rw [State.unit_setUnit_post _ h]
      exact intent

theorem State.unit_tamperTold (s : State) (u : Nat) (door : Door) (bolt : Bolt) (v : Nat) : (s.tamperTold u door bolt).unit v = s.unit v := by
  unfold State.tamperTold
  dsimp only
  split
  · rw [State.post_unit]
  · rfl

theorem State.unit_reportTaken_self (s : State) {u : Nat} (h : isUnit u) (door : Door) (bolt : Bolt) (inside : InsideBolt) :
    (s.reportTaken u door bolt inside).unit u = (s.unit u).reported door bolt inside := by
  rw [reportTaken_eq]
  refine State.unit_boltTaken_self h ?_
  split
  · rw [State.unit_enters_self _ h]
  · rw [State.unit_setUnit_self _ h]

theorem State.unit_outcomeTaken_other (s : State) {u v : Nat} (h : v ≠ u) (o : Completion) (limited : Bool) :
    (s.outcomeTaken u o limited).unit v = s.unit v := by
  have before : ∀ r d, ((s.setUnit u r).post d).unit v = s.unit v := fun r d => by rw [State.post_unit, s.unit_setUnit_other _ h]
  unfold State.outcomeTaken
  dsimp only
  split
  · rw [State.unit_accomplished_other _ h, before]
  · rw [State.unit_accomplished_other _ h, before]
  · rw [State.unit_withdrawn_other _ h, before]
  · rw [State.unit_setUnit_other _ _ h, before]
  · rw [State.unit_setUnit_other _ _ h, before]

theorem State.unit_boltTaken_other (t : State) {u v : Nat} (h : v ≠ u) (next : UnitRecord) (bolt : Bolt) :
    (t.boltTaken u next bolt).unit v = t.unit v := by
  have before : ∀ r d, ((t.setUnit u r).post d).unit v = t.unit v := fun r d => by rw [State.post_unit, t.unit_setUnit_other _ h]
  unfold State.boltTaken
  dsimp only
  split
  · rfl
  · split
    · split
      · rw [State.unit_accomplished_other _ h, before]
      · rw [State.unit_withdrawn_other _ h, before]
    · split
      · rw [State.unit_outcomeTaken_other _ h]
        rfl
      · rfl

theorem State.unit_reportTaken_other (s : State) {u v : Nat} (h : v ≠ u) (door : Door) (bolt : Bolt) (inside : InsideBolt) :
    (s.reportTaken u door bolt inside).unit v = s.unit v := by
  rw [reportTaken_eq]
  dsimp only
  rw [State.unit_boltTaken_other _ h]
  split
  · rw [State.unit_enters_other _ _ h, State.unit_tamperTold]
  · rw [State.unit_setUnit_other _ _ h, State.unit_tamperTold]

theorem changes_reportTaken (s : State) (u : Nat) (door : Door) (bolt : Bolt) (inside : InsideBolt) :
    Changes [.units, .dir, .link, .notices, .counters] s (s.reportTaken u door bolt inside) := by
  rw [← nodeReport_eq_reportTaken]
  simp

end Sys2Proof.Machine
end


section
/-! PROOF. The law of R2 and R3 on one unit's record, through the changes that its state machine makes of it. -/

set_option Elab.async false

namespace Sys2Proof.Machine

/-- A movement is owed to the unit (R81). -/
def UnitRecord.moving (r : UnitRecord) : Prop := r.state = .locking ∨ r.state = .unlocking

/-- The law rests on the state, the configuration, the holder and the intent. -/
theorem UnitRecord.sound_congr {r q : UnitRecord} (state : q.state = r.state) (config : q.config = r.config) (holder : q.holder = r.holder)
    (intent : q.intent = r.intent) : q.sound ↔ r.sound := by
  unfold UnitRecord.sound
  rw [state, config, holder, intent]

/-- A unit that has an intent is configured, and the intent is sound. -/
theorem UnitRecord.sound_intent {r : UnitRecord} (h : r.sound) {i : Intent} (intent : r.intent = some i) :
    r.config.isSome = true ∧ i.sound r.holder ∧ (r.moving ∨ r.state = .jammed ∨ r.state = .verify) := by
  unfold UnitRecord.sound at h
  unfold UnitRecord.moving
  split at h
  case h_1 => simp [intent] at h
  case h_2 | h_3 | h_4 | h_5 | h_6 => simp [intent] at h
  case h_7 | h_8 => simp [intent] at h
  case h_9 state =>
    obtain ⟨config, -, j, same, -, sound⟩ := h
    rw [intent] at same
    cases same
    exact ⟨config, sound, .inl (.inl state)⟩
  case h_10 state =>
    obtain ⟨config, j, same, -, sound, -⟩ := h
    rw [intent] at same
    cases same
    exact ⟨config, sound, .inl (.inr state)⟩
  case h_11 state | h_12 state =>
    obtain ⟨config, j, same, sound⟩ := h
    rw [intent] at same
    cases same
    exact ⟨config, sound, by simp [state]⟩

/-- A unit that a movement is owed to, or that stands JAMMED or VERIFY, has an intent. -/
theorem UnitRecord.intent_of_sound {r : UnitRecord} (h : r.sound) (state : r.moving ∨ r.state = .jammed ∨ r.state = .verify) :
    ∃ i, r.intent = some i := by
  unfold UnitRecord.sound at h
  obtain (state | state) | state | state := state <;> rw [state] at h
  · obtain ⟨-, -, i, intent, -⟩ := h; exact ⟨i, intent⟩
  · obtain ⟨-, i, intent, -⟩ := h; exact ⟨i, intent⟩
  · obtain ⟨-, i, intent, -⟩ := h; exact ⟨i, intent⟩
  · obtain ⟨-, i, intent, -⟩ := h; exact ⟨i, intent⟩

/-- A unit that stands JAMMED or VERIFY: its intent is what the law asks. -/
theorem UnitRecord.sound_stuck {r : UnitRecord} (state : r.state = .jammed ∨ r.state = .verify) :
    r.sound ↔ r.config.isSome = true ∧ ∃ i, r.intent = some i ∧ i.sound r.holder := by
  unfold UnitRecord.sound
  obtain state | state := state <;> rw [state]

/-! ## Withdrawal and completion -/

/-- A unit without a holder stands, after an adjustment, in a state that needs none (R8). -/
theorem UnitRecord.adjusted_mem_of_none {r : UnitRecord} (none_ : r.holder = none) {target : UnitState}
    (mem : target ∈ [UnitState.held, .openHeld, .vacant, .occupied, .cleaning, .forfeited, .withdrawn]) :
    r.adjusted target ∈ [UnitState.vacant, .occupied, .cleaning, .forfeited, .withdrawn] := by
  unfold UnitRecord.adjusted
  simp only [List.mem_cons, List.not_mem_nil, or_false] at mem
  by_cases free : r.freeUse = true ∧ r.occupied = true
  · obtain rfl | rfl | rfl | rfl | rfl | rfl | rfl := mem <;> simp [none_, free]
  · obtain rfl | rfl | rfl | rfl | rfl | rfl | rfl := mem <;> simp [none_, free]

/-- A configured unit at rest: no intent, and no holder in a state that needs none. -/
theorem UnitRecord.sound_at_rest {q : UnitRecord} (config : q.config.isSome = true) (intent : q.intent = none) (holder : q.holder = none)
    (state : q.state ∈ [UnitState.vacant, .occupied, .cleaning, .forfeited, .withdrawn]) : q.sound ∧ ¬q.moving := by
  unfold UnitRecord.sound UnitRecord.moving
  simp only [List.mem_cons, List.not_mem_nil, or_false] at state
  obtain h | h | h | h | h := state <;> simp [h, config, holder, intent]

/-- A unit without an intent in a state that a target is adjusted to (R8). -/
theorem UnitRecord.sound_adjusted {r q : UnitRecord} {target : UnitState} (config : q.config.isSome = true) (intent : q.intent = none)
    (state : q.state = r.adjusted target) (holder : q.holder = r.holder)
    (other : target ∈ [UnitState.held, .openHeld] ∨ (target ∈ [UnitState.vacant, .occupied, .cleaning, .forfeited, .withdrawn] ∧ r.holder = none)) :
    q.sound ∧ ¬q.moving := by
  by_cases none_ : r.holder = none
  · have mem : target ∈ [UnitState.held, .openHeld, .vacant, .occupied, .cleaning, .forfeited, .withdrawn] := by
      simp only [List.mem_cons, List.not_mem_nil, or_false] at other ⊢
      rcases other with (h | h) | ⟨h | h | h | h | h, -⟩ <;> simp [h]
    exact UnitRecord.sound_at_rest config intent (holder.trans none_) (state ▸ UnitRecord.adjusted_mem_of_none none_ mem)
  · obtain mem | ⟨-, none'⟩ := other
    case inr => exact absurd none' none_
    have some_ : q.holder.isSome = true := by rw [holder]; exact Option.isSome_iff_ne_none.mpr none_
    unfold UnitRecord.sound UnitRecord.moving
    simp only [List.mem_cons, List.not_mem_nil, or_false] at mem
    obtain rfl | rfl := mem <;> simp [state, UnitRecord.adjusted, none_, config, some_, intent]

theorem UnitRecord.freed_config (r : UnitRecord) : r.freed.config = r.config := by
  unfold UnitRecord.freed
  split <;> rfl

theorem UnitRecord.freed_holder (r : UnitRecord) : r.freed.holder = none := by
  unfold UnitRecord.freed
  split
  · assumption
  · rfl

/-- The record that a release leaves (R8, R11): without holder and intent. -/
theorem UnitRecord.sound_released {r : UnitRecord} (config : r.config.isSome = true) {q : UnitRecord} (qConfig : q.config = r.config)
    (intent : q.intent = none) (holder : q.holder = none) (state : q.state = r.adjusted .vacant) : q.sound ∧ ¬q.moving := by
  refine UnitRecord.sound_at_rest (by rw [qConfig]; exact config) intent holder ?_
  have same : r.adjusted .vacant = ({ r with holder := none } : UnitRecord).adjusted .vacant := rfl
  rw [state, same]
  exact UnitRecord.adjusted_mem_of_none rfl (by simp)

/-- An intent is withdrawn (R7). -/
theorem UnitRecord.sound_withdrawn {r : UnitRecord} (h : r.sound) {i : Intent} (intent : r.intent = some i) :
    (r.withdrawn i).sound ∧ ¬(r.withdrawn i).moving := by
  obtain ⟨config, sound, -⟩ := UnitRecord.sound_intent h intent
  unfold UnitRecord.withdrawn
  split
  · exact UnitRecord.sound_released config r.freed_config rfl r.freed_holder rfl
  case isFalse notFresh =>
    unfold Intent.sound at sound
    split
    case isTrue again =>
      have moving : ¬({ r with intent := i.under.map fun b => ⟨b.cause, b.ret, none⟩, state := i.ret } : UnitRecord).moving := by
        unfold UnitRecord.moving
        obtain h | h := again <;> simp [h]
      refine ⟨(UnitRecord.sound_stuck again).mpr ⟨config, ?_⟩, moving⟩
      cases under : i.under with
      | none =>
        rw [under] at sound
        obtain ⟨mem, -⟩ := sound
        obtain h | h := again <;> simp [h] at mem
      | some b =>
        rw [under] at sound
        exact ⟨_, rfl, sound.2⟩
    case isFalse other =>
      cases under : i.under with
      | some b =>
        rw [under] at sound
        exact absurd sound.1 other
      | none =>
        rw [under] at sound
        obtain ⟨base, holder⟩ := sound
        dsimp only at base holder
        refine UnitRecord.sound_adjusted (r := r) config rfl rfl rfl ?_
        cases ret : i.ret <;> simp_all

/-- An intent is done (R10, R11). -/
theorem UnitRecord.sound_accomplished {r : UnitRecord} (h : r.sound) {i : Intent} (intent : r.intent = some i) :
    (r.accomplished i).sound ∧ ¬(r.accomplished i).moving := by
  obtain ⟨config, -, -⟩ := UnitRecord.sound_intent h intent
  have released : ({ r.freed with intent := none, state := r.adjusted .vacant } : UnitRecord).sound
      ∧ ¬({ r.freed with intent := none, state := r.adjusted .vacant } : UnitRecord).moving :=
    UnitRecord.sound_released config r.freed_config rfl r.freed_holder rfl
  unfold UnitRecord.accomplished
  dsimp only
  generalize (if i.ret = .jammed ∨ i.ret = .verify then i.under.elim i.ret (·.ret) else i.ret) = origin
  split
  · exact UnitRecord.sound_adjusted (r := r) (target := .held) config rfl rfl rfl (by simp)
  · exact UnitRecord.sound_adjusted (r := r) (target := .held) config rfl rfl rfl (by simp)
  · split
    · exact UnitRecord.sound_adjusted (r := r) (target := .openHeld) config rfl rfl rfl (by simp)
    · exact released
  · exact released
  · exact released
  all_goals
    by_cases none_ : r.holder = none
    · refine UnitRecord.sound_at_rest config rfl none_ ?_
      have vacant := UnitRecord.adjusted_mem_of_none none_ (target := .vacant) (by simp)
      simp only [none_, ne_eq, not_true_eq_false, if_false]
      split
      · simp
      · split
        · simp
        · exact vacant
    · unfold UnitRecord.sound UnitRecord.moving
      simp [none_, config, Option.isSome_iff_ne_none]

/-- An actuation that ends JAMMED or UNCERTAIN leaves the unit with its intent (R12, R13). -/
theorem UnitRecord.sound_stranded {r q : UnitRecord} (h : r.sound) (moving : r.moving ∨ r.state = .jammed ∨ r.state = .verify)
    (state : q.state = .jammed ∨ q.state = .verify) (config : q.config = r.config) (holder : q.holder = r.holder) (intent : q.intent = r.intent) :
    q.sound ∧ ¬q.moving := by
  obtain ⟨i, some_⟩ := UnitRecord.intent_of_sound h moving
  obtain ⟨isSome, sound, -⟩ := UnitRecord.sound_intent h some_
  refine ⟨(UnitRecord.sound_stuck state).mpr ⟨by rw [config]; exact isSome, i, by rw [intent, some_], by rw [holder]; exact sound⟩, ?_⟩
  unfold UnitRecord.moving
  obtain h | h := state <;> simp [h]

/-! ## Node reports -/

theorem UnitRecord.useEnds_mem (r : UnitRecord) : r.useEnds = .cleaning ∨ r.useEnds = .vacant := by
  unfold UnitRecord.useEnds
  dsimp only
  split
  · exact .inl rfl
  · exact .inr rfl

/-- A unit that stood in OCCUPIED had no holder, and neither had it when an intent was taken there. -/
theorem Intent.sound_occupied {holder : Option BandId} {i : Intent} (h : i.sound holder) (ret : i.ret = .occupied) :
    i.under = none ∧ holder = none := by
  unfold Intent.sound at h
  split at h
  case h_1 none_ => exact ⟨none_, h.2 (by simp [ret])⟩
  case h_2 => simp [ret] at h

theorem Intent.sound_rewritten {holder : Option BandId} {i : Intent} (h : i.sound holder) (ret : i.ret = .occupied) {st : UnitState}
    (st_ : st = .cleaning ∨ st = .vacant) : ({ i with ret := st } : Intent).sound holder := by
  obtain ⟨none_, free⟩ := Intent.sound_occupied h ret
  unfold Intent.sound BaseIntent.sound
  simp only [none_]
  exact ⟨by obtain rfl | rfl := st_ <;> simp, fun _ => free⟩

theorem Intent.sound_rewritten_under {holder : Option BandId} {i : Intent} (h : i.sound holder) {b : BaseIntent} (under : i.under = some b)
    (ret : b.ret = .occupied) {st : UnitState} (st_ : st = .cleaning ∨ st = .vacant) :
    ({ i with under := some { b with ret := st } } : Intent).sound holder := by
  unfold Intent.sound at h ⊢
  rw [under] at h
  obtain ⟨again, -, free⟩ := h
  exact ⟨again, by obtain rfl | rfl := st_ <;> simp, fun _ => free (by simp [ret])⟩

/-- An intent may be replaced by a sound one of its cause, where its return state is not one that calls for a holder. -/
theorem UnitRecord.sound_reintent {r q : UnitRecord} (h : r.sound) {i j : Intent} (intent : r.intent = some i) (other : q.intent = some j)
    (state : q.state = r.state) (config : q.config = r.config) (holder : q.holder = r.holder) (cause : j.cause = i.cause)
    (ret : j.ret = .held ∨ j.ret = .openHeld → j.ret = i.ret) (sound : j.sound r.holder) : q.sound := by
  obtain ⟨-, -, place⟩ := UnitRecord.sound_intent h intent
  unfold UnitRecord.sound at h ⊢
  rw [state, config, holder, other]
  obtain (st | st) | st | st := place <;> rw [st] at h ⊢ <;> rw [intent] at h <;> dsimp only at h ⊢
  · obtain ⟨configured, held, k, same, direction, -⟩ := h
    cases same
    exact ⟨configured, held, j, rfl, by rw [cause]; exact direction, sound⟩
  · obtain ⟨configured, k, same, direction, -, holds⟩ := h
    cases same
    exact ⟨configured, j, rfl, by rw [cause]; exact direction, sound, fun mem => holds (ret mem ▸ mem)⟩
  · exact ⟨h.1, j, rfl, sound⟩
  · exact ⟨h.1, j, rfl, sound⟩

theorem UnitRecord.felt_sound (r : UnitRecord) (door : Door) (bolt : Bolt) (inside : InsideBolt) : (r.felt door bolt inside).sound ↔ r.sound :=
  UnitRecord.sound_congr rfl rfl rfl rfl

/-- A FREE_USE cabin that follows its inside bolt (R20). -/
theorem UnitRecord.sound_follows {r : UnitRecord} (h : r.sound) (inside : InsideBolt) :
    (r.follows inside).sound ∧ ((r.follows inside).moving ↔ r.moving) := by
  have same : r.sound ∧ (r.moving ↔ r.moving) := ⟨h, Iff.rfl⟩
  unfold UnitRecord.follows
  split
  · exact same
  · split
    case isTrue at_ =>
      obtain ⟨config, holder, intent⟩ : r.config.isSome = true ∧ r.holder = none ∧ r.intent = none := by
        unfold UnitRecord.sound at h
        rw [at_.1] at h
        exact h
      have rest := UnitRecord.sound_at_rest (q := { r with state := .occupied }) config intent holder (by simp)
      exact ⟨rest.1, iff_of_false rest.2 (by simp [UnitRecord.moving, at_.1])⟩
    · split
      case isTrue at_ =>
        obtain ⟨config, holder, intent⟩ : r.config.isSome = true ∧ r.holder = none ∧ r.intent = none := by
          unfold UnitRecord.sound at h
          rw [at_.1] at h
          exact h
        have rest := UnitRecord.sound_at_rest (q := { r.usedOnce with state := r.usedOnce.adjusted r.useEnds }) config intent holder
          (UnitRecord.adjusted_mem_of_none holder (by obtain e | e := r.useEnds_mem <;> simp [e]))
        exact ⟨rest.1, iff_of_false rest.2 (by simp [UnitRecord.moving, at_.1])⟩
      · split
        · split
          · exact same
          case h_2 i intent =>
            have sound := (UnitRecord.sound_intent h intent).2.1
            split
            case isTrue ret =>
              have ends : r.useEnds ≠ .held ∧ r.useEnds ≠ .openHeld := by obtain e | e := r.useEnds_mem <;> simp [e]
              refine ⟨UnitRecord.sound_reintent h intent (j := { i with ret := r.useEnds }) rfl rfl rfl rfl rfl ?_
                (Intent.sound_rewritten sound ret r.useEnds_mem), Iff.rfl⟩
              rintro (e | e)
              · exact absurd e ends.1
              · exact absurd e ends.2
            case isFalse =>
              split
              case h_1 b under =>
                split
                case isTrue ret =>
                  exact ⟨UnitRecord.sound_reintent h intent (j := { i with under := some { b with ret := r.useEnds } }) rfl rfl rfl rfl rfl
                    (fun _ => rfl) (Intent.sound_rewritten_under sound under ret.2 r.useEnds_mem), Iff.rfl⟩
                case isFalse => exact same
              case h_2 => exact same
        · exact same

theorem UnitRecord.sound_seen {r : UnitRecord} (h : r.sound) (door : Door) (bolt : Bolt) (inside : InsideBolt) :
    (r.seen door bolt inside).sound ∧ ((r.seen door bolt inside).moving ↔ r.moving) := by
  rw [UnitRecord.seen_eq]
  obtain ⟨sound, moving⟩ := UnitRecord.sound_follows ((r.felt_sound door bolt inside).mpr h) inside
  exact ⟨sound, moving.trans Iff.rfl⟩

/-- A whole node report (R14, R15, R17 to R20). -/
theorem UnitRecord.sound_reported {r : UnitRecord} (h : r.sound) (door : Door) (bolt : Bolt) (inside : InsideBolt) :
    (r.reported door bolt inside).sound ∧ ((r.reported door bolt inside).moving ↔ r.moving) := by
  obtain ⟨sound, moving⟩ := UnitRecord.sound_seen h door bolt inside
  have noted : ∀ o, ({ r.seen door bolt inside with last := o } : UnitRecord).sound := fun o => (UnitRecord.sound_congr rfl rfl rfl rfl).mpr sound
  unfold UnitRecord.reported
  dsimp only
  split
  · exact ⟨sound, moving⟩
  case h_2 i intent =>
    split
    case isTrue verify =>
      have still : ¬r.moving := by rw [← moving]; simp [UnitRecord.moving, verify.1]
      split
      · have done := UnitRecord.sound_accomplished (noted (some .done)) intent
        exact ⟨done.1, iff_of_false done.2 still⟩
      · have back := UnitRecord.sound_withdrawn (noted (some .refusedByNode)) intent
        exact ⟨back.1, iff_of_false back.2 still⟩
    case isFalse =>
      split
      case isTrue jammed =>
        have still : ¬r.moving := by rw [← moving]; simp [UnitRecord.moving, jammed.1]
        have late := UnitRecord.sound_accomplished (noted (some .doneLate)) intent
        exact ⟨late.1, iff_of_false late.2 still⟩
      case isFalse => exact ⟨sound, moving⟩

/-! ## Intents taken -/

theorem direction_lock_iff (c : Cause) : c.direction = .lock ↔ c = .guestLock ∨ c = .staffLock := by cases c <;> simp [Cause.direction]

theorem direction_unlock_iff (c : Cause) : c.direction = .unlock ↔ ¬(c = .guestLock ∨ c = .staffLock) := by cases c <;> simp [Cause.direction]

/-- The intent taken at a unit is sound: its return state is the unit's own, and in JAMMED or VERIFY the intent there stands under it (R5). -/
theorem Intent.sound_taken {holder : Option BandId} {c : Cause} {st : UnitState} {carried : Option Intent}
    (stuck : st = .jammed ∨ st = .verify → ∃ i, carried = some i ∧ i.sound holder) (still : st ∉ [UnitState.unconfigured, .locking, .unlocking])
    (free : st ∈ [UnitState.forfeited, .occupied, .cleaning, .withdrawn] ∨ (st = .vacant ∧ c ≠ .guestLock) → holder = none) :
    (⟨c, st, if st = .jammed ∨ st = .verify then carried.map fun i => i.under.getD ⟨i.cause, i.ret⟩ else none⟩ : Intent).sound holder := by
  unfold Intent.sound
  dsimp only
  by_cases again : st = .jammed ∨ st = .verify
  · obtain ⟨i, rfl, sound⟩ := stuck again
    rw [if_pos again]
    refine ⟨again, ?_⟩
    dsimp only
    unfold Intent.sound at sound
    split at sound
    case h_1 none_ => rw [none_]; exact sound
    case h_2 b under => rw [under]; exact sound.2
  · rw [if_neg again]
    refine ⟨?_, free⟩
    simp only [List.mem_cons, List.not_mem_nil, or_false, not_or] at still again ⊢
    obtain ⟨unconfigured, locking, unlocking⟩ := still
    obtain ⟨jammed, verify⟩ := again
    exact ⟨unconfigured, locking, unlocking, jammed, verify⟩

/-- An intent is taken: the unit is owed a movement, a lock only where a band holds it (R5, R81). -/
theorem UnitRecord.sound_intends_of {r : UnitRecord} {c : Cause} (config : r.config.isSome = true)
    (stuck : r.state = .jammed ∨ r.state = .verify → ∃ i, r.intent = some i ∧ i.sound r.holder)
    (still : r.state ∉ [UnitState.unconfigured, .locking, .unlocking])
    (free : r.state ∈ [UnitState.forfeited, .occupied, .cleaning, .withdrawn] ∨ (r.state = .vacant ∧ c ≠ .guestLock) → r.holder = none)
    (held : r.state = .held ∨ r.state = .openHeld → r.holder.isSome = true) (lock : c.direction = .lock → r.holder.isSome = true) :
    (r.intends c).sound ∧ (r.intends c).moving := by
  have sound := Intent.sound_taken (carried := r.intent) stuck still free
  by_cases locks : c = .guestLock ∨ c = .staffLock
  · have state : (r.intends c).state = .locking := if_pos locks
    have direction := (direction_lock_iff c).mpr locks
    refine ⟨?_, .inl state⟩
    unfold UnitRecord.sound
    rw [state]
    exact ⟨config, lock direction, _, rfl, direction, sound⟩
  · have state : (r.intends c).state = .unlocking := if_neg locks
    refine ⟨?_, .inr state⟩
    unfold UnitRecord.sound
    rw [state]
    exact ⟨config, _, rfl, (direction_unlock_iff c).mpr locks, sound, held⟩

/-- What the law says of a configured unit that is owed no movement. -/
theorem UnitRecord.sound_still {r : UnitRecord} (h : r.sound) (configured : r.state ≠ .unconfigured) (still : ¬r.moving) :
    r.config.isSome = true
      ∧ (r.state = .jammed ∨ r.state = .verify → ∃ i, r.intent = some i ∧ i.sound r.holder)
      ∧ r.state ∉ [UnitState.unconfigured, .locking, .unlocking]
      ∧ (r.state ∈ [UnitState.vacant, .forfeited, .occupied, .cleaning, .withdrawn] → r.holder = none)
      ∧ (r.state = .held ∨ r.state = .openHeld → r.holder.isSome = true) := by
  unfold UnitRecord.sound at h
  unfold UnitRecord.moving at still
  cases state : r.state <;> simp_all

/-- An intent is taken at a unit that is owed no movement (R5). -/
theorem UnitRecord.sound_intends {r : UnitRecord} (h : r.sound) (configured : r.state ≠ .unconfigured) (still : ¬r.moving) {c : Cause}
    (lock : c.direction = .lock → r.holder.isSome = true) : (r.intends c).sound ∧ (r.intends c).moving := by
  obtain ⟨config, stuck, rest, free, held⟩ := UnitRecord.sound_still h configured still
  refine UnitRecord.sound_intends_of config stuck rest (fun mem => free ?_) held lock
  simp only [List.mem_cons, List.not_mem_nil, or_false] at mem ⊢
  rcases mem with (h | h | h | h) | ⟨h, -⟩ <;> simp [h]

/-- A guest lock at a VACANT unit binds the band first (R6). -/
theorem UnitRecord.sound_intends_bound {r : UnitRecord} (h : r.sound) (vacant : r.state = .vacant) {q : UnitRecord} (state : q.state = r.state)
    (config : q.config = r.config) (holder : q.holder.isSome = true) : (q.intends .guestLock).sound ∧ (q.intends .guestLock).moving := by
  obtain ⟨configured, -, -⟩ : r.config.isSome = true ∧ r.holder = none ∧ r.intent = none := by
    unfold UnitRecord.sound at h
    rw [vacant] at h
    exact h
  exact UnitRecord.sound_intends_of (by rw [config]; exact configured) (by simp [state, vacant]) (by simp [state, vacant]) (by simp [state, vacant])
    (by simp [state, vacant]) fun _ => holder

theorem takeIntent_eq (s : State) (u : Nat) (c : Cause) : s.takeIntent u c = s.setUnit u ((s.unit u).intends c) := by
  unfold State.takeIntent State.modUnit UnitRecord.intends
  cases c <;> rfl

end Sys2Proof.Machine
end


section
/-! PROOF. The laws through the compound acts on a unit: the removal of a record, a completion, a report, and a release (R7 to R20, R88, R90). -/

set_option Elab.async false

namespace Sys2Proof.Machine

variable {ls : List Law} {s t : State}

/-! ## Every law but that of movements, and then that law too -/

/-- An act that keeps the other laws keeps all of them where it keeps the law of movements. -/
theorem Keeps.with_moves (h : Keeps ls s t) {r : State} (others : ∀ ms : List Law, .moves ∉ ms → Keeps ms t r) (moves : t.MovesInv → r.MovesInv) :
    Keeps ls s r :=
  h.trans fun l _ => by
    by_cases same : l = .moves
    · subst same; exact moves
    · exact others [l] (by simpa using Ne.symm same) l (by simp)

theorem State.movements_eq (s : State) (u : Nat) :
    s.movements u = s.arb.queue.countP (·.unit == u) + (allStrings.map s.str).countP fun c => c.inFlight.elim false (·.unit == u) := rfl

/-- The law of movements after an act on one unit alone, its queue and its actuations apart. -/
theorem movesInv_of_unit (inv : s.MovesInv) (u : Nat) (arb : t.arb = s.arb)
    (flight : ∀ i, (t.str i).inFlight.map (·.unit) = (s.str i).inFlight.map (·.unit)) (others : ∀ v, v ≠ u → t.unit v = s.unit v)
    (mine : isUnit u → (s.unit u).sound → (t.unit u).sound ∧ ((t.unit u).moving ↔ (s.unit u).moving)) : t.MovesInv := by
  obtain ⟨queue, sound, owed, demands, tags⟩ := inv
  have moves : ∀ v, t.movements v = s.movements v := movements_congr (by rw [arb]) flight
  have moving : ∀ v, (t.unit v).moving ↔ (s.unit v).moving := by
    intro v
    by_cases same : v = u
    · subst same
      by_cases unit : isUnit v
      · exact (mine unit (sound v unit)).2
      · rw [State.unit_of_not_isUnit _ unit, State.unit_of_not_isUnit _ unit]
    · rw [others v same]
  refine ⟨by simpa only [State.QueueInv, arb] using queue, fun v unit => ?_, fun v => ?_, by rw [arb]; exact demands, by rw [arb]; exact tags⟩
  · by_cases same : v = u
    · subst same; exact (mine unit (sound v unit)).1
    · rw [others v same]; exact sound v unit
  · rw [moves v, owed v]
    exact if_congr (moving v).symm rfl rfl

/-! ## Node reports -/

theorem keeps_nodeReport (h : Keeps ls s t) (u : Nat) (door : Door) (bolt : Bolt) (inside : InsideBolt) :
    Keeps ls s (t.nodeReport u door bolt inside) :=
  h.with_moves (fun _ free => keeps_nodeReport' Keeps.refl u door bolt inside free) fun inv => by
    rw [nodeReport_eq_reportTaken]
    have same := changes_reportTaken t u door bolt inside
    have strings : ∀ i, (t.reportTaken u door bolt inside).str i = t.str i := fun i => by rw [State.str, State.str, same .strings (by decide)]
    refine movesInv_of_unit inv u (same .arb (by decide)) (fun i => by rw [strings]) (fun v ne => State.unit_reportTaken_other _ ne _ _ _)
      fun unit sound => ?_
    rw [State.unit_reportTaken_self _ unit]
    exact UnitRecord.sound_reported sound door bolt inside

/-! ## A release at once (R16) -/

theorem State.unit_removeHolder_self (s : State) {u : Nat} (h : isUnit u) : (s.removeHolder u).unit u = (s.unit u).freed := by
  rw [State.removeHolder_eq, State.unit_setUnit_self _ h]

theorem State.unit_removeHolder_other (s : State) {u v : Nat} (h : v ≠ u) : (s.removeHolder u).unit v = s.unit v := by
  rw [State.removeHolder_eq, State.unit_setUnit_other _ _ h]
  rfl

theorem State.enter_eq (s : State) {u : Nat} (h : isUnit u) (target : UnitState) :
    s.enter u target = s.enters u { s.unit u with state := (s.unit u).adjusted target } := by
  have := s.enter_setUnit h (s.unit u) target
  rwa [State.setUnit_unit_self] at this

theorem State.unit_enter_self (s : State) {u : Nat} (h : isUnit u) (target : UnitState) :
    (s.enter u target).unit u = { s.unit u with state := (s.unit u).adjusted target } := by
  rw [s.enter_eq h, State.unit_enters_self _ h]

theorem State.unit_enter_other (s : State) {u v : Nat} (h : v ≠ u) (target : UnitState) : (s.enter u target).unit v = s.unit v := by
  by_cases unit : isUnit u
  · rw [s.enter_eq unit, State.unit_enters_other _ _ h]
  · unfold State.enter
    dsimp only
    rw [State.modUnit, s.setUnit_of_not_isUnit unit]
    split
    · rw [State.post_unit]
    · rfl

theorem State.unit_releaseByClosing_self (s : State) {u : Nat} (h : isUnit u) (wasOpen : Bool) :
    (s.releaseByClosing u wasOpen).unit u = (s.unit u).freed := by
  unfold State.releaseByClosing
  split
  case h_1 none_ => exact (if_pos none_).symm
  case h_2 b some_ =>
    rw [State.unit_removeHolder_self _ h]
    exact congrArg UnitRecord.freed (State.post_unit _ _ _)

theorem State.unit_releaseByClosing_other (s : State) {u v : Nat} (h : v ≠ u) (wasOpen : Bool) :
    (s.releaseByClosing u wasOpen).unit v = s.unit v := by
  unfold State.releaseByClosing
  split
  · rfl
  · rw [State.unit_removeHolder_other _ h]
    exact State.post_unit _ _ _

/-- A release of a unit at rest, with the notices of the release before it (R16). -/
theorem keeps_release_enter (h : Keeps ls s t) (u : Nat) (wasOpen : Bool)
    (open_ : .moves ∈ ls → (t.unit u).state = .openHeld) : Keeps ls s ((t.releaseByClosing u wasOpen).enter u .vacant) := by
  by_cases mem : .moves ∈ ls
  case neg => exact keeps_enter (keeps_releaseByClosing h u wasOpen mem) u _ mem
  refine h.with_moves (fun _ free => keeps_enter (keeps_releaseByClosing Keeps.refl u wasOpen free) u _ free) fun inv => ?_
  have same : Changes [.units, .dir, .link, .notices, .counters] t ((t.releaseByClosing u wasOpen).enter u .vacant) := by simp
  have strings : ∀ i, ((t.releaseByClosing u wasOpen).enter u .vacant).str i = t.str i := fun i => by
    rw [State.str, State.str, same .strings (by decide)]
  refine movesInv_of_unit inv u (same .arb (by decide)) (fun i => by rw [strings])
    (fun v ne => by rw [State.unit_enter_other _ ne, State.unit_releaseByClosing_other _ ne]) fun unit sound => ?_
  rw [State.unit_enter_self _ unit, State.unit_releaseByClosing_self _ unit]
  obtain ⟨config, -, intent⟩ : (t.unit u).config.isSome = true ∧ (t.unit u).holder.isSome = true ∧ (t.unit u).intent = none := by
    unfold UnitRecord.sound at sound
    rw [open_ mem] at sound
    exact sound
  have freedIntent : (t.unit u).freed.intent = none := by
    unfold UnitRecord.freed
    split <;> exact intent
  have rest := UnitRecord.sound_released (q := { (t.unit u).freed with state := (t.unit u).freed.adjusted .vacant }) config
    (t.unit u).freed_config freedIntent (t.unit u).freed_holder (t.unit u).freed_adjusted_vacant
  exact ⟨rest.1, iff_of_false rest.2 (by simp [UnitRecord.moving, open_ mem])⟩

/-! ## Movements owed -/

/-- How many actuations of a unit are in flight. -/
def State.flights (s : State) (u : Nat) : Nat := s.strings.toList.countP fun c => c.inFlight.elim false (·.unit == u)

theorem State.movements_eq_add (s : State) (u : Nat) : s.movements u = s.arb.queue.countP (·.unit == u) + s.flights u := rfl

/-- A count over the strings after one of them has been replaced. -/
theorem PerString.countP_set {α : Type} (P : α → Bool) (p : PerString α) (i : StringId) (x : α) :
    (p.set i x).toList.countP P + (P (p.get i)).toNat = p.toList.countP P + (P x).toNat := by
  cases i <;> simp only [PerString.set, PerString.get, PerString.toList, List.countP_cons, List.countP_nil] <;>
    cases P x <;> cases P p.a <;> cases P p.b <;> cases P p.c <;> cases P p.d <;> rfl

theorem PerString.countP_pos_of_get {α : Type} {P : α → Bool} {p : PerString α} {i : StringId} (h : P (p.get i) = true) : 0 < p.toList.countP P := by
  rw [List.countP_pos_iff]
  exact ⟨p.get i, by cases i <;> simp [PerString.toList, PerString.get], h⟩

theorem queueCount_removed (queue : List ActRecord) (u v : Nat) :
    (queue.filter (·.unit != u)).countP (·.unit == v) = if v = u then 0 else queue.countP (·.unit == v) := by
  rw [List.countP_filter]
  split
  case isTrue same =>
    subst same
    rw [List.countP_eq_zero]
    simp
  case isFalse ne =>
    refine List.countP_congr fun r _ => ?_
    simp only [Bool.and_eq_true, beq_iff_eq, bne_iff_ne]
    exact ⟨And.left, fun h => ⟨h, h ▸ ne⟩⟩

theorem State.isUnit_of_moving {u : Nat} (h : (s.unit u).moving) : isUnit u := by
  by_contra other
  rw [s.unit_of_not_isUnit other] at h
  simp [UnitRecord.moving, UnitRecord.cold] at h

/-- A unit with a movement owed is owed one and no more (R81). -/
theorem State.MovesInv.moving_of_pos (inv : s.MovesInv) {u : Nat} (h : 0 < s.movements u) : (s.unit u).moving ∧ s.movements u = 1 := by
  obtain ⟨-, -, owed, -⟩ := inv
  rw [owed u] at h ⊢
  by_cases moving : (s.unit u).state = .locking ∨ (s.unit u).state = .unlocking
  · exact ⟨moving, if_pos moving⟩
  · rw [if_neg moving] at h; omega

/-- A unit with a queued record. -/
theorem State.MovesInv.of_record (inv : s.MovesInv) {r : ActRecord} (mem : r ∈ s.arb.queue) :
    (s.unit r.unit).moving ∧ s.arb.queue.countP (·.unit == r.unit) = 1 ∧ s.flights r.unit = 0 := by
  have pos : 0 < s.arb.queue.countP (·.unit == r.unit) := List.countP_pos_iff.mpr ⟨r, mem, by simp⟩
  obtain ⟨moving, one⟩ := inv.moving_of_pos (u := r.unit) (by rw [State.movements_eq_add]; omega)
  rw [State.movements_eq_add] at one
  exact ⟨moving, by omega, by omega⟩

theorem eq_of_countP_eq_one {α : Type} {P : α → Bool} {l : List α} (one : l.countP P = 1) {x y : α} (hx : x ∈ l) (px : P x = true) (hy : y ∈ l)
    (py : P y = true) : x = y := by
  rw [List.countP_eq_length_filter, List.length_eq_one_iff] at one
  obtain ⟨z, only⟩ := one
  have mx : x ∈ l.filter P := List.mem_filter.mpr ⟨hx, px⟩
  have my : y ∈ l.filter P := List.mem_filter.mpr ⟨hy, py⟩
  rw [only, List.mem_singleton] at mx my
  rw [mx, my]

/-- No two queued records are of one unit (R81). -/
theorem State.MovesInv.record_unique (inv : s.MovesInv) {r q : ActRecord} (hr : r ∈ s.arb.queue) (hq : q ∈ s.arb.queue) (same : q.unit = r.unit) : q = r :=
  eq_of_countP_eq_one (inv.of_record hr).2.1 hq (by simp [same]) hr (by simp)

/-- The law of the queue and the demands after records and demands have left them. -/
theorem queueInv_of_sublist (inv : s.QueueInv) (queue : t.arb.queue.Sublist s.arb.queue) (demands : t.arb.demands.Sublist s.arb.demands)
    (tag : t.arb.nextTag = s.arb.nextTag) : t.QueueInv := by
  obtain ⟨few, some_, distinct, low, high, free⟩ := inv
  have tags : (t.arb.demands.map (·.tag)).Sublist (s.arb.demands.map (·.tag)) := demands.map _
  exact ⟨queue.length_le.trans few, demands.length_le.trans some_, distinct.sublist tags, by rw [tag]; exact low, by rw [tag]; exact high,
    by rw [tag]; exact fun mem => free (tags.subset mem)⟩

/-- The law of movements after a queued record has been removed and its unit's intent withdrawn. -/
theorem movesInv_of_removal (inv : s.MovesInv) {r : ActRecord} (mem : r ∈ s.arb.queue) (queue : t.arb.queue = s.arb.queue.filter (·.unit != r.unit))
    (demands : t.arb.demands.Sublist s.arb.demands) (tag : t.arb.nextTag = s.arb.nextTag)
    (served : ∀ d ∈ t.arb.demands, d.inFlight = false → some d.tag ≠ r.tag) (flights : ∀ u, t.flights u = s.flights u)
    (others : ∀ v, v ≠ r.unit → t.unit v = s.unit v) (mine : (t.unit r.unit).sound ∧ ¬(t.unit r.unit).moving) : t.MovesInv := by
  obtain ⟨moving, one, none_⟩ := inv.of_record mem
  have unique := fun q hq => inv.record_unique (q := q) mem hq
  obtain ⟨few, sound, owed, records, tags⟩ := inv
  have sub : t.arb.queue.Sublist s.arb.queue := by rw [queue]; exact List.filter_sublist
  refine ⟨queueInv_of_sublist few sub demands tag, fun v unit => ?_, fun v => ?_, fun d hd waits => ?_, fun q hq => tags q (sub.subset hq)⟩
  · by_cases same : v = r.unit
    · rw [same]; exact mine.1
    · rw [others v same]; exact sound v unit
  · rw [State.movements_eq_add, queue, queueCount_removed, flights]
    by_cases same : v = r.unit
    · rw [if_pos same, same, none_]
      exact (if_neg mine.2).symm
    · rw [if_neg same, ← State.movements_eq_add, owed v, others v same]
  · obtain ⟨q, hq, unit, tagged⟩ := records d (demands.subset hd) waits
    refine ⟨q, ?_, unit, tagged⟩
    rw [queue, List.mem_filter]
    refine ⟨hq, bne_iff_ne.mpr fun same => served d hd waits ?_⟩
    rw [← tagged, unique q hq same]

/-! ## A guest record withdrawn -/

theorem State.flights_congr {s t : State} (strings : t.strings = s.strings) (u : Nat) : t.flights u = s.flights u := by
  rw [State.flights, State.flights, strings]

/-- The withdrawal at a unit that is owed a movement leaves a unit that is owed none (R7). -/
theorem State.MovesInv.withdrawIntent_unit (inv : s.MovesInv) {u : Nat} (moving : (s.unit u).moving) :
    ((s.withdrawIntent u).unit u).sound ∧ ¬((s.withdrawIntent u).unit u).moving := by
  have sound := inv.2.1 u (State.isUnit_of_moving moving)
  obtain ⟨i, intent⟩ := UnitRecord.intent_of_sound sound (.inl moving)
  rw [withdrawIntent_eq_withdrawn, State.unit_withdrawn_self _ intent]
  exact UnitRecord.sound_withdrawn sound intent

theorem State.unit_withdrawIntent_other (s : State) {u v : Nat} (h : v ≠ u) : (s.withdrawIntent u).unit v = s.unit v := by
  rw [withdrawIntent_eq_withdrawn, State.unit_withdrawn_other _ h]

/-- A unit's record leaves the queue and the unit's intent is withdrawn. -/
theorem removeRecord_withdrawIntent (s : State) (u : Nat) : (s.removeRecord u).withdrawIntent u = (s.withdrawIntent u).removeRecord u := by
  have arb : (s.withdrawIntent u).arb = s.arb :=
    (by simp : Changes [.units, .dir, .link, .notices, .counters] s (s.withdrawIntent u)) .arb (by decide)
  rw [State.removeRecord, State.removeRecord, arb, withdrawIntent_eq_withdrawn, withdrawIntent_eq_withdrawn, State.setArb_withdrawn]

theorem keeps_removeRecord (h : Keeps ls s t) (u : Nat) (free : .moves ∉ ls) : Keeps ls s (t.removeRecord u) :=
  keeps_setArb h (fun _ => id) fun mem => absurd mem free

theorem keeps_withdrawGuest (h : Keeps ls s t) (u : Nat) (why : WithdrawReason) : Keeps ls s (t.withdrawGuest u why) := by
  unfold State.withdrawGuest
  split
  · exact h
  case h_2 r found =>
    have mem := List.mem_of_find?_eq_some found
    obtain ⟨rfl, guest⟩ : r.unit = u ∧ r.origin ≠ .staff := by simpa using List.find?_some found
    refine keeps_postUnit ?_ _ _ _ _ _
    rw [removeRecord_withdrawIntent]
    refine h.with_moves (fun _ free => keeps_removeRecord (keeps_withdrawIntent Keeps.refl _ free) _ free) fun inv => ?_
    have same : Changes [.units, .dir, .link, .notices, .counters] t (t.withdrawIntent r.unit) := by simp
    have arb : (t.withdrawIntent r.unit).arb = t.arb := same .arb (by decide)
    refine movesInv_of_removal inv mem ?_ ?_ ?_ (fun d hd waits tagged => ?_) (State.flights_congr (same .strings (by decide)))
      (fun v ne => t.unit_withdrawIntent_other ne) (inv.withdrawIntent_unit (inv.of_record mem).1)
    · rw [State.removeRecord, State.setArb_arb, arb]
    · rw [State.removeRecord, State.setArb_arb, arb]
    · rw [State.removeRecord, State.setArb_arb, arb]
    · rw [inv.2.2.2.2 r mem guest] at tagged
      cases tagged

end Sys2Proof.Machine
end


section
/-! PROOF. The laws through completions, sweeps and walks (R88, R104, R146, R157 to R165). -/

set_option Elab.async false

namespace Sys2Proof.Machine

variable {ls : List Law} {s t : State}

/-! ## The Arbiter -/

theorem keeps_dropDemand (h : Keeps ls s t) (tag : Nat) : Keeps ls s (t.dropDemand tag) :=
  h.with_moves (fun _ free => keeps_setArb Keeps.refl (fun _ => id) fun mem => absurd mem free) fun inv => by
    obtain ⟨queue, sound, owed, records, tags⟩ := inv
    have moves : ∀ u, (t.dropDemand tag).movements u = t.movements u := movements_congr rfl fun _ => rfl
    have sub : (t.dropDemand tag).arb.demands.Sublist t.arb.demands := List.filter_sublist
    exact ⟨queueInv_of_sublist queue (.refl _) sub rfl, sound, fun u => (moves u).trans (owed u), fun d mem => records d (sub.subset mem), tags⟩

theorem keeps_closeDemand (h : Keeps ls s t) (tag : Option Nat) (holder : Option BandId) (e : DemandEnd) :
    Keeps ls s (t.closeDemand tag holder e) := by
  unfold State.closeDemand
  split
  · exact h
  · split
    · exact h
    · exact keeps_postUnit (keeps_dropDemand h _) _ _ _ _ _

theorem keeps_setArb_like (h : Keeps ls s t) {a : Arbiter} (pass : t.arb.grantPass = true → a.grantPass = true := by exact id)
    (queue : a.queue = t.arb.queue := by rfl) (demands : a.demands = t.arb.demands := by rfl) (tag : a.nextTag = t.arb.nextTag := by rfl) :
    Keeps ls s (t.setArb a) := keeps_setArb h (fun _ => pass) fun _ => ⟨queue, demands, tag⟩

theorem keeps_enterQuiesced (h : Keeps ls s t) : Keeps ls s t.enterQuiesced := keeps_post (keeps_setArb_like h) _

theorem keeps_testQuiesced (h : Keeps ls s t) : Keeps ls s t.testQuiesced := by
  unfold State.testQuiesced
  split
  · exact keeps_enterQuiesced h
  · exact h

theorem keeps_urgencyStop (h : Keeps ls s t) : Keeps ls s t.urgencyStop := keeps_setArb_like h

theorem keeps_urgencyAtOffer (h : Keeps ls s t) : Keeps ls s t.urgencyAtOffer := by
  unfold State.urgencyAtOffer
  split
  · exact keeps_setArb_like h
  · exact h

theorem keeps_urgencyAtGrant (h : Keeps ls s t) : Keeps ls s t.urgencyAtGrant := keeps_setArb_like h

theorem keeps_urgencyAtDrop (h : Keeps ls s t) : Keeps ls s t.urgencyAtDrop := by
  unfold State.urgencyAtDrop
  split
  · exact h
  · exact keeps_urgencyStop h

/-! ## The end of a pass and of a sweep -/

theorem passInv_ended (x : SweepSlot) {limit : Nat} (inv : x.PassInv limit) (r : Option SweepResult) :
    ({ x with
        state := .inactive, cursors := ⟨none, none, none, none⟩, offers := ⟨none, none, none, none⟩, visit := [], marks := [], inFlight := 0
        pause := none, result := r } : SweepSlot).PassInv limit := by
  obtain ⟨-, -, -, low, high, -⟩ := inv
  exact ⟨fun _ => ⟨rfl, rfl, rfl⟩, by simp, fun _ => rfl, low, high, by simp⟩

theorem keeps_endSweep (h : Keeps ls s t) (k : SlotId) (e : Ending) : Keeps ls s (t.endSweep k e) := by
  have ended := keeps_post (keeps_setSlot h (k := k) fun _ inv => passInv_ended (t.slot k) inv
    (some ⟨e, (t.slot k).issued, (t.slot k).done, (t.slot k).missed⟩)) { kind := .sweepDone, code := .ending e, value := some (t.slot k).missed }
  cases k
  · exact keeps_startPass ended
  · exact keeps_urgencyStop ended

theorem keeps_testPass (h : Keeps ls s t) (k : SlotId) : Keeps ls s (t.testPass k) := by
  unfold State.testPass
  dsimp only
  split
  case isFalse => exact h
  case isTrue done =>
    obtain ⟨-, cursors, offers, inFlight⟩ := (SweepSlot.passDone_iff _).mp done
    split
    · exact keeps_endSweep h k _
    · split
      · refine keeps_endSweep ?_ k _
        exact keeps_setSlot h fun _ inv => inv
      case isFalse more =>
        refine keeps_setSlot h fun _ ⟨_, _, _, low, high, _⟩ => ?_
        exact ⟨fun _ => ⟨cursors, offers, inFlight⟩, by simp, by simp, low, high, fun _ => not_le.mp more⟩

theorem keeps_countSweep (h : Keeps ls s t) (slot : Option SlotId) (o : Completion) : Keeps ls s (t.countSweep slot o) := by
  unfold State.countSweep
  split
  · exact h
  case h_2 k =>
    refine keeps_testPass (keeps_setSlot h fun _ ⟨rest, paused, marks, low, high, more⟩ => ?_) k
    have fewer : (t.slot k).state ≠ .walking → (t.slot k).cursors = ⟨none, none, none, none⟩ ∧ (t.slot k).offers = ⟨none, none, none, none⟩
        ∧ (t.slot k).inFlight - 1 = 0 := fun still => ⟨(rest still).1, (rest still).2.1, by rw [(rest still).2.2]⟩
    split <;> exact ⟨fewer, paused, marks, low, high, more⟩

/-! ## Completions -/

theorem keeps_startGap (h : Keeps ls s t) (i : StringId) (cleared : Bool) : Keeps ls s (t.startGap i cleared) := by
  unfold State.startGap
  split
  · exact keeps_setStr h ⟨rfl, rfl, rfl, rfl, by simp⟩
  · split
    · have swap : ∀ c, (t.setStr i c).startPass = t.startPass.setStr i c := fun _ => rfl
      rw [swap]
      exact keeps_setStr_of (keeps_startPass h) { held := fun _ _ => .inr rfl }
    · exact keeps_setStr h ⟨rfl, rfl, rfl, rfl, by simp⟩

theorem keeps_clearFlight (h : Keeps ls s t) (i : StringId) (free : .moves ∉ ls) :
    Keeps ls s (t.setStr i { t.str i with inFlight := none, settleTimer := none }) :=
  keeps_setStr_of h { flight := fun _ _ => rfl, moves := fun mem => absurd mem free }

/-- The law of movements after an actuation has left its string and its unit has taken the outcome. -/
theorem movesInv_of_completion (inv : s.MovesInv) {i : StringId} {f : InFlight} (flying : (s.str i).inFlight = some f)
    (queue : t.arb.queue = s.arb.queue) (demands : t.arb.demands = s.arb.demands) (tag : t.arb.nextTag = s.arb.nextTag)
    {c : StringCtl} (strings : t.strings = s.strings.set i c) (landed : c.inFlight = none) (others : ∀ v, v ≠ f.unit → t.unit v = s.unit v)
    (mine : (s.unit f.unit).moving → (s.unit f.unit).sound → (t.unit f.unit).sound ∧ ¬(t.unit f.unit).moving) : t.MovesInv := by
  have count : ∀ v, t.flights v + (if v = f.unit then 1 else 0) = s.flights v := by
    intro v
    have set := PerString.countP_set (fun d : StringCtl => d.inFlight.elim false (·.unit == v)) s.strings i c
    have old : s.strings.get i = s.str i := rfl
    rw [← strings] at set
    simp only [old, flying, landed, Option.elim_some, Option.elim_none, Bool.toNat_false] at set
    rw [State.flights, State.flights, ← Nat.add_zero (List.countP _ s.strings.toList), ← set]
    by_cases same : v = f.unit
    · simp [same]
    · simp [same, Ne.symm same]
  have pos : 0 < s.movements f.unit := by
    have := count f.unit
    rw [if_pos rfl] at this
    rw [State.movements_eq_add]
    omega
  obtain ⟨moving, one⟩ := inv.moving_of_pos pos
  obtain ⟨few, sound, owed, records, tags⟩ := inv
  have after := mine moving (sound _ (State.isUnit_of_moving moving))
  refine ⟨by simpa only [State.QueueInv, queue, demands, tag] using few, fun v unit => ?_, fun v => ?_, by rw [queue, demands]; exact records,
    by rw [queue]; exact tags⟩
  · by_cases same : v = f.unit
    · rw [same]; exact after.1
    · rw [others v same]; exact sound v unit
  · have := count v
    rw [State.movements_eq_add, queue]
    by_cases same : v = f.unit
    · subst same
      rw [State.movements_eq_add] at one
      rw [if_pos rfl] at this
      refine Eq.trans ?_ (if_neg after.2).symm
      omega
    · rw [if_neg same] at this
      rw [others v same, ← owed v, State.movements_eq_add]
      omega

/-- An outcome ends the movement of its unit (R9 to R13). -/
theorem UnitRecord.sound_outcome {s : State} {u : Nat} (moving : (s.unit u).moving) (sound : (s.unit u).sound) (o : Completion) (limited : Bool) :
    ((s.takeOutcome u o limited).unit u).sound ∧ ¬((s.takeOutcome u o limited).unit u).moving := by
  have h := State.isUnit_of_moving moving
  obtain ⟨i, intent⟩ := UnitRecord.intent_of_sound sound (.inl moving)
  have noted : ({ s.unit u with last := some o } : UnitRecord).sound := (UnitRecord.sound_congr rfl rfl rfl rfl).mpr sound
  rw [takeOutcome_eq_outcomeTaken]
  unfold State.outcomeTaken
  have unit := fun d => s.unit_setUnit_post h { s.unit u with last := some o } d
  have stranded := fun st (mem : st = UnitState.jammed ∨ st = UnitState.verify) =>
    UnitRecord.sound_stranded (q := { s.unit u with last := some o, state := st }) sound (.inl moving) mem rfl rfl rfl
  cases o
  case done | doneLate =>
    dsimp only
    rw [State.unit_accomplished_self (i := i), unit]
    · exact UnitRecord.sound_accomplished noted intent
    · rw [unit]; exact intent
  case refusedByNode =>
    dsimp only
    rw [State.unit_withdrawn_self (i := i), unit]
    · exact UnitRecord.sound_withdrawn noted intent
    · rw [unit]; exact intent
  case jammed =>
    dsimp only
    rw [State.unit_setUnit_self _ h]
    exact stranded _ (.inl rfl)
  case uncertain =>
    dsimp only
    rw [State.unit_setUnit_self _ h]
    exact stranded _ (.inr rfl)

theorem keeps_complete (h : Keeps ls s t) (i : StringId) (o : Completion) (cleared : Bool) : Keeps ls s (t.complete i o cleared) := by
  unfold State.complete
  split
  · exact h
  case h_2 f flying =>
    refine keeps_testQuiesced (keeps_countSweep (keeps_closeDemand ?_ _ _ _) _ _)
    refine h.with_moves (fun _ free => ?_) fun inv => ?_
    · exact keeps_takeOutcome (keeps_startGap (keeps_clearFlight (keeps_count Keeps.refl _) i free) i cleared) _ _ _ free
    · generalize before : ((t.count fun c => c.completed o f.limited).setStr i
        { (t.count fun c => c.completed o f.limited).str i with inFlight := none, settleTimer := none }) = b
      have gap := State.startGap_eq b i cleared
      have same : Changes [.units, .dir, .link, .notices, .counters] (b.startGap i cleared) ((b.startGap i cleared).takeOutcome f.unit o f.limited) := by
        simp
      have unit : ∀ v, (b.startGap i cleared).unit v = t.unit v := fun v => by rw [gap, ← before]; rfl
      have arb : ((b.startGap i cleared).takeOutcome f.unit o f.limited).arb = (b.startGap i cleared).arb := same .arb (by decide)
      have strings : ((b.startGap i cleared).takeOutcome f.unit o f.limited).strings = (b.startGap i cleared).strings := same .strings (by decide)
      refine movesInv_of_completion inv flying ?_ ?_ ?_
        (c := { b.str i with
          gapTimer := if cleared = true ∨ b.params.strings.gap = 0 then none else some b.params.strings.gap
          held := !cleared && b.params.strings.gap == 0 }) ?_ ?_ (fun v ne => ?_) fun moving sound => ?_
      · rw [arb, gap, ← before]; rfl
      · rw [arb, gap, ← before]; rfl
      · rw [arb, gap, ← before]; rfl
      · rw [strings, gap, ← before]
        simp only [State.setStr, State.setStrings, PerString.set_set]
        rfl
      · rw [← before, State.str_setStr_self]
      · rw [takeOutcome_eq_outcomeTaken, State.unit_outcomeTaken_other _ ne, unit]
      · rw [← unit] at moving sound
        exact UnitRecord.sound_outcome moving sound o f.limited

end Sys2Proof.Machine
end


section
/-! PROOF. The laws through walks, drops and starts of sweeps (R154 to R164). -/

set_option Elab.async false

namespace Sys2Proof.Machine

variable {ls : List Law} {s t : State}

/-! ## The slot that walks -/

/-- While a slot walks, its law speaks of its pass and its pause alone. -/
theorem passInv_walking {x y : SweepSlot} {limit : Nat} (inv : x.PassInv limit) (before : x.state = .walking) (after : y.state = .walking := by rfl)
    (pause : y.pause = x.pause := by rfl) (pass : y.pass = x.pass := by rfl) : y.PassInv limit := by
  obtain ⟨-, paused, -, low, high, -⟩ := inv
  rw [before] at paused
  refine ⟨fun still => absurd after still, ?_, by simp [after], by rw [pass]; exact low, by rw [pass]; exact high, by simp [after]⟩
  rw [after, pause]
  exact paused

theorem State.slot_congr {s t : State} (h : t.sweeps = s.sweeps) (k : SlotId) : t.slot k = s.slot k := by cases k <;> simp only [State.slot, h]

theorem State.slot_withdrawGuest (s : State) (u : Nat) (why : WithdrawReason) (k : SlotId) : (s.withdrawGuest u why).slot k = s.slot k :=
  State.slot_congr ((by simp : Changes [.units, .dir, .arb, .link, .notices, .counters] s (s.withdrawGuest u why)) .sweeps (by decide)) k

theorem State.slot_supersede (s : State) (k : SlotId) (u : Nat) (l : SlotId) : (s.supersede k u).slot l = s.slot l := by
  cases k
  · exact s.slot_withdrawGuest u .superseded l
  · rfl

theorem State.slot_release_enter (s : State) (u : Nat) (wasOpen : Bool) (k : SlotId) :
    ((s.releaseByClosing u wasOpen).enter u .vacant).slot k = s.slot k :=
  State.slot_congr ((by simp : Changes [.units, .dir, .link, .notices, .counters] s ((s.releaseByClosing u wasOpen).enter u .vacant))
    .sweeps (by decide)) k

theorem State.state_releaseAtOnce (s : State) (k : SlotId) (u : Nat) : ((s.releaseAtOnce k u).slot k).state = (s.slot k).state := by
  unfold State.releaseAtOnce
  dsimp only
  rw [State.slot_setSlot_self, State.slot_release_enter]

theorem keeps_supersede (h : Keeps ls s t) (k : SlotId) (u : Nat) : Keeps ls s (t.supersede k u) := by
  cases k
  · exact keeps_withdrawGuest h u _
  · exact h

theorem keeps_markRepeat (h : Keeps ls s t) {k : SlotId} (u : Nat) (active : .sweeps ∈ ls → (t.slot k).state ≠ .inactive) :
    Keeps ls s (t.markRepeat k u) :=
  keeps_setSlot h fun mem ⟨rest, paused, _, low, high, more⟩ => ⟨rest, paused, fun idle => absurd idle (active mem), low, high, more⟩

theorem keeps_releaseAtOnce (h : Keeps ls s t) (k : SlotId) (u : Nat) (open_ : .moves ∈ ls → (t.unit u).state = .openHeld) :
    Keeps ls s (t.releaseAtOnce k u) :=
  keeps_setSlot (keeps_release_enter h u true open_) fun _ inv => inv

theorem keeps_putOffer (h : Keeps ls s t) {k : SlotId} (i : StringId) (u : Nat) (walking : (t.slot k).state = .walking) :
    Keeps ls s (t.putOffer k i u) := by
  unfold State.putOffer
  refine keeps_startPass ?_
  cases k
  · exact keeps_setSlot h fun _ inv => passInv_walking inv walking (after := walking)
  · have same : t.urgencyAtOffer.slot .closing = t.slot .closing :=
      State.slot_congr ((by simp : Changes [.arb] t t.urgencyAtOffer) .sweeps (by decide)) _
    have walking' : (t.urgencyAtOffer.slot .closing).state = .walking := by rw [same]; exact walking
    exact keeps_setSlot (keeps_urgencyAtOffer h) fun _ inv => passInv_walking inv walking' (after := walking')

theorem State.state_putOffer (s : State) (k : SlotId) (i : StringId) (u : Nat) : ((s.putOffer k i u).slot k).state = (s.slot k).state := by
  cases k
  · rfl
  · have same : s.urgencyAtOffer.slot .closing = s.slot .closing :=
      State.slot_congr ((by simp : Changes [.arb] s s.urgencyAtOffer) .sweeps (by decide)) _
    change (s.urgencyAtOffer.slot .closing).state = _
    rw [same]

theorem keeps_setCursor (h : Keeps ls s t) {k : SlotId} (i : StringId) (c : Option Nat) (walking : (t.slot k).state = .walking) :
    Keeps ls s (t.setCursor k i c) :=
  keeps_setSlot h fun _ inv => passInv_walking inv walking (after := walking)

/-- Only an OPEN_HELD unit is released at once, by a closing sweep (R158). -/
theorem openHeld_of_judge {k : SlotId} {u : Nat} (h : s.judge k u = .releaseAtOnce) : k = .closing ∧ (s.unit u).state = .openHeld := by
  have offers : s.offerOrRepeat u ≠ .releaseAtOnce := by
    unfold State.offerOrRepeat
    split <;> simp
  unfold State.judge at h
  dsimp only at h
  split at h
  all_goals first
    | exact absurd h offers
    | cases h
    | skip
  case h_7 state => exact ⟨rfl, state⟩
  all_goals
    split at h
    · exact absurd h offers
    · cases h

theorem keeps_walkOver (h : Keeps ls s t) (k : SlotId) (i : StringId) (as : List Nat) (walking : (t.slot k).state = .walking) :
    Keeps ls s (walkOver k i as t) := by
  induction as generalizing t with
  | nil => exact keeps_setCursor h i none walking
  | cons a rest ih =>
    unfold walkOver
    split
    · exact ih h walking
    case h_2 u _ =>
      dsimp only
      split
      case isFalse => exact ih h walking
      case isTrue =>
        have visited := keeps_supersede h k u
        have still : ((t.supersede k u).slot k).state = .walking := by rw [State.slot_supersede]; exact walking
        split
        · exact ih visited still
        case h_2 judged =>
          exact ih (keeps_releaseAtOnce visited k u fun _ => (openHeld_of_judge judged).2) (by rw [State.state_releaseAtOnce]; exact still)
        · exact ih (keeps_markRepeat visited u fun _ => (by simp [still])) (by rw [State.markRepeat, State.slot_setSlot_self]; exact still)
        · exact keeps_setCursor (keeps_putOffer visited i u still) i _ (by rw [State.state_putOffer]; exact still)

theorem keeps_walk (h : Keeps ls s t) (k : SlotId) (i : StringId) : Keeps ls s (t.walk k i) := by
  unfold State.walk
  dsimp only
  split
  case h_1 walking _ _ => exact keeps_testPass (keeps_walkOver h k i _ walking) k
  case h_2 => exact keeps_testPass h k

theorem keeps_walkAll (h : Keeps ls s t) (k : SlotId) : Keeps ls s (t.walkAll k) :=
  h.trans (Keeps.foldl (fun _ i => keeps_walk Keeps.refl k i) _ _)

/-! ## Drops -/

/-- A slot that has a candidate on offer walks (R164). -/
theorem SweepSlot.walking_of_offer {x : SweepSlot} {limit : Nat} (inv : x.PassInv limit) {i : StringId} {o : Offer} (offer : x.offers.get i = some o) :
    x.state = .walking := by
  by_contra still
  rw [(inv.1 still).2.1] at offer
  cases i <;> cases offer

theorem keeps_withdrawOffer (h : Keeps ls s t) (k : SlotId) (i : StringId) (mark : Bool) : Keeps ls s (t.withdrawOffer k i mark) := by
  unfold State.withdrawOffer
  split
  · exact h
  case h_2 o offer =>
    have walks : ∀ {limit}, (t.slot k).PassInv limit → (t.slot k).state = .walking := fun inv => SweepSlot.walking_of_offer inv offer
    have off : Keeps ls s (t.setSlot k { t.slot k with offers := (t.slot k).offers.set i none }) :=
      keeps_setSlot h fun _ inv => passInv_walking inv (walks inv) (after := walks inv)
    have marked : Keeps ls s (if mark then (t.setSlot k { t.slot k with offers := (t.slot k).offers.set i none }).markRepeat k o.unit
        else t.setSlot k { t.slot k with offers := (t.slot k).offers.set i none }) := by
      split
      · have both : (t.setSlot k { t.slot k with offers := (t.slot k).offers.set i none }).markRepeat k o.unit =
            t.setSlot k { t.slot k with offers := (t.slot k).offers.set i none, marks := insertUnit o.unit (t.slot k).marks } := by
          cases k <;> rfl
        rw [both]
        exact keeps_setSlot h fun _ inv => passInv_walking inv (walks inv) (after := walks inv)
      · exact off
    dsimp only
    cases k
    · exact marked
    · exact keeps_urgencyAtDrop marked

theorem keeps_dropOffer (h : Keeps ls s t) (k : SlotId) (i : StringId) (u : Nat) : Keeps ls s (t.dropOffer k i u) := by
  unfold State.dropOffer
  split
  · exact keeps_walk (keeps_withdrawOffer h k i true) k i
  · exact h

theorem keeps_dropOffers (h : Keeps ls s t) (i : StringId) (u : Nat) : Keeps ls s (t.dropOffers i u) :=
  keeps_dropOffer (keeps_dropOffer h _ i u) _ i u

theorem keeps_dropString (h : Keeps ls s t) (i : StringId) {act : State → State} (acts : ∀ {r}, Keeps ls s r → Keeps ls s (act r)) :
    Keeps ls s (t.dropString i act) := by
  have acted := acts (keeps_withdrawOffer (keeps_withdrawOffer h .evacuation i true) .closing i true)
  unfold State.dropString
  dsimp only
  split
  · split
    · exact keeps_walk (keeps_walk acted _ i) _ i
    · exact keeps_walk acted _ i
  · split
    · exact keeps_walk acted _ i
    · exact acted

/-! ## Starts -/

theorem keeps_initSweep (h : Keeps ls s t) (k : SlotId) (zone : Nat) (filter : KindFilter) : Keeps ls s (t.initSweep k zone filter) :=
  keeps_setSlot h fun _ _ => by
    refine ⟨fun still => absurd rfl still, by simp, by simp, le_rfl, by cases k <;> simp [passLimit], by simp⟩

theorem keeps_startEvacuation (h : Keeps ls s t) : Keeps ls s t.startEvacuation := keeps_walkAll (keeps_initSweep h _ _ _) _

theorem keeps_startClosing (h : Keeps ls s t) (zone : Nat) (filter : KindFilter) (byClock : Bool) : Keeps ls s (t.startClosing zone filter byClock) :=
  keeps_walkAll (keeps_post (keeps_initSweep h _ _ _) _) _

theorem keeps_nextPass (h : Keeps ls s t) {k : SlotId} (paused : (t.slot k).pause.isSome = true) : Keeps ls s (t.nextPass k) := by
  unfold State.nextPass
  refine keeps_walkAll (keeps_setSlot h fun _ ⟨_, stands, _, low, _, more⟩ => ?_) k
  exact ⟨fun still => absurd rfl still, by simp, by simp, Nat.le_succ_of_le low, more (stands.mpr paused), by simp⟩

end Sys2Proof.Machine
end


section
/-! PROOF. The laws through the exchanges of a string (R129 to R149). -/

set_option Elab.async false

namespace Sys2Proof.Machine

variable {ls : List Law} {s t : State}

/-! ## Rounds and frames -/

theorem StringCtl.like_closeRound (c : StringCtl) : c.Like c.closeRound := ⟨rfl, rfl, rfl, rfl, id⟩

theorem StringCtl.like_openRound (c : StringCtl) (period : Nat) : c.Like (c.openRound period) := by
  unfold StringCtl.openRound
  dsimp only
  split <;> exact ⟨rfl, rfl, rfl, rfl, id⟩

theorem StringCtl.Like.trans {c d e : StringCtl} (h : c.Like d) (h' : d.Like e) : c.Like e :=
  ⟨h'.inFlight.trans h.inFlight, h'.addrs.trans h.addrs, h'.state.trans h.state, h'.score.trans h.score, fun x => h.held (h'.held x)⟩

theorem keeps_settleRound (h : Keeps ls s t) (i : StringId) : Keeps ls s (t.settleRound i) := by
  unfold State.settleRound
  dsimp only
  split
  · split
    · exact keeps_countString (keeps_setStr h ((StringCtl.like_closeRound _).trans (StringCtl.like_openRound _ _))) _ _
    · exact keeps_setStr h (StringCtl.like_closeRound _)
  · exact h

theorem keeps_send (h : Keeps ls s t) (i : StringId) (addr : Nat) (cmd : NodeCommand) (settle : Bool) : Keeps ls s (t.send i addr cmd settle) :=
  keeps_setStr h ⟨rfl, rfl, rfl, rfl, id⟩

theorem keeps_sendRoundPoll (h : Keeps ls s t) (i : StringId) (addr : Nat) : Keeps ls s (t.sendRoundPoll i addr) := by
  unfold State.sendRoundPoll
  refine keeps_send ?_ i addr _ _
  exact keeps_setStr h ⟨rfl, rfl, rfl, rfl, id⟩

theorem keeps_chooseNext (h : Keeps ls s t) (i : StringId) : Keeps ls s (t.chooseNext i) := by
  unfold State.chooseNext
  dsimp only
  split
  · exact h
  · split
    · split
      · exact keeps_send h i _ _ _
      · split
        · split
          · exact keeps_sendRoundPoll h i _
          · exact keeps_send h i _ _ _
        · exact keeps_send h i _ _ _
    · split
      · exact keeps_sendRoundPoll h i _
      · exact h

theorem keeps_sendNext (h : Keeps ls s t) (i : StringId) : Keeps ls s (t.sendNext i) := by
  unfold State.sendNext
  split
  · exact h
  · exact keeps_chooseNext (keeps_settleRound h i) i

theorem keeps_release (h : Keeps ls s t) (i : StringId) : Keeps ls s (t.release i) := by
  unfold State.release
  split
  · refine keeps_sendNext ?_ i
    exact keeps_setStr h ⟨rfl, rfl, rfl, rfl, by simp⟩
  · exact h

theorem keeps_beginRound (h : Keeps ls s t) (i : StringId) : Keeps ls s (t.beginRound i) := by
  unfold State.beginRound
  exact keeps_sendNext (keeps_setStr h (StringCtl.like_openRound _ _)) i

/-! ## The score and the string state -/

theorem State.setStr_setStr (s : State) (i : StringId) (c d : StringCtl) : (s.setStr i c).setStr i d = s.setStr i d := by
  simp only [State.setStr, State.setStrings, PerString.set_set]

/-- A string takes a record and enters a state in one act. -/
theorem keeps_enterString (h : Keeps ls s t) {i : StringId} {c : StringCtl} {st : StringState}
    (fits : (t.str i).Fits ls t.arb.grantPass { c with state := st }) : Keeps ls s ((t.setStr i c).enterString i st) := by
  have entered := keeps_setStr_of h fits
  unfold State.enterString
  dsimp only
  rw [State.str_setStr_self]
  split
  case isTrue same => rwa [← same] at entered
  case isFalse =>
    rw [State.setStr_setStr]
    split
    · exact keeps_startPass (keeps_post entered _)
    · exact keeps_post entered _

theorem stateOfScore_ne_idle (n : Nat) : stateOfScore n ≠ .idle := by
  unfold stateOfScore
  (repeat' split) <;> simp

theorem stateOfScore_eq_off_iff (n : Nat) : stateOfScore n = .off ↔ 256 ≤ n := by
  unfold stateOfScore
  split
  · simp; omega
  · split
    · simp; omega
    · split
      · simp; omega
      · simp; omega

/-- A string with a roster stands in the state of its score (R137). -/
theorem StringCtl.scoreInv_stateOfScore {c : StringCtl} (nodes : c.nodes ≠ []) (top : c.score ≤ 256) (state : c.state = stateOfScore c.score) :
    c.ScoreInv := by
  have ne := stateOfScore_ne_idle c.score
  refine ⟨top, ?_, ?_, ?_, fun _ => state⟩
  · rw [state]; exact iff_of_false ne nodes
  · rw [state]; exact fun h => absurd h ne
  · rw [state, stateOfScore_eq_off_iff]; omega

theorem StringCtl.nodes_ne_nil {c : StringCtl} (inv : c.ScoreInv) (running : c.state ≠ .idle) : c.nodes ≠ [] := fun h => running (inv.2.1.mpr h)

/-- The score of a running string moves, and its state follows (R137). -/
theorem keeps_rescore (h : Keeps ls s t) {i : StringId} (n : Nat) (top : .scores ∈ ls → n ≤ 256) (running : .scores ∈ ls → (t.str i).state ≠ .idle)
    (free : .states ∉ ls) : Keeps ls s ((t.setStr i { t.str i with score := n }).enterString i (stateOfScore n)) :=
  keeps_enterString h
    { states := fun mem => absurd mem free
      scores := fun mem inv => StringCtl.scoreInv_stateOfScore (StringCtl.nodes_ne_nil (c := t.str i) inv (running mem)) (top mem) rfl }

/-! ## Nodes lost -/

theorem keeps_loseNode (h : Keeps ls s t) (i : StringId) (addr : Nat) : Keeps ls s (t.loseNode i addr) := by
  have lost := keeps_modNode h i addr (f := NodeRecord.lost)
  have ended : Keeps ls s (if ((t.modNode i addr NodeRecord.lost).str i).inFlight.elim false (·.node == addr) then
      (t.modNode i addr NodeRecord.lost).complete i .uncertain false else t.modNode i addr NodeRecord.lost) := by
    split
    · exact keeps_complete lost i _ _
    · exact lost
  unfold State.loseNode
  dsimp only
  split
  · exact ended
  · exact keeps_dropOffers (keeps_withdrawGuest ended _ _) i _

theorem keeps_loseNodes (h : Keeps ls s t) (i : StringId) : Keeps ls s (t.loseNodes i) := by
  unfold State.loseNodes
  have lost : Keeps ls s (t.setStr i { t.str i with nodes := (t.str i).nodes.map NodeRecord.lost }) :=
    keeps_setStr h ⟨rfl, by simp [StringCtl.addrs, NodeRecord.lost, Function.comp_def], rfl, rfl, id⟩
  exact keeps_dropString (lost.trans (Keeps.foldl (fun _ u => keeps_withdrawGuest Keeps.refl u .stringOff) _ _)) i id

theorem keeps_goOff (h : Keeps ls s t) (i : StringId) (running : .scores ∈ ls → (t.str i).state ≠ .idle) (free : .states ∉ ls) :
    Keeps ls s (t.goOff i) := by
  unfold State.goOff
  have off : stateOfScore Config.scoreTop = .off := by decide
  have entered : Keeps ls s ((t.setStr i { t.str i with
      score := Config.scoreTop, roundTimer := none, settleTimer := none, gapTimer := none, inRound := false, held := false }).enterString i .off) :=
    keeps_enterString h
      { states := fun mem => absurd mem free
        scores := fun mem inv => StringCtl.scoreInv_stateOfScore (StringCtl.nodes_ne_nil (c := t.str i) inv (running mem)) le_rfl off.symm
        held := by simp }
  exact keeps_setStr (keeps_loseNodes (keeps_complete entered i _ _) i) ⟨rfl, rfl, rfl, rfl, id⟩

theorem keeps_restart (h : Keeps ls s t) (i : StringId) (running : .scores ∈ ls → (t.str i).state ≠ .idle) (free : .states ∉ ls) :
    Keeps ls s (t.restart i) := by
  unfold State.restart
  have addrs : ((t.str i).nodes.map NodeRecord.restarted).map (·.addr) = (t.str i).nodes.map (·.addr) := by
    simp [NodeRecord.restarted, NodeRecord.lost, Function.comp_def]
  refine keeps_beginRound (keeps_enterString h ?_) i
  exact
    { addrs := fun _ => addrs
      states := fun mem => absurd mem free
      scores := fun mem inv => StringCtl.scoreInv_stateOfScore (by simpa using StringCtl.nodes_ne_nil (c := t.str i) inv (running mem)) (Nat.zero_le _) rfl
      held := by simp }

/-! ## A good reply -/

theorem keeps_replyScore (h : Keeps ls s t) (i : StringId) (running : .scores ∈ ls → (t.str i).ScoreInv → (t.str i).state ≠ .idle) (free : .states ∉ ls) :
    Keeps ls s (t.replyScore i) := by
  unfold State.replyScore
  refine keeps_enterString h
    { states := fun mem => absurd mem free
      scores := fun mem inv => StringCtl.scoreInv_stateOfScore (StringCtl.nodes_ne_nil (c := t.str i) inv (running mem inv)) ?_ rfl }
  exact (Nat.sub_le _ _).trans inv.1

theorem keeps_replyPresence (h : Keeps ls s t) (i : StringId) (addr : Nat) : Keeps ls s (t.replyPresence i addr) := by
  unfold State.replyPresence
  split
  · exact keeps_modNode h i addr
  · exact keeps_startPass (keeps_modNode h i addr)
  · exact keeps_startPass (keeps_post (keeps_modNode h i addr) _)

theorem keeps_replyReader (h : Keeps ls s t) (i : StringId) (addr : Nat) (fault : Bool) : Keeps ls s (t.replyReader i addr fault) := by
  unfold State.replyReader State.postFault
  dsimp only
  split
  · exact keeps_post (keeps_modNode h i addr) _
  · exact keeps_modNode h i addr

theorem keeps_replyActuator (h : Keeps ls s t) (i : StringId) (addr : Nat) (fault : Bool) : Keeps ls s (t.replyActuator i addr fault) := by
  unfold State.replyActuator State.postFault
  dsimp only
  split
  · split
    · exact keeps_post (keeps_modNode h i addr) _
    · exact keeps_dropOffers (keeps_post (keeps_modNode h i addr) _) i _
  · split
    · exact keeps_startPass (keeps_modNode h i addr)
    · exact keeps_modNode h i addr

theorem keeps_replyIndicator (h : Keeps ls s t) (i : StringId) (addr : Nat) (x : Exchange) : Keeps ls s (t.replyIndicator i addr x) := by
  unfold State.replyIndicator
  split
  · exact h
  · exact keeps_modNode h i addr

theorem keeps_replyActuation (h : Keeps ls s t) (i : StringId) (addr : Nat) (r : NodeReply) : Keeps ls s (t.replyActuation i addr r) := by
  unfold State.replyActuation
  split
  · exact h
  case h_2 f flying =>
    split
    · exact h
    · split
      · exact keeps_complete h i _ _
      · split
        · exact keeps_complete h i _ _
        · exact keeps_setStr h ⟨by simp [flying], rfl, rfl, rfl, id⟩
      · exact h
      · split
        · exact keeps_complete h i _ _
        · exact h

theorem keeps_replyReport (h : Keeps ls s t) (i : StringId) (addr : Nat) (r : NodeReply) : Keeps ls s (t.replyReport i addr r) := by
  unfold State.replyReport
  dsimp only
  split
  · exact keeps_modNode h i addr
  · exact keeps_nodeReport (keeps_modNode h i addr) _ _ _ _

theorem keeps_replyPresentation (h : Keeps ls s t) (i : StringId) (addr : Nat) (p : Option (Nat × BandId)) :
    Keeps ls s (t.replyPresentation i addr p) := by
  unfold State.replyPresentation
  split
  · split
    · exact keeps_count h _
    · split
      · exact h
      · exact keeps_setDecisions (keeps_modNode h i addr) _
  · exact h

theorem keeps_goodReply (h : Keeps ls s t) (i : StringId) (x : Exchange) (r : NodeReply) (running : .scores ∈ ls → (t.str i).state ≠ .idle)
    (free : .states ∉ ls) : Keeps ls s (t.goodReply i x r) := by
  unfold State.goodReply
  have scored := keeps_replyScore (keeps_countString h i fun n => { n with good := tally n.good }) i (fun mem _ => running mem) free
  exact keeps_replyPresentation (keeps_replyReport (keeps_replyActuation (keeps_replyIndicator (keeps_replyActuator (keeps_replyReader
    (keeps_replyPresence scored i x.node) i x.node _) i x.node _) i x.node x) i x.node r) i x.node r) i x.node _

/-! ## A miss -/

theorem keeps_missNode (h : Keeps ls s t) (i : StringId) (addr : Nat) : Keeps ls s (t.missNode i addr) := by
  unfold State.missNode
  split
  · exact h
  · split
    · exact keeps_modNode h i addr
    · exact keeps_loseNode (keeps_post (keeps_modNode h i addr) _) i addr

theorem keeps_missScore (h : Keeps ls s t) (i : StringId) (running : .scores ∈ ls → (t.str i).state ≠ .idle) (free : .states ∉ ls) :
    Keeps ls s (t.missScore i) := by
  unfold State.missScore
  dsimp only
  split
  · exact keeps_goOff h i running free
  · exact keeps_rescore h _ (fun _ => Nat.min_le_left _ _) running free

theorem keeps_takeMiss (h : Keeps ls s t) (i : StringId) (x : Exchange) (clash : Bool) (running : .scores ∈ ls → (t.str i).state ≠ .idle)
    (free : .states ∉ ls) : Keeps ls s (t.takeMiss i x clash) := by
  unfold State.takeMiss
  generalize (fun n : StringCounters =>
    { n with misses := tally n.misses, clashes := if clash then tally n.clashes else n.clashes }) = f
  have counted := keeps_countString h i f
  dsimp only
  split
  · exact counted
  · refine keeps_missScore (keeps_missNode counted i x.node) i (fun mem => ?_) free
    have state := (keeps_missNode (ls := [.states]) (keeps_countString (Keeps.refl (s := t)) i f) i x.node .states (by simp) i).1
    rw [state]
    exact running mem

theorem keeps_takeReply (h : Keeps ls s t) (i : StringId) (frame : List Byte) (x : Exchange) (running : .scores ∈ ls → (t.str i).state ≠ .idle)
    (free : .states ∉ ls) : Keeps ls s (takeReply i frame x t) := by
  unfold takeReply
  split
  · exact keeps_goodReply h i x _ running free
  · exact keeps_takeMiss h i x _ running free
  · exact keeps_takeMiss h i x _ running free

/-- The end of an exchange keeps what its effect keeps, which it has on a string that runs rounds alone (R130). -/
theorem keeps_endExchange (h : Keeps ls s t) (i : StringId) {act : Exchange → State → State}
    (acts : ∀ x {r}, Keeps ls s r → (r.str i).state ≠ .idle → Keeps ls s (act x r)) : Keeps ls s (t.endExchange i act) := by
  unfold State.endExchange
  split
  · exact h
  case h_2 x _ =>
    dsimp only
    have off : Keeps ls s (t.setStr i { t.str i with exchange := none }) := keeps_setStr h ⟨rfl, rfl, rfl, rfl, id⟩
    refine keeps_sendNext ?_ i
    split
    case isTrue counts =>
      refine acts x off ?_
      simp only [State.counts, StringCtl.running, Bool.and_eq_true, bne_iff_ne] at counts
      exact counts.1.2.1
    case isFalse => exact off

end Sys2Proof.Machine
end


section
/-! PROOF. What the reset of a string, and a change of its roster, keep. -/

set_option Elab.async false

namespace Sys2Proof.Machine

variable {ls : List Law} {s t : State}

/-! ## Records removed by a reset (R92) -/

theorem State.queue_withdrawIntent (s : State) (u : Nat) : (s.withdrawIntent u).arb = s.arb :=
  (show Changes [.units, .dir, .link, .notices, .counters] s (s.withdrawIntent u) by simp) .arb (by decide)

theorem State.find?_guest_isSome {r : ActRecord} (mem : r ∈ s.arb.queue) (guest : r.origin ≠ .staff) :
    ∃ q, s.arb.queue.find? (fun q => q.unit == r.unit && q.origin != .staff) = some q :=
  Option.isSome_iff_exists.mp (List.find?_isSome.mpr ⟨r, mem, by simp [guest]⟩)

theorem State.queue_withdrawGuest {r : ActRecord} (mem : r ∈ s.arb.queue) (guest : r.origin ≠ .staff) (why : WithdrawReason) :
    (s.withdrawGuest r.unit why).arb.queue = s.arb.queue.filter (·.unit != r.unit) := by
  obtain ⟨q, found⟩ := State.find?_guest_isSome mem guest
  unfold State.withdrawGuest
  simp only [found, State.postUnit_eq, State.post_arb, State.queue_withdrawIntent, State.removeRecord, State.setArb_arb]

/-- A record that a reset removes, whatever its origin, leaves the queue, and no other does (R92). -/
theorem State.queue_resetRecord {r : ActRecord} (mem : r ∈ s.arb.queue) :
    (s.resetRecord r).arb.queue = s.arb.queue.filter (·.unit != r.unit) := by
  unfold State.resetRecord
  split
  · simp only [State.postDemandDone, State.postUnit_eq, State.post_arb, State.dropDemand, State.setArb_arb, State.queue_withdrawIntent,
      State.removeRecord]
  · simp only [State.queue_withdrawIntent, State.removeRecord, State.setArb_arb]
  case h_3 origin _ other _ =>
    refine State.queue_withdrawGuest mem (fun staff => ?_) _
    cases tag : r.tag
    · exact absurd tag (by simp_all)
    · exact absurd tag (by simp_all)

theorem keeps_resetRecord (h : Keeps ls s t) (r : ActRecord) (mem : .moves ∈ ls → r ∈ t.arb.queue) : Keeps ls s (t.resetRecord r) := by
  unfold State.resetRecord
  have others : ∀ ms : List Law, .moves ∉ ms → Keeps ms t ((t.removeRecord r.unit).withdrawIntent r.unit) := fun _ free =>
    keeps_withdrawIntent (keeps_removeRecord Keeps.refl _ free) _ free
  have same : Changes [.units, .dir, .link, .notices, .counters] t (t.withdrawIntent r.unit) := by simp
  have arb : (t.withdrawIntent r.unit).arb = t.arb := same .arb (by decide)
  split
  case h_1 tag _ tagged =>
    refine keeps_postUnit ?_ _ _ _ _ _
    by_cases law : .moves ∈ ls
    case neg => exact keeps_dropDemand (h.trans (others _ law)) _
    refine h.with_moves (fun _ free => keeps_dropDemand (others _ free) _) fun inv => ?_
    rw [removeRecord_withdrawIntent]
    refine movesInv_of_removal inv (mem law) ?_ ?_ ?_ (fun d hd _ => ?_) (State.flights_congr (same .strings (by decide)))
      (fun v ne => t.unit_withdrawIntent_other ne) (inv.withdrawIntent_unit (inv.of_record (mem law)).1)
    · simp only [State.dropDemand, State.removeRecord, State.setArb_arb, arb]
    · simp only [State.dropDemand, State.removeRecord, State.setArb_arb, arb]
      exact List.filter_sublist
    · simp only [State.dropDemand, State.removeRecord, State.setArb_arb, arb]
    · have := (List.mem_filter.mp hd).2
      rw [tagged]
      simpa using this
  case h_2 _ tagged =>
    by_cases law : .moves ∈ ls
    case neg => exact h.trans (others _ law)
    refine h.with_moves others fun inv => ?_
    rw [removeRecord_withdrawIntent]
    refine movesInv_of_removal inv (mem law) ?_ ?_ ?_ (fun d _ _ => by rw [tagged]; simp) (State.flights_congr (same .strings (by decide)))
      (fun v ne => t.unit_withdrawIntent_other ne) (inv.withdrawIntent_unit (inv.of_record (mem law)).1)
    · simp only [State.removeRecord, State.setArb_arb, arb]
    · simp only [State.removeRecord, State.setArb_arb, arb]
      exact List.Sublist.refl _
    · simp only [State.removeRecord, State.setArb_arb, arb]
  · exact keeps_withdrawGuest h _ _

/-- No unit has two records in the queue (R81). -/
theorem State.MovesInv.queue_nodup (inv : s.MovesInv) : (s.arb.queue.map (·.unit)).Nodup := by
  rw [List.nodup_iff_count_le_one]
  intro u
  have count : (s.arb.queue.map (·.unit)).count u = s.arb.queue.countP (·.unit == u) := by
    rw [List.count_eq_countP, List.countP_map]
    rfl
  have most : s.movements u ≤ 1 := by
    rw [inv.2.2.1 u]
    split <;> omega
  rw [count]
  rw [State.movements_eq_add] at most
  omega

theorem movesInv_resetRecords (inv : t.MovesInv) (rs : List ActRecord) (distinct : (rs.map (·.unit)).Nodup) (queued : ∀ r ∈ rs, r ∈ t.arb.queue) :
    (rs.foldl State.resetRecord t).MovesInv := by
  induction rs generalizing t with
  | nil => exact inv
  | cons r rs ih =>
    rw [List.map_cons, List.nodup_cons] at distinct
    have mem := queued r (by simp)
    refine ih (keeps_resetRecord (ls := [.moves]) Keeps.refl r (fun _ => mem) .moves (by simp) inv) distinct.2 fun q hq => ?_
    rw [State.queue_resetRecord mem]
    refine List.mem_filter.mpr ⟨queued q (by simp [hq]), bne_iff_ne.mpr fun same => distinct.1 ?_⟩
    exact List.mem_map.mpr ⟨q, hq, same⟩

theorem keeps_resetRecords (h : Keeps ls s t) (i : StringId) : Keeps ls s (t.resetRecords i) := by
  refine h.with_moves (fun ms free => Keeps.foldl (fun _ r => keeps_resetRecord Keeps.refl r fun mem => absurd mem free) _ _) fun inv => ?_
  exact movesInv_resetRecords inv _ (inv.queue_nodup.sublist (List.filter_sublist.map _)) fun r mem => (List.mem_filter.mp mem).1

/-! ## The string itself -/

theorem keeps_clear_reenter (h : Keeps ls s t) (i : StringId) (free : .states ∉ ls) : Keeps ls s ((t.setStr i (t.str i).cleared).reenter i) := by
  have addrs : (t.str i).cleared.nodes.map (·.addr) = (t.str i).nodes.map (·.addr) := by
    simp [StringCtl.cleared, NodeRecord.restarted, NodeRecord.lost, Function.comp_def]
  have empty : (t.str i).cleared.nodes = [] ↔ (t.str i).nodes = [] := by simp [StringCtl.cleared]
  have fits : ∀ st, (.scores ∈ ls → (t.str i).ScoreInv → ({ (t.str i).cleared with state := st } : StringCtl).ScoreInv) →
      (t.str i).Fits ls t.arb.grantPass { (t.str i).cleared with state := st } := fun st scores =>
    { addrs := fun _ => addrs
      states := fun mem => absurd mem free
      scores := scores
      held := fun _ held => by simp [StringCtl.cleared] at held }
  unfold State.reenter
  rw [State.str_setStr_self]
  split
  case isTrue none_ =>
    refine keeps_enterString h (fits _ fun _ _ => ?_)
    exact ⟨Nat.zero_le _, by simpa using none_, fun _ => rfl, by simp [StringCtl.cleared], fun h => absurd rfl h⟩
  case isFalse some_ =>
    refine keeps_beginRound (keeps_enterString h (fits _ fun _ _ => ?_)) i
    exact StringCtl.scoreInv_stateOfScore (by simpa using some_) (Nat.zero_le _) rfl

theorem keeps_resetString (h : Keeps ls s t) (i : StringId) (free : .states ∉ ls) : Keeps ls s (t.resetString i) :=
  keeps_dropString (keeps_resetRecords (keeps_complete h i _ true) i) i fun kept => keeps_clear_reenter kept i free

/-! ## Rosters (R125) -/

theorem insertNode_ne_nil (n : NodeRecord) (l : List NodeRecord) : insertNode n l ≠ [] := by
  cases l with
  | nil => simp [insertNode]
  | cons x l => unfold insertNode; split <;> simp

theorem keeps_addNode (h : Keeps ls s t) (i : StringId) (addr : Nat) (free : .states ∉ ls) (rosters : .rosters ∉ ls) :
    Keeps ls s (t.addNode i addr) := by
  unfold State.addNode
  dsimp only
  split
  case isTrue idle =>
    rw [State.str_setStr_self, State.setStr_setStr]
    refine keeps_beginRound (keeps_enterString h ?_) i
    exact
      { addrs := fun mem => absurd mem rosters
        states := fun mem => absurd mem free
        scores := fun _ _ => StringCtl.scoreInv_stateOfScore (insertNode_ne_nil _ _) (Nat.zero_le _) rfl }
  case isFalse busy =>
    refine keeps_setStr_of h
      { addrs := fun mem => absurd mem rosters
        scores := fun _ inv => ?_ }
    obtain ⟨top, _, score, off, state⟩ := inv
    exact ⟨top, ⟨fun idle => absurd idle busy, fun none_ => absurd none_ (insertNode_ne_nil _ _)⟩, score, off, state⟩

theorem keeps_removeNode (h : Keeps ls s t) (i : StringId) (addr : Nat) (free : .states ∉ ls) (rosters : .rosters ∉ ls) :
    Keeps ls s (t.removeNode i addr) := by
  unfold State.removeNode
  dsimp only
  split
  case isTrue none_ =>
    rw [State.setStr_setStr]
    refine keeps_enterString h ?_
    exact
      { addrs := fun mem => absurd mem rosters
        states := fun mem => absurd mem free
        scores := fun _ _ => ⟨Nat.zero_le _, by simpa using none_, fun _ => rfl, by simp, fun idle => absurd rfl idle⟩
        held := by simp }
  case isFalse some_ =>
    refine keeps_sendNext (keeps_setStr_of h
      { addrs := fun mem => absurd mem rosters
        scores := fun _ inv => ?_ }) i
    obtain ⟨top, idle, score, off, state⟩ := inv
    have busy : (t.str i).state ≠ .idle := fun was => some_ (by simp [idle.mp was])
    exact ⟨top, ⟨fun was => absurd was busy, fun none_ => absurd (by simpa using none_) some_⟩, score, off, state⟩

theorem keeps_moveNode (h : Keeps ls s t) (old : Option (StringId × Nat)) (i : StringId) (addr : Nat) (free : .states ∉ ls)
    (rosters : .rosters ∉ ls) : Keeps ls s (t.moveNode old i addr) := by
  unfold State.moveNode
  split
  · exact h
  · have added := keeps_addNode h i addr free rosters
    split
    · exact added
    · exact keeps_removeNode added _ _ free rosters

theorem keeps_dropUnit (h : Keeps ls s t) (k : SlotId) (u : Nat) (mark : Bool) : Keeps ls s (t.dropUnit k u mark) := by
  unfold State.dropUnit
  split
  · exact h
  · exact keeps_walk (keeps_withdrawOffer h k _ mark) k _

theorem keeps_forgetUnit (h : Keeps ls s t) (k : SlotId) (u : Nat) : Keeps ls s (t.forgetUnit k u) := by
  refine keeps_setSlot h fun _ inv => ?_
  obtain ⟨rests, pause, marks, low, high, paused⟩ := inv
  exact ⟨rests, pause, fun inactive => by simp [marks inactive], low, high, paused⟩

end Sys2Proof.Machine
end


section
/-! PROOF. The candidates in rank order, and the first eligible one (R95, R97, R99). -/

set_option Elab.async false

namespace Sys2Proof.Machine

/-! ## The offers of a slot -/

/-- The offers of a slot in the order of R95: the older first, and of one age the lower string. -/
def State.OfferBefore (s : State) (x y : StringId × Offer) : Prop :=
  s.ageOf y.2.offeredAt < s.ageOf x.2.offeredAt ∨ (s.ageOf y.2.offeredAt = s.ageOf x.2.offeredAt ∧ stringCode x.1 < stringCode y.1)

theorem mem_insertOffer (s : State) (x y : StringId × Offer) (l : List (StringId × Offer)) : y ∈ insertOffer s x l ↔ y = x ∨ y ∈ l := by
  induction l with
  | nil => simp [insertOffer]
  | cons z l ih =>
    unfold insertOffer
    split
    · simp
    · simp only [List.mem_cons, ih]
      tauto

theorem pairwise_insertOffer {s : State} {x : StringId × Offer} {l : List (StringId × Offer)} (sorted : l.Pairwise s.OfferBefore)
    (later : ∀ y ∈ l, stringCode x.1 < stringCode y.1) : (insertOffer s x l).Pairwise s.OfferBefore := by
  induction l with
  | nil => simp [insertOffer]
  | cons z l ih =>
    obtain ⟨first, rest⟩ := List.pairwise_cons.mp sorted
    unfold insertOffer
    split
    case isTrue older =>
      refine List.pairwise_cons.mpr ⟨fun y mem => ?_, sorted⟩
      have after := later y mem
      rcases List.mem_cons.mp mem with rfl | mem
      · unfold State.OfferBefore; omega
      · have := first y mem
        unfold State.OfferBefore at this ⊢
        omega
    case isFalse younger =>
      refine List.pairwise_cons.mpr ⟨fun y mem => ?_, ih rest fun y mem => later y (List.mem_cons_of_mem _ mem)⟩
      rcases (mem_insertOffer s x y l).mp mem with rfl | mem
      · exact .inl (not_le.mp younger)
      · exact first y mem

/-- The offers of a slot by string. -/
def State.offerList (s : State) (k : SlotId) : List (StringId × Offer) :=
  allStrings.filterMap fun i => ((s.slot k).offers.get i).map fun o => (i, o)

theorem State.mem_offerList (s : State) (k : SlotId) (x : StringId × Offer) : x ∈ s.offerList k ↔ (s.slot k).offers.get x.1 = some x.2 := by
  have every : ∀ i : StringId, i ∈ allStrings := by intro i; cases i <;> decide
  simp only [State.offerList, List.mem_filterMap, Option.map_eq_some_iff]
  constructor
  · rintro ⟨i, -, o, found, rfl⟩
    exact found
  · exact fun found => ⟨x.1, every _, x.2, found, rfl⟩

theorem State.pairwise_offerList (s : State) (k : SlotId) : (s.offerList k).Pairwise fun x y => stringCode x.1 < stringCode y.1 := by
  have strings : allStrings.Pairwise fun i j => stringCode i < stringCode j := by decide
  refine List.Pairwise.filterMap _ (fun i j before x hx y hy => ?_) strings
  obtain ⟨o, -, rfl⟩ := Option.map_eq_some_iff.mp hx
  obtain ⟨p, -, rfl⟩ := Option.map_eq_some_iff.mp hy
  exact before

theorem mem_foldr_insertOffer (s : State) (y : StringId × Offer) (l : List (StringId × Offer)) : y ∈ l.foldr (insertOffer s) [] ↔ y ∈ l := by
  induction l with
  | nil => rfl
  | cons x l ih => rw [List.foldr_cons, mem_insertOffer, ih, List.mem_cons]

theorem pairwise_foldr_insertOffer (s : State) {l : List (StringId × Offer)} (strings : l.Pairwise fun x y => stringCode x.1 < stringCode y.1) :
    (l.foldr (insertOffer s) []).Pairwise s.OfferBefore := by
  induction l with
  | nil => exact List.Pairwise.nil
  | cons x l ih =>
    obtain ⟨first, rest⟩ := List.pairwise_cons.mp strings
    exact pairwise_insertOffer (ih rest) fun y mem => first y ((mem_foldr_insertOffer s y l).mp mem)

theorem State.offersOf_eq (s : State) (k : SlotId) :
    s.offersOf k = ((s.offerList k).foldr (insertOffer s) []).map fun x => .offer k x.1 x.2 := rfl

theorem State.mem_offersOf (s : State) (k : SlotId) (c : Candidate) :
    c ∈ s.offersOf k ↔ ∃ i o, (s.slot k).offers.get i = some o ∧ c = .offer k i o := by
  simp only [State.offersOf_eq, List.mem_map, mem_foldr_insertOffer, State.mem_offerList]
  constructor
  · rintro ⟨x, found, rfl⟩
    exact ⟨x.1, x.2, found, rfl⟩
  · rintro ⟨i, o, found, rfl⟩
    exact ⟨(i, o), found, rfl⟩

theorem State.mem_queuedOf (s : State) (g : Origin) (c : Candidate) : c ∈ s.queuedOf g ↔ ∃ r ∈ s.arb.queue, r.origin = g ∧ c = .record r := by
  simp only [State.queuedOf, List.mem_map, List.mem_filter, beq_iff_eq]
  constructor
  · rintro ⟨r, ⟨mem, origin⟩, rfl⟩
    exact ⟨r, mem, origin, rfl⟩
  · rintro ⟨r, mem, origin, rfl⟩
    exact ⟨r, ⟨mem, origin⟩, rfl⟩

/-! ## All candidates -/

/-- The candidates of a rank: offers of EVACUATION, staff records, urgent offers of CLOSING, unlocks, locks, and the other offers of CLOSING. -/
def State.ranked (s : State) : Nat → List Candidate
  | 1 => s.offersOf .evacuation
  | 2 => s.queuedOf .staff
  | 3 => if s.arb.urgent then s.offersOf .closing else []
  | 4 => s.queuedOf .guestUnlock
  | 5 => s.queuedOf .guestLock
  | 6 => if s.arb.urgent then [] else s.offersOf .closing
  | _ => []

theorem State.candidates_eq (s : State) : s.candidates = [1, 2, 3, 4, 5, 6].flatMap s.ranked := by
  simp [State.candidates, State.ranked]

theorem State.mem_candidates (s : State) (c : Candidate) : c ∈ s.candidates ↔
    (∃ k, c ∈ s.offersOf k) ∨ ∃ g ∈ [Origin.staff, .guestUnlock, .guestLock], c ∈ s.queuedOf g := by
  have slots : (∃ k, c ∈ s.offersOf k) ↔ c ∈ s.offersOf .evacuation ∨ c ∈ s.offersOf .closing :=
    ⟨fun ⟨k, h⟩ => by cases k; exacts [.inl h, .inr h], fun h => h.elim (fun h => ⟨_, h⟩) fun h => ⟨_, h⟩⟩
  rw [slots]
  unfold State.candidates
  cases s.arb.urgent <;> simp only [List.mem_append, List.mem_cons, List.not_mem_nil, or_false, exists_eq_or_imp, exists_eq_left, if_true,
    Bool.false_eq_true, if_false] <;> tauto

theorem State.record_mem_candidates (s : State) (r : ActRecord) :
    .record r ∈ s.candidates ↔ r ∈ s.arb.queue ∧ r.origin ∈ [Origin.staff, .guestUnlock, .guestLock] := by
  simp only [State.mem_candidates, State.mem_offersOf, State.mem_queuedOf]
  constructor
  · rintro (⟨k, i, o, -, h⟩ | ⟨g, mem, q, queued, rfl, h⟩)
    · cases h
    · cases h
      exact ⟨queued, mem⟩
  · exact fun ⟨queued, mem⟩ => .inr ⟨r.origin, mem, r, queued, rfl, rfl⟩

theorem State.offer_mem_candidates (s : State) (k : SlotId) (i : StringId) (o : Offer) :
    .offer k i o ∈ s.candidates ↔ (s.slot k).offers.get i = some o := by
  simp only [State.mem_candidates, State.mem_offersOf, State.mem_queuedOf]
  constructor
  · rintro (⟨k, i, o, found, h⟩ | ⟨g, -, q, -, -, h⟩)
    · cases h
      exact found
    · cases h
  · exact fun found => .inl ⟨k, i, o, found, rfl⟩

theorem State.mem_of_firstEligible {s : State} {c : Candidate} (h : s.firstEligible = some c) :
    c ∈ s.candidates ∧ s.eligible c.unit c.origin = true :=
  ⟨List.mem_of_find?_eq_some h, List.find?_some (p := fun c : Candidate => s.eligible c.unit c.origin) h⟩

theorem State.eligible_iff (s : State) (u : Nat) (o : Origin) :
    s.eligible u o = true ↔ ∃ c n, (s.unit u).config = some c ∧ s.node? c.string c.node = some n
        ∧ s.supply.lowLevel = false
        ∧ ((s.str c.string).state ≠ .off ∧ (s.str c.string).inFlight = none ∧ (s.str c.string).gapTimer = none)
        ∧ (n.presence ≠ .absent ∧ n.actuatorMark = false)
        ∧ (s.supply.account + (match c.kind with | .locker => s.params.supply.kL | .cabin => s.params.supply.kC) ≤ s.params.supply.c
            ∧ (o ≠ .evacuation → s.supply.throttled = false))
        ∧ (s.arb.service = .running ∨ o = .evacuation)
        ∧ ((s.sweeps.alarm = false ∧ s.sweeps.evacuation.state = .inactive) ∨ o = .evacuation ∨ o = .staff)
        ∧ ((s.str c.string).state ≠ .degraded ∨ o = .evacuation ∨ o = .staff) := by
  unfold State.eligible
  split
  case h_1 none_ => simp [none_]
  case h_2 c config =>
    have cost : costOf s.params.supply c.kind = match c.kind with | .locker => s.params.supply.kL | .cabin => s.params.supply.kC := by
      cases c.kind <;> rfl
    have active : s.sweepActive .evacuation = false ↔ s.sweeps.evacuation.state = .inactive := by simp [State.sweepActive, State.slot]
    simp only [config, Option.some.injEq, exists_and_left, exists_eq_left', ← cost]
    unfold State.stringAllows State.fits State.alarmHolds
    cases node : s.node? c.string c.node with
    | none => simp
    | some n =>
      simp only [Bool.and_eq_true, Bool.or_eq_true, Bool.not_eq_true', Bool.or_eq_false_iff, bne_iff_ne, beq_iff_eq, Option.isNone_iff_eq_none,
        decide_eq_true_eq, active, Option.some.injEq, exists_eq_left', or_assoc]
      constructor
      · rintro ⟨⟨⟨⟨low, ⟨⟨⟨off, flight⟩, gap⟩, node⟩, degraded⟩, fits, clear⟩, service⟩, alarm⟩
        exact ⟨low, ⟨off, flight, gap⟩, node, ⟨fits, fun other => clear.resolve_left other⟩, service, alarm, degraded⟩
      · rintro ⟨low, ⟨off, flight, gap⟩, node, ⟨fits, clear⟩, service, alarm, degraded⟩
        exact ⟨⟨⟨⟨low, ⟨⟨⟨off, flight⟩, gap⟩, node⟩, degraded⟩, fits, or_iff_not_imp_left.mpr clear⟩, service⟩, alarm⟩

theorem State.pairwise_offersOf (s : State) (k : SlotId) :
    (s.offersOf k).Pairwise fun a b => ∃ x y, a = .offer k x.1 x.2 ∧ b = .offer k y.1 y.2 ∧ s.OfferBefore x y := by
  rw [State.offersOf_eq, List.pairwise_map]
  exact (pairwise_foldr_insertOffer s (s.pairwise_offerList k)).imp fun {x y} before => ⟨x, y, rfl, rfl, before⟩

/-- The record that a candidate is, where it is one of this origin. -/
def Candidate.recordOf (g : Origin) : Candidate → Option ActRecord
  | .record r => if r.origin = g then some r else none
  | .offer _ _ _ => none

theorem State.recordOf_offersOf (s : State) (k : SlotId) (g : Origin) : (s.offersOf k).filterMap (Candidate.recordOf g) = [] := by
  rw [List.filterMap_eq_nil_iff]
  intro c mem
  obtain ⟨i, o, -, rfl⟩ := (s.mem_offersOf k c).mp mem
  rfl

theorem State.recordOf_queuedOf (s : State) (o g : Origin) :
    (s.queuedOf o).filterMap (Candidate.recordOf g) = if o = g then s.arb.queue.filter (·.origin == g) else [] := by
  have guard : Candidate.recordOf g ∘ Candidate.record = Option.guard fun r => r.origin == g := by
    funext r
    simp [Option.guard, Candidate.recordOf]
  rw [State.queuedOf, List.filterMap_map, guard, List.filterMap_eq_filter, List.filter_filter]
  split
  case isTrue same => rw [same]; simp
  case isFalse ne =>
    rw [List.filter_eq_nil_iff]
    intro r _
    simp only [Bool.and_eq_true, beq_iff_eq]
    exact fun ⟨h, h'⟩ => ne (h'.symm.trans h)

theorem State.recordOf_candidates (s : State) {g : Origin} (mem : g ∈ [Origin.staff, .guestUnlock, .guestLock]) :
    s.candidates.filterMap (Candidate.recordOf g) = s.arb.queue.filter (·.origin == g) := by
  have urgent : (if s.arb.urgent = true then s.offersOf .closing else []).filterMap (Candidate.recordOf g) = [] := by
    split
    · exact s.recordOf_offersOf _ g
    · rfl
  have calm : (if s.arb.urgent = true then [] else s.offersOf .closing).filterMap (Candidate.recordOf g) = [] := by
    split
    · rfl
    · exact s.recordOf_offersOf _ g
  simp only [State.candidates, List.filterMap_append, State.recordOf_offersOf, State.recordOf_queuedOf, urgent, calm, List.nil_append,
    List.append_nil]
  simp only [List.mem_cons, List.not_mem_nil, or_false] at mem
  rcases mem with rfl | rfl | rfl <;> simp

/-- Settles O42: the candidates are the ranks of R95 one after another, each rank in its own order. -/
theorem grantPassLooksInRankOrder : Obligations.GrantPassLooksInRankOrder := by
  intro s rank age queued
  have rank_of : ∀ n ∈ [1, 2, 3, 4, 5, 6], ∀ c ∈ s.ranked n, rank c = n := by
    intro n hn c hc
    have offers : ∀ k, c ∈ s.offersOf k → rank c = match k with | .evacuation => 1 | .closing => if s.arb.urgent then 3 else 6 := by
      intro k mem
      obtain ⟨i, o, -, rfl⟩ := (s.mem_offersOf k c).mp mem
      cases k <;> rfl
    have records : ∀ g, c ∈ s.queuedOf g → rank c = match g with | .staff => 2 | .guestUnlock => 4 | _ => 5 := by
      intro g mem
      obtain ⟨r, -, rfl, rfl⟩ := (s.mem_queuedOf g c).mp mem
      cases origin : r.origin <;> simp [rank, origin]
    simp only [List.mem_cons, List.not_mem_nil, or_false] at hn
    rcases hn with rfl | rfl | rfl | rfl | rfl | rfl
    · exact offers _ hc
    · exact records _ hc
    · cases urgent : s.arb.urgent <;> simp only [State.ranked, urgent, if_true, Bool.false_eq_true, if_false] at hc
      · cases hc
      · simpa [urgent] using offers _ hc
    · exact records _ hc
    · exact records _ hc
    · cases urgent : s.arb.urgent <;> simp only [State.ranked, urgent, if_true, Bool.false_eq_true, if_false] at hc
      · simpa [urgent] using offers _ hc
      · cases hc
  have order : ∀ (R : Candidate → Candidate → Prop), (∀ n ∈ [1, 2, 3, 4, 5, 6], (s.ranked n).Pairwise R) →
      (∀ a b, rank a < rank b → R a b) → s.candidates.Pairwise R := by
    intro R within across
    rw [State.candidates_eq, List.pairwise_flatMap]
    refine ⟨within, List.Pairwise.imp_of_mem (R := (· < ·)) (fun {m n} hm hn lt x hx y hy => across x y ?_) (by decide)⟩
    rw [rank_of m hm x hx, rank_of n hn y hy]
    exact lt
  refine ⟨s.eligible_iff, s.record_mem_candidates, s.offer_mem_candidates, order _ (fun n hn => ?_) (fun a b => le_of_lt), ?_, ?_, ?_, ?_⟩
  · exact List.Pairwise.imp_of_mem (R := fun _ _ => True) (fun {a b} ha hb _ => by rw [rank_of n hn a ha, rank_of n hn b hb])
      (List.pairwise_of_forall (fun _ _ => trivial))
  · exact fun g hg => s.recordOf_candidates hg
  · refine order _ (fun n hn => ?_) fun a b lt k i j o p ha hb => ?_
    · have offers : ∀ k, (s.offersOf k).Pairwise fun a b => ∀ k i j o p, a = .offer k i o → b = .offer k j p →
          age p.offeredAt < age o.offeredAt ∨ (age p.offeredAt = age o.offeredAt ∧ stringCode i < stringCode j) := by
        refine fun k => (s.pairwise_offersOf k).imp ?_
        rintro _ _ ⟨x, y, rfl, rfl, before⟩ _ _ _ _ _ ⟨⟩ ⟨⟩
        exact before
      have records : ∀ g, (s.queuedOf g).Pairwise fun a b => ∀ k i j o p, a = .offer k i o → b = .offer k j p →
          age p.offeredAt < age o.offeredAt ∨ (age p.offeredAt = age o.offeredAt ∧ stringCode i < stringCode j) := by
        refine fun g => List.Pairwise.imp_of_mem (R := fun _ _ => True) (fun {a b} ha _ _ k i j o p offer _ => ?_)
          (List.pairwise_of_forall fun _ _ => trivial)
        obtain ⟨r, -, -, rfl⟩ := (s.mem_queuedOf g a).mp ha
        cases offer
      simp only [List.mem_cons, List.not_mem_nil, or_false] at hn
      rcases hn with rfl | rfl | rfl | rfl | rfl | rfl <;> simp only [State.ranked]
      · exact offers _
      · exact records _
      · split
        · exact offers _
        · exact List.Pairwise.nil
      · exact records _
      · exact records _
      · split
        · exact List.Pairwise.nil
        · exact offers _
    · subst ha hb
      cases k <;> exact absurd lt (lt_irrefl _)
  · intro c found
    obtain ⟨eligible, before, after, split_, least⟩ := List.find?_eq_some_iff_append.mp found
    exact ⟨eligible, before, after, split_, fun x mem => by simpa using least x mem⟩
  · intro none_ x mem
    simpa using List.find?_eq_none.mp none_ x mem

end Sys2Proof.Machine
end


section
/-! PROOF. What the looks of a grant pass keep (R99 to R101). -/

set_option Elab.async false

namespace Sys2Proof.Machine

variable {ls : List Law} {s t : State}

theorem Keeps.with_moves_of (h : Keeps ls s t) {r : State} (others : ∀ ms : List Law, ms ⊆ ls → .moves ∉ ms → Keeps ms t r)
    (moves : t.MovesInv → r.MovesInv) : Keeps ls s r :=
  h.trans fun l mem => by
    by_cases same : l = .moves
    · subst same; exact moves
    · exact others [l] (by simpa using mem) (by simpa using Ne.symm same) l (by simp)

/-! ## The dispatch -/

/-- The actuation that a dispatch puts in flight (R100, R141). -/
def State.flightFor (s : State) (u node : Nat) (direction : Direction) (origin : Origin) (semantics : Option StaffAction) (band : Option BandId)
    (tag : Option Nat) (slot : Option SlotId) : InFlight :=
  { unit := u, node := node, direction := direction, origin := origin, semantics := semantics, band := band, tag := tag
    phase := .commanding, limited := s.supply.limitLevel, slot := slot }

/-- A string's record with an actuation newly in flight. -/
def StringCtl.launch (c : StringCtl) (f : InFlight) : StringCtl := { c with inFlight := some f, held := false }

/-- The charge of a dispatch and its count (R100, R112). -/
def State.charged (s : State) (c : UnitConfig) : State :=
  (s.charge (costOf s.params.supply c.kind)).count fun n => { n with dispatched := tally n.dispatched }

theorem State.dispatch_eq {u : Nat} {c : UnitConfig} (config : (s.unit u).config = some c) (direction : Direction) (origin : Origin)
    (semantics : Option StaffAction) (band : Option BandId) (tag : Option Nat) (slot : Option SlotId) :
    s.dispatch u direction origin semantics band tag slot
      = ((s.charged c).setStr c.string ((s.str c.string).launch (s.flightFor u c.node direction origin semantics band tag slot))).sendNext c.string := by
  unfold State.dispatch
  simp only [config]
  rfl

theorem SupplyParams.lw_lt_hw {p : SupplyParams} (good : p.good = true) : p.lw < p.hw := by
  simp only [SupplyParams.good, Bool.and_eq_true, decide_eq_true_eq] at good
  exact good.1.1.2

/-- A charge keeps the law of the account: it never clears THROTTLED, and sets it at the high watermark (R112, R115). -/
theorem supplyInv_charge (inv : s.SupplyInv) (cost : Nat) : (s.charge cost).SupplyInv := by
  obtain ⟨good, clear, set_⟩ := inv
  have lt := SupplyParams.lw_lt_hw good
  refine ⟨good, fun now => ?_, fun now => ?_⟩ <;>
    simp only [State.charge, State.setSupply, throttledAfterGrant, Bool.or_eq_false_iff, Bool.or_eq_true, decide_eq_false_iff_not, decide_eq_true_eq] at now ⊢
  · exact not_le.mp now.2
  · rcases now with was | reached
    · exact lt_of_lt_of_le (set_ was) (Nat.le_add_right _ _)
    · exact lt_of_lt_of_le lt reached

theorem keeps_charge (h : Keeps ls s t) (cost : Nat) (account : .account ∉ ls) : Keeps ls s (t.charge cost) :=
  keeps_setSupply h (fun _ inv => supplyInv_charge inv cost) (fun _ => ⟨rfl, rfl⟩) fun mem => absurd mem account

theorem keeps_charged (h : Keeps ls s t) (c : UnitConfig) (account : .account ∉ ls) : Keeps ls s (t.charged c) :=
  keeps_count (keeps_charge h _ account) _

theorem keeps_dispatch (h : Keeps ls s t) (u : Nat) (direction : Direction) (origin : Origin) (semantics : Option StaffAction)
    (band : Option BandId) (tag : Option Nat) (slot : Option SlotId) (free : .moves ∉ ls) (flights : .inFlight ∉ ls)
    (account : .account ∉ ls) :
    Keeps ls s (t.dispatch u direction origin semantics band tag slot) := by
  cases config : (t.unit u).config with
  | none => unfold State.dispatch; simpa only [config] using h
  | some c =>
    rw [State.dispatch_eq config]
    refine keeps_sendNext (keeps_setStr_of (keeps_charged h c account) ?_) _
    exact
      { flight := fun mem => absurd mem flights
        held := fun _ held => by simp [StringCtl.launch] at held
        moves := fun mem => absurd mem free }

/-- An actuation in flight is owed to its unit. -/
theorem State.flights_launched {i : StringId} {d : StringCtl} {f : InFlight} (free : (s.str i).inFlight = none)
    (strings : t.strings = s.strings.set i d) (launched : d.inFlight = some f) (v : Nat) :
    t.flights v = s.flights v + if f.unit = v then 1 else 0 := by
  have set := PerString.countP_set (fun d : StringCtl => d.inFlight.elim false (·.unit == v)) s.strings i d
  have old : s.strings.get i = s.str i := rfl
  rw [← strings] at set
  simp only [old, free, launched, Option.elim_some, Option.elim_none, Bool.toNat_false, Nat.add_zero] at set
  rw [State.flights, State.flights, set]
  by_cases same : f.unit = v <;> simp [same]

/-! ## The law of movements where one unit starts to move, or goes on moving -/

theorem movesInv_of_mover (inv : s.MovesInv) (u : Nat) (queue : t.QueueInv) (others : ∀ v, v ≠ u → t.unit v = s.unit v)
    (mine : (t.unit u).sound ∧ (t.unit u).moving) (still : ∀ v, v ≠ u → t.movements v = s.movements v) (moved : t.movements u = 1)
    (records : ∀ d ∈ t.arb.demands, d.inFlight = false → ∃ r ∈ t.arb.queue, r.unit = d.unit ∧ r.tag = some d.tag)
    (tags : ∀ r ∈ t.arb.queue, r.origin ≠ .staff → r.tag = none) : t.MovesInv := by
  obtain ⟨-, sound, owed, -⟩ := inv
  refine ⟨queue, fun v unit => ?_, fun v => ?_, records, tags⟩
  · by_cases same : v = u
    · rw [same]; exact mine.1
    · rw [others v same]; exact sound v unit
  · by_cases same : v = u
    · rw [same, moved]; exact (if_pos mine.2).symm
    · rw [still v same, others v same]; exact owed v

/-! ## Records -/

theorem keeps_demandInFlight (h : Keeps ls s t) (tag : Option Nat) (free : .moves ∉ ls) : Keeps ls s (t.demandInFlight tag) :=
  keeps_setArb h (fun _ => id) fun mem => absurd mem free

/-- The Arbiter and the strings as the grant of a record leaves them (R100). -/
theorem movesInv_of_grant (inv : s.MovesInv) {r : ActRecord} (mem : r ∈ s.arb.queue) {i : StringId} (free : (s.str i).inFlight = none)
    {d : StringCtl} {f : InFlight} (launched : d.inFlight = some f) (unit : f.unit = r.unit) (strings : t.strings = s.strings.set i d)
    (units : t.units = s.units) (arb : t.arb = { s.arb with
      queue := s.arb.queue.filter (·.unit != r.unit)
      demands := s.arb.demands.map fun d => if some d.tag = r.tag then { d with inFlight := true } else d }) : t.MovesInv := by
  obtain ⟨moving, one, none_⟩ := inv.of_record mem
  have unique := fun q hq => inv.record_unique (q := q) mem hq
  obtain ⟨⟨long, few, distinct, low, high, fresh⟩, sound, owed, records, tags⟩ := id inv
  have tagsOf : t.arb.demands.map (·.tag) = s.arb.demands.map (·.tag) := by
    rw [arb, List.map_map]
    refine List.map_congr_left fun d _ => ?_
    rw [Function.comp_apply]
    split <;> rfl
  have same : ∀ v, t.unit v = s.unit v := fun v => State.unit_congr units v
  refine movesInv_of_mover inv r.unit ?_ (fun v _ => same v) ?_ (fun v ne => ?_) ?_ (fun e he waits => ?_) fun q hq => ?_
  · refine ⟨?_, ?_, by rw [tagsOf]; exact distinct, by rw [arb]; exact low, by rw [arb]; exact high, by rw [tagsOf, arb]; exact fresh⟩
    · rw [arb]; exact (List.length_filter_le _ _).trans long
    · rw [arb, List.length_map]; exact few
  · rw [same]; exact ⟨sound _ (State.isUnit_of_moving moving), moving⟩
  · rw [State.movements_eq_add, arb, State.flights_launched free strings launched, queueCount_removed, if_neg ne, unit, if_neg (Ne.symm ne),
      State.movements_eq_add]
    rfl
  · rw [State.movements_eq_add, arb, State.flights_launched free strings launched, queueCount_removed, if_pos rfl, if_pos unit, none_]
  · rw [arb, List.mem_map] at he
    obtain ⟨d, hd, rfl⟩ := he
    split at waits
    case isTrue => cases waits
    case isFalse other =>
      obtain ⟨q, hq, owner, tagged⟩ := records d hd waits
      rw [if_neg other, arb]
      refine ⟨q, List.mem_filter.mpr ⟨hq, bne_iff_ne.mpr fun at_ => other ?_⟩, owner, tagged⟩
      rw [← tagged, unique q hq at_]
  · rw [arb] at hq
    exact tags q (List.mem_filter.mp hq).1

theorem keeps_grant (h : Keeps ls s t) (r : ActRecord) (flights : .inFlight ∉ ls) (account : .account ∉ ls)
    (granted : .moves ∈ ls → r ∈ t.arb.queue ∧ ∃ c, (t.unit r.unit).config = some c ∧ (t.str c.string).inFlight = none) :
    Keeps ls s (t.grant r) := by
  by_cases law : .moves ∈ ls
  case neg => exact keeps_dispatch (keeps_demandInFlight (keeps_removeRecord h _ law) _ law) _ _ _ _ _ _ _ law flights account
  obtain ⟨mem, c, config, free⟩ := granted law
  have eq : t.grant r = ((((t.removeRecord r.unit).demandInFlight r.tag).charged c).setStr c.string
      ((t.str c.string).launch (t.flightFor r.unit c.node r.direction r.origin r.semantics r.band r.tag none))).sendNext c.string :=
    State.dispatch_eq (s := (t.removeRecord r.unit).demandInFlight r.tag) config _ _ _ _ _ _
  rw [eq]
  refine keeps_sendNext (h.with_moves_of (fun ms sub other => ?_) fun inv => ?_) _
  · refine keeps_setStr_of (keeps_charged (keeps_demandInFlight (keeps_removeRecord Keeps.refl _ other) _ other) c fun mem => account (sub mem)) ?_
    exact
      { flight := fun mem => absurd (sub mem) flights
        held := fun _ held => by simp [StringCtl.launch] at held
        moves := fun mem => absurd mem other }
  · exact movesInv_of_grant inv mem free rfl rfl rfl rfl rfl

/-! ## The table of a sweep (R158, R159) -/

/-- The units that a sweep offers where their bolts can be commanded (R158, R159). -/
def UnitRecord.wanted (r : UnitRecord) : SlotId → Bool
  | .closing => r.state == .held || r.state == .forfeited
  | .evacuation => r.state == .held || r.state == .forfeited || r.state == .occupied
      || ((r.state == .vacant || r.state == .openHeld) && r.isCabin && r.occupied)

/-- The judgement of a unit that is not wanted: its movement is waited for, a closing sweep releases it, or it is passed (R158, R159). -/
def UnitRecord.unwanted (k : SlotId) : UnitState → SweepJudgement
  | .locking | .unlocking | .jammed | .verify => .markForRepeat
  | .openHeld => match k with | .closing => .releaseAtOnce | .evacuation => .passBy
  | _ => .passBy

theorem State.judge_eq (s : State) (k : SlotId) (u : Nat) :
    s.judge k u = if (s.unit u).wanted k then s.offerOrRepeat u else UnitRecord.unwanted k (s.unit u).state := by
  unfold State.judge
  dsimp only
  generalize s.offerOrRepeat u = wish
  generalize s.unit u = r
  cases k <;> cases state : r.state <;> simp [UnitRecord.wanted, UnitRecord.unwanted, state]

theorem UnitRecord.unwanted_ne_offer (k : SlotId) (st : UnitState) : UnitRecord.unwanted k st ≠ .offer := by
  cases k <;> cases st <;> decide

theorem State.judge_eq_offer_iff (s : State) (k : SlotId) (u : Nat) :
    s.judge k u = .offer ↔ (s.unit u).wanted k = true ∧ s.reachable u = true := by
  rw [State.judge_eq]
  unfold State.offerOrRepeat
  split
  case isTrue wanted => cases s.reachable u <;> simp [wanted]
  case isFalse unwanted => simp [unwanted, UnitRecord.unwanted_ne_offer]

theorem State.reachable_iff (s : State) (u : Nat) :
    s.reachable u = true ↔ ∃ j a n, s.unitNode u = some (j, a) ∧ s.node? j a = some n ∧ (s.str j).state ≠ .off ∧ n.presence ≠ .absent
      ∧ n.actuatorMark = false := by
  unfold State.reachable
  cases place : s.unitNode u with
  | none => simp
  | some p =>
    obtain ⟨j, a⟩ := p
    cases node : s.node? j a <;> simp [node]

/-- A unit that is offered is configured and owed no movement. -/
theorem UnitRecord.rests_of_wanted {r : UnitRecord} {k : SlotId} (wanted : r.wanted k = true) : r.state ≠ .unconfigured ∧ ¬r.moving := by
  unfold UnitRecord.moving
  cases k <;> cases state : r.state <;> simp_all [UnitRecord.wanted]

/-! ## Sweep candidates -/

theorem State.setSlot_setSlot (s : State) (k : SlotId) (x y : SweepSlot) : (s.setSlot k x).setSlot k y = s.setSlot k y := by cases k <;> rfl

theorem keeps_clearOffer (h : Keeps ls s t) {k : SlotId} (i : StringId) (walking : .sweeps ∈ ls → (t.slot k).state = .walking) :
    Keeps ls s (t.clearOffer k i) :=
  keeps_setSlot h fun mem inv => passInv_walking inv (walking mem) (after := walking mem)

theorem State.slot_setUnit (s : State) (u : Nat) (r : UnitRecord) (k : SlotId) : (s.setUnit u r).slot k = s.slot k :=
  State.slot_congr ((show Changes [.units] s (s.setUnit u r) by simp) .sweeps (by decide)) k

/-- A slot's record when its candidate has been granted (R101). -/
def SweepSlot.issue (x : SweepSlot) (i : StringId) : SweepSlot :=
  { x with offers := x.offers.set i none, issued := x.issued + 1, inFlight := x.inFlight + 1 }

/-- The unit, the slot and closing urgency when a sweep candidate has been granted, and before its dispatch (R96, R101). -/
def State.offerTaken (s : State) (k : SlotId) (i : StringId) (u : Nat) : State :=
  let t := (s.setUnit u ((s.unit u).intends (slotCause k))).setSlot k ((s.slot k).issue i)
  match k with
  | .closing => t.urgencyAtGrant
  | .evacuation => t

theorem State.strings_offerTaken (s : State) (k : SlotId) (i : StringId) (u : Nat) : (s.offerTaken k i u).strings = s.strings := by
  have same : (s.setUnit u ((s.unit u).intends (slotCause k))).strings = s.strings :=
    (show Changes [.units] s (s.setUnit u ((s.unit u).intends (slotCause k))) by simp) .strings (by decide)
  rw [← same]
  cases k <;> rfl

theorem State.arb_offerTaken (s : State) (k : SlotId) (i : StringId) (u : Nat) :
    (s.offerTaken k i u).arb.queue = s.arb.queue ∧ (s.offerTaken k i u).arb.demands = s.arb.demands
      ∧ (s.offerTaken k i u).arb.nextTag = s.arb.nextTag := by
  have same : (s.setUnit u ((s.unit u).intends (slotCause k))).arb = s.arb :=
    (show Changes [.units] s (s.setUnit u ((s.unit u).intends (slotCause k))) by simp) .arb (by decide)
  rw [← same]
  cases k <;> exact ⟨rfl, rfl, rfl⟩

theorem State.grantOffer_eq (s : State) (k : SlotId) (i : StringId) (u : Nat) :
    s.grantOffer k i u = (s.offerTaken k i u).dispatch u .unlock (slotOrigin k) none none none (some k) := by
  unfold State.grantOffer
  rw [takeIntent_eq]
  dsimp only
  have both : ((s.setUnit u ((s.unit u).intends (slotCause k))).clearOffer k i).setSlot k
      { ((s.setUnit u ((s.unit u).intends (slotCause k))).clearOffer k i).slot k with
        issued := (((s.setUnit u ((s.unit u).intends (slotCause k))).clearOffer k i).slot k).issued + 1
        inFlight := (((s.setUnit u ((s.unit u).intends (slotCause k))).clearOffer k i).slot k).inFlight + 1 }
      = (s.setUnit u ((s.unit u).intends (slotCause k))).setSlot k ((s.slot k).issue i) := by
    unfold State.clearOffer
    rw [State.setSlot_setSlot, State.slot_setSlot_self]
    have same : (s.setUnit u ((s.unit u).intends (slotCause k))).slot k = s.slot k := State.slot_setUnit _ _ _ _
    rw [same]
    rfl
  rw [both]
  cases k <;> rfl

theorem keeps_offerTaken (h : Keeps ls s t) {k : SlotId} (i : StringId) (u : Nat) (free : .moves ∉ ls)
    (walking : .sweeps ∈ ls → (t.slot k).state = .walking) : Keeps ls s (t.offerTaken k i u) := by
  have taken := keeps_setUnit h u (x := (t.unit u).intends (slotCause k)) rfl (fun _ => rfl) free
  have slot : (t.setUnit u ((t.unit u).intends (slotCause k))).slot k = t.slot k := State.slot_setUnit _ _ _ _
  have issued : Keeps ls s ((t.setUnit u ((t.unit u).intends (slotCause k))).setSlot k ((t.slot k).issue i)) := by
    refine keeps_setSlot taken fun mem inv => ?_
    rw [slot] at inv
    exact passInv_walking inv (walking mem) (after := walking mem)
  unfold State.offerTaken
  cases k
  · exact issued
  · exact keeps_urgencyAtGrant issued

/-- The law of movements when a sweep candidate has been granted: the unit moves, and its actuation is in flight (R101). -/
theorem movesInv_of_offer (inv : s.MovesInv) {u : Nat} {k : SlotId} (wanted : (s.unit u).wanted k = true)
    (units : ∀ v, isUnit v → t.unit v = if v = u then (s.unit u).intends (slotCause k) else s.unit v)
    {i : StringId} (free : (s.str i).inFlight = none) {d : StringCtl} {f : InFlight} (launched : d.inFlight = some f) (unit : f.unit = u)
    (strings : t.strings = s.strings.set i d) (queue : t.arb.queue = s.arb.queue) (demands : t.arb.demands = s.arb.demands)
    (tag : t.arb.nextTag = s.arb.nextTag) : t.MovesInv := by
  obtain ⟨configured, still⟩ := UnitRecord.rests_of_wanted wanted
  have isUnit_ : isUnit u := by
    by_contra other
    exact configured (by rw [State.unit_of_not_isUnit _ other]; rfl)
  obtain ⟨few, sound, owed, records, tags⟩ := id inv
  have moves : ∀ v, t.movements v = s.movements v + if u = v then 1 else 0 := fun v => by
    rw [State.movements_eq_add, queue, State.flights_launched free strings launched, unit, State.movements_eq_add, Nat.add_assoc]
  refine movesInv_of_mover inv u (by simpa only [State.QueueInv, queue, demands, tag] using few) (fun v ne => ?_) ?_ (fun v ne => ?_) ?_
    (by rw [queue, demands]; exact records) (by rw [queue]; exact tags)
  · by_cases other : isUnit v
    · rw [units v other, if_neg ne]
    · rw [State.unit_of_not_isUnit _ other, State.unit_of_not_isUnit _ other]
  · rw [units u isUnit_, if_pos rfl]
    exact UnitRecord.sound_intends (sound u isUnit_) configured still (by cases k <;> simp [slotCause, Cause.direction])
  · rw [moves, if_neg (Ne.symm ne)]; rfl
  · rw [moves, if_pos rfl, owed u]
    exact congrArg (· + 1) (if_neg still)

theorem keeps_grantOffer (h : Keeps ls s t) {k : SlotId} {i : StringId} {u : Nat} (flights : .inFlight ∉ ls) (account : .account ∉ ls)
    (walking : .sweeps ∈ ls → (t.slot k).state = .walking)
    (granted : .moves ∈ ls → (t.unit u).wanted k = true ∧ ∃ c, (t.unit u).config = some c ∧ (t.str c.string).inFlight = none) :
    Keeps ls s (t.grantOffer k i u) := by
  rw [State.grantOffer_eq]
  by_cases law : .moves ∈ ls
  case neg => exact keeps_dispatch (keeps_offerTaken h i u law walking) _ _ _ _ _ _ _ law flights account
  obtain ⟨wanted, c, config, free⟩ := granted law
  have units : ∀ v, isUnit v → (t.offerTaken k i u).unit v = if v = u then (t.unit u).intends (slotCause k) else t.unit v := fun v unit => by
    rw [← State.unit_setUnit t _ unit]
    cases k <;> rfl
  have configured : ((t.offerTaken k i u).unit u).config = some c := by
    by_cases unit : isUnit u
    · rw [units u unit, if_pos rfl]; exact config
    · rw [State.unit_of_not_isUnit _ unit] at config ⊢; exact config
  rw [State.dispatch_eq configured]
  refine keeps_sendNext (h.with_moves_of (fun ms sub other => ?_) fun inv => ?_) _
  · refine keeps_setStr_of (keeps_charged (keeps_offerTaken Keeps.refl i u other fun mem => walking (sub mem)) c fun mem => account (sub mem)) ?_
    exact
      { flight := fun mem => absurd (sub mem) flights
        held := fun _ held => by simp [StringCtl.launch] at held
        moves := fun mem => absurd mem other }
  · obtain ⟨queue, demands, tag⟩ := t.arb_offerTaken k i u
    have str : ∀ j, (t.offerTaken k i u).str j = t.str j := fun j => by rw [State.str, State.str, State.strings_offerTaken]
    rw [str]
    exact movesInv_of_offer inv wanted units free
      (d := (t.str c.string).launch ((t.offerTaken k i u).flightFor u c.node .unlock (slotOrigin k) none none none (some k))) rfl rfl
      (by rw [← t.strings_offerTaken k i u]; rfl) queue demands tag

theorem State.slot_urgencyAtDrop (s : State) (k : SlotId) : s.urgencyAtDrop.slot k = s.slot k := by
  unfold State.urgencyAtDrop
  split <;> rfl

theorem keeps_rejudge (h : Keeps ls s t) {k : SlotId} (u : Nat) (walking : .sweeps ∈ ls → (t.slot k).state = .walking) :
    Keeps ls s (t.rejudge k u) := by
  have visited := keeps_supersede h k u
  have still : .sweeps ∈ ls → ((t.supersede k u).slot k).state ≠ .inactive := fun mem => by
    rw [State.slot_supersede, walking mem]
    simp
  unfold State.rejudge
  split
  · dsimp only
    split
    · exact visited
    case h_2 judged => exact keeps_releaseAtOnce visited k u fun _ => (openHeld_of_judge judged).2
    · exact keeps_markRepeat visited u still
    · exact keeps_markRepeat visited u still
  · exact h

theorem keeps_handBack (h : Keeps ls s t) {k : SlotId} (i : StringId) (u : Nat) (walking : .sweeps ∈ ls → (t.slot k).state = .walking) :
    Keeps ls s (t.handBack k i u) := by
  have cleared := keeps_clearOffer h i walking
  have still : .sweeps ∈ ls → ((t.clearOffer k i).slot k).state = .walking := fun mem => by
    rw [State.clearOffer, State.slot_setSlot_self]
    exact walking mem
  unfold State.handBack
  dsimp only
  cases k
  · exact keeps_walk (keeps_rejudge cleared u still) _ i
  · exact keeps_walk (keeps_rejudge (keeps_urgencyAtDrop cleared) u fun mem => by rw [State.slot_urgencyAtDrop]; exact still mem) _ i

/-! ## The looks -/

/-- The end of a pass keeps every law but that of held lines, which then rests on no line that is held. -/
theorem keeps_endPass (h : Keeps ls s t) (free : .held ∉ ls) : Keeps ls s t.endPass := by
  have ended : Keeps ls s (t.setArb { t.arb with grantPass := false }) :=
    keeps_setArb h (fun mem => absurd mem free) fun _ => ⟨rfl, rfl, rfl⟩
  exact ended.trans (Keeps.foldl (fun _ i => keeps_release Keeps.refl i) _ _)

/-- An eligible candidate's unit is configured, and its string is free (R97). -/
theorem State.eligible_free {u : Nat} {o : Origin} (h : s.eligible u o = true) :
    ∃ c, (s.unit u).config = some c ∧ (s.str c.string).inFlight = none := by
  obtain ⟨c, _, config, -, -, ⟨-, free, -⟩, -⟩ := (s.eligible_iff u o).mp h
  exact ⟨c, config, free⟩

theorem keeps_lookRecord (h : Keeps ls s t) (flights : .inFlight ∉ ls) (account : .account ∉ ls) (free : .held ∉ ls) : Keeps ls s t.lookRecord := by
  unfold State.lookRecord
  split
  · split
    · exact keeps_endPass h free
    case h_2 r found =>
      obtain ⟨mem, eligible⟩ := State.mem_of_firstEligible found
      exact keeps_grant h r flights account fun _ => ⟨((t.record_mem_candidates r).mp mem).1, State.eligible_free eligible⟩
    · exact h
  · exact h

theorem keeps_lookOffer (h : Keeps ls s t) (flights : .inFlight ∉ ls) (account : .account ∉ ls) (free : .held ∉ ls) (sweeps : .sweeps ∈ ls → t.SweepInv) :
    Keeps ls s t.lookOffer := by
  unfold State.lookOffer
  split
  · split
    · exact keeps_endPass h free
    · exact h
    case h_3 k i o found =>
      obtain ⟨mem, eligible⟩ := State.mem_of_firstEligible found
      have offered := (t.offer_mem_candidates k i o).mp mem
      have walking : .sweeps ∈ ls → (t.slot k).state = .walking := fun mem =>
        SweepSlot.walking_of_offer ((sweepInv_iff t).mp (sweeps mem) k) offered
      split
      case isTrue accepts =>
        simp only [State.acceptsSweep, Bool.and_eq_true, beq_iff_eq] at accepts
        exact keeps_grantOffer h flights account walking fun _ =>
          ⟨((t.judge_eq_offer_iff k o.unit).mp accepts.1.1).1, State.eligible_free eligible⟩
      case isFalse => exact keeps_handBack h i _ walking
  · exact h

end Sys2Proof.Machine
end


section
/-! PROOF. What the acts of a decision keep (R60 to R78), and the law of tenancy where they bind a band and take a record into the queue. -/

set_option Elab.async false

namespace Sys2Proof.Machine

variable {ls : List Law} {s t : State}

/-! ## The end of a decision -/

theorem keeps_writePending (h : Keeps ls s t) (i : StringId) (addr : Nat) (code : Indicator) : Keeps ls s (t.writePending i addr code) := by
  unfold State.writePending
  split
  · exact h
  · exact keeps_setStr (keeps_modNode h i addr) ⟨rfl, rfl, rfl, rfl, id⟩

theorem keeps_endDecision (h : Keeps ls s t) (d : Decision) (o : PresentationOutcome) : Keeps ls s (t.endDecision d o) := by
  have written := keeps_writePending h d.str d.node o.indicator
  have seen : Keeps ls s ((t.writePending d.str d.node o.indicator).postSighting d o) := by
    unfold State.postSighting
    split
    · exact keeps_post written _
    · exact written
  exact keeps_setDecisions (keeps_count (keeps_post seen _) _) _

theorem keeps_setDecision (h : Keeps ls s t) (d : Decision) : Keeps ls s (t.setDecision d) := keeps_setDecisions h _

theorem keeps_afterLookup (h : Keeps ls s t) (d : Decision) (e : Band) (admitted : Bool) : Keeps ls s (t.afterLookup d e admitted) := by
  unfold State.afterLookup
  split
  · exact keeps_endDecision h _ _
  · exact keeps_setDecision h _

theorem keeps_lookupAct (h : Keeps ls s t) (d : Decision) : Keeps ls s (t.lookupAct d) := by
  unfold State.lookupAct
  dsimp only
  split
  · exact keeps_endDecision h _ _
  · split
    · exact keeps_afterLookup h _ _ _
    · split
      · exact keeps_endDecision h _ _
      · exact keeps_setDecision h _

/-! ## A new entry in the Directory (R33, R38, R44) -/

theorem mem_insertBand (e x : Band) (dir : List Band) : x ∈ insertBand e dir ↔ x = e ∨ x ∈ dir := by
  induction dir with
  | nil => simp [insertBand]
  | cons y dir ih =>
    unfold insertBand
    split
    · simp
    · simp only [List.mem_cons, ih]
      tauto

theorem length_insertBand (e : Band) (dir : List Band) : (insertBand e dir).length = dir.length + 1 := by
  induction dir with
  | nil => rfl
  | cons y dir ih =>
    unfold insertBand
    split
    · rfl
    · rw [List.length_cons, ih, List.length_cons]

theorem pairwise_insertBand {e : Band} {dir : List Band} (sorted : (dir.map (·.id)).Pairwise (· < ·)) (fresh : ∀ x ∈ dir, x.id ≠ e.id) :
    ((insertBand e dir).map (·.id)).Pairwise (· < ·) := by
  induction dir with
  | nil => simp [insertBand]
  | cons y dir ih =>
    obtain ⟨first, rest⟩ := List.pairwise_cons.mp sorted
    have ne := fresh y (by simp)
    unfold insertBand
    split
    case isTrue before =>
      refine List.pairwise_cons.mpr ⟨fun b mem => ?_, sorted⟩
      rcases List.mem_cons.mp mem with rfl | mem
      · exact before
      · exact BitVec.lt_trans before (first b mem)
    case isFalse after =>
      have above : y.id < e.id := by bv_omega
      refine List.pairwise_cons.mpr ⟨fun b mem => ?_, ih rest fun x hx => fresh x (by simp [hx])⟩
      obtain ⟨x, hx, rfl⟩ := List.mem_map.mp mem
      rcases (mem_insertBand e x dir).mp hx with rfl | hx
      · exact above
      · exact first x.id (List.mem_map.mpr ⟨x, hx, rfl⟩)

theorem State.band?_eq_none_iff (s : State) (b : BandId) : s.band? b = none ↔ ∀ x ∈ s.dir, x.id ≠ b := by
  simp [State.band?]

/-- A new entry that holds no unit keeps the books. -/
theorem booksInv_insertBand (inv : s.BooksInv) {e : Band} (fresh : s.band? e.id = none) (room : s.dir.length < 1024) (empty : e.holdings = []) :
    (s.setDir (insertBand e s.dir)).BooksInv := by
  obtain ⟨⟨sorted, few⟩, holders, lists⟩ := inv
  refine ⟨⟨pairwise_insertBand sorted ((s.band?_eq_none_iff _).mp fresh), ?_⟩, fun u b unit => (holders u b unit).trans ?_, fun x mem => ?_⟩
  · rw [State.setDir_dir, length_insertBand]; exact room
  · simp only [State.setDir_dir, mem_insertBand]
    constructor
    · exact fun ⟨x, mem, at_⟩ => ⟨x, .inr mem, at_⟩
    · rintro ⟨x, rfl | mem, id, listed⟩
      · rw [empty] at listed; cases listed
      · exact ⟨x, mem, id, listed⟩
  · rcases (mem_insertBand e x s.dir).mp mem with rfl | mem
    · rw [empty]; simp
    · exact lists x mem

theorem keeps_insertBand (h : Keeps ls s t) {e : Band} (fresh : t.band? e.id = none) (room : t.dir.length < 1024) (empty : e.holdings = []) :
    Keeps ls s (t.setDir (insertBand e t.dir)) :=
  h.with_moves (fun _ free => Keeps.refl.tables free (by simp) (fun _ inv => booksInv_insertBand inv fresh room empty) fun _ => rfl) id

theorem keeps_admissionAct (h : Keeps ls s t) (d : Decision) : Keeps ls s (t.admissionAct d) := by
  unfold State.admissionAct
  split
  · exact keeps_afterLookup h _ _ _
  case h_2 fresh =>
    split
    · exact keeps_endDecision h _ _
    case isFalse room => exact keeps_afterLookup (keeps_insertBand h fresh (not_le.mp room) rfl) _ _ _

/-! ## A record admitted (R5, R81, R82) -/

theorem keeps_admitRecord (h : Keeps ls s t) (u : Nat) (origin : Origin) (semantics : Option StaffAction) (band : Option BandId)
    (tag : Option Nat) (free : .moves ∉ ls) : Keeps ls s (t.admitRecord u origin semantics band tag) :=
  keeps_startPass (keeps_setArb (keeps_takeIntent h u _ free) (fun _ => id) fun mem => absurd mem free)

/-- The law of movements when a record joins the queue in the act that sets its unit in motion. -/
theorem movesInv_of_admission (inv : s.MovesInv) {r : ActRecord} (still : ¬(s.unit r.unit).moving)
    (mine : (t.unit r.unit).sound ∧ (t.unit r.unit).moving) (others : ∀ v, v ≠ r.unit → t.unit v = s.unit v)
    (strings : t.strings = s.strings) (queued : t.arb.queue = s.arb.queue ++ [r]) (queue : t.QueueInv)
    (records : ∀ d ∈ t.arb.demands, d.inFlight = false → d ∈ s.arb.demands ∨ (r.unit = d.unit ∧ r.tag = some d.tag))
    (tags : r.origin ≠ .staff → r.tag = none) : t.MovesInv := by
  obtain ⟨-, -, owed, waits, tagged⟩ := id inv
  have moves : ∀ v, t.movements v = s.movements v + if r.unit = v then 1 else 0 := fun v => by
    rw [State.movements_eq_add, queued, List.countP_append, State.flights_congr strings, State.movements_eq_add, Nat.add_right_comm]
    by_cases same : r.unit = v <;> simp [same]
  refine movesInv_of_mover inv r.unit queue others mine (fun v ne => by rw [moves, if_neg (Ne.symm ne)]; rfl) ?_ (fun d hd idle => ?_)
    fun q hq origin => ?_
  · rw [moves, if_pos rfl, owed]
    exact congrArg (· + 1) (if_neg still)
  · rw [queued]
    rcases records d hd idle with old | new
    · obtain ⟨q, hq, at_⟩ := waits d old idle
      exact ⟨q, by simp [hq], at_⟩
    · exact ⟨r, by simp, new⟩
  · rw [queued] at hq
    rcases List.mem_append.mp hq with old | new
    · exact tagged q old origin
    · rw [List.mem_singleton.mp new] at origin ⊢
      exact tags origin

/-- The record that an admission makes. -/
def State.recordFor (s : State) (u : Nat) (origin : Origin) (semantics : Option StaffAction) (band : Option BandId) (tag : Option Nat) : ActRecord :=
  { unit := u, direction := (recordCause origin semantics).direction, origin := origin, semantics := semantics, band := band, tag := tag
    enqueuedAt := s.time.timebase }

theorem State.admitRecord_arb (s : State) (u : Nat) (origin : Origin) (semantics : Option StaffAction) (band : Option BandId) (tag : Option Nat) :
    (s.admitRecord u origin semantics band tag).arb
      = { s.arb with queue := s.arb.queue ++ [s.recordFor u origin semantics band tag], grantPass := true } := by
  have same : (s.takeIntent u (recordCause origin semantics)).arb = s.arb :=
    (show Changes [.units] s (s.takeIntent u (recordCause origin semantics)) by simp) .arb (by decide)
  have time : (s.takeIntent u (recordCause origin semantics)).time = s.time :=
    (show Changes [.units] s (s.takeIntent u (recordCause origin semantics)) by simp) .time (by decide)
  simp only [State.admitRecord, State.startPass, State.setArb_arb, same, State.recordFor]

theorem State.admitRecord_unit (s : State) {u v : Nat} (unit : isUnit v) (origin : Origin) (semantics : Option StaffAction) (band : Option BandId)
    (tag : Option Nat) : (s.admitRecord u origin semantics band tag).unit v
      = if v = u then (s.unit u).intends (recordCause origin semantics) else s.unit v := by
  rw [← State.unit_setUnit s _ unit, ← takeIntent_eq]
  rfl

theorem State.admitRecord_unit_other (s : State) {u v : Nat} (ne : v ≠ u) (origin : Origin) (semantics : Option StaffAction) (band : Option BandId)
    (tag : Option Nat) : (s.admitRecord u origin semantics band tag).unit v = s.unit v := by
  by_cases unit : isUnit v
  · rw [State.admitRecord_unit s unit, if_neg ne]
  · rw [State.unit_of_not_isUnit _ unit, State.unit_of_not_isUnit _ unit]

theorem State.admitRecord_strings (s : State) (u : Nat) (origin : Origin) (semantics : Option StaffAction) (band : Option BandId) (tag : Option Nat) :
    (s.admitRecord u origin semantics band tag).strings = s.strings :=
  (show Changes [.units, .arb] s (s.admitRecord u origin semantics band tag) by simp) .strings (by decide)

theorem State.queueFull_eq_false_iff (s : State) : s.queueFull = false ↔ s.arb.queue.length < 32 := by
  simp [State.queueFull, Config.queueCapacity]

/-- A record without a demand is admitted for a configured unit at rest. -/
theorem movesInv_admitRecord (inv : s.MovesInv) {u : Nat} (configured : (s.unit u).state ≠ .unconfigured) (still : ¬(s.unit u).moving)
    (room : s.queueFull = false) {origin : Origin} {semantics : Option StaffAction} (band : Option BandId)
    (lock : (recordCause origin semantics).direction = .lock → (s.unit u).holder.isSome = true) :
    (s.admitRecord u origin semantics band none).MovesInv := by
  have unit : isUnit u := by
    by_contra other
    exact configured (by rw [State.unit_of_not_isUnit _ other]; rfl)
  have arb := s.admitRecord_arb u origin semantics band none
  obtain ⟨⟨_, few, distinct, low, high, fresh⟩, sound, -⟩ := id inv
  refine movesInv_of_admission inv (r := s.recordFor u origin semantics band none) still ?_ (fun v ne => s.admitRecord_unit_other ne _ _ _ _)
    (s.admitRecord_strings _ _ _ _ _) (by rw [arb]) ?_ (fun d hd _ => .inl (by rw [arb] at hd; exact hd)) fun _ => rfl
  · have self := s.admitRecord_unit (u := u) unit origin semantics band none
    rw [if_pos rfl] at self
    exact self ▸ UnitRecord.sound_intends (sound u unit) configured still lock
  · have long := (s.queueFull_eq_false_iff).mp room
    rw [State.QueueInv, arb]
    exact ⟨by rw [List.length_append]; exact long, few, distinct, low, high, fresh⟩

/-! ## A band bound to a unit (R6) -/

theorem State.bind_arb (s : State) (u : Nat) (b : BandId) : (s.bind u b).arb = s.arb :=
  (show Changes [.units, .dir] s (s.bind u b) by simp) .arb (by decide)

theorem State.bind_strings (s : State) (u : Nat) (b : BandId) : (s.bind u b).strings = s.strings :=
  (show Changes [.units, .dir] s (s.bind u b) by simp) .strings (by decide)

theorem State.bind_eq (s : State) (u : Nat) (b : BandId) :
    s.bind u b = (s.setDir (s.dir.map fun e => if e.id = b then { e with holdings := e.holdings ++ [u] } else e)).setUnit u
      { s.unit u with holder := some b, dwell := 0 } := rfl

theorem State.bind_dir (s : State) (u : Nat) (b : BandId) :
    (s.bind u b).dir = s.dir.map fun e => if e.id = b then { e with holdings := e.holdings ++ [u] } else e := by
  rw [State.bind_eq]
  exact (show Changes [.units] (s.setDir _) ((s.setDir _).setUnit u _) by simp) .dir (by decide)

theorem State.bind_unit (s : State) {u v : Nat} (unit : isUnit v) (b : BandId) :
    (s.bind u b).unit v = if v = u then { s.unit u with holder := some b, dwell := 0 } else s.unit v := by
  rw [State.bind_eq, State.unit_setUnit _ _ unit]
  rfl

theorem State.bind_unit_other (s : State) {u v : Nat} (ne : v ≠ u) (b : BandId) : (s.bind u b).unit v = s.unit v := by
  by_cases unit : isUnit v
  · rw [State.bind_unit s unit, if_neg ne]
  · rw [State.unit_of_not_isUnit _ unit, State.unit_of_not_isUnit _ unit]

/-- A band bound to a unit without a holder keeps the books. -/
theorem booksInv_bind (inv : s.BooksInv) {u : Nat} (unit : isUnit u) (free : (s.unit u).holder = none) {b : BandId} {e : Band}
    (found : e ∈ s.dir) (id : e.id = b) : (s.bind u b).BooksInv := by
  have unlisted : ∀ x ∈ s.dir, u ∉ x.holdings := fun x mem => BooksInv.not_listed inv unit mem (by rw [free]; simp)
  obtain ⟨⟨sorted, few⟩, holders, lists⟩ := inv
  have ids : (s.bind u b).dir.map (·.id) = s.dir.map (·.id) := by
    rw [State.bind_dir, List.map_map]
    refine List.map_congr_left fun x _ => ?_
    rw [Function.comp_apply]
    split <;> rfl
  refine ⟨⟨by rw [ids]; exact sorted, by rw [State.bind_dir, List.length_map]; exact few⟩, fun v c unit' => ?_, fun y mem => ?_⟩
  · rw [State.bind_unit s unit', State.bind_dir]
    by_cases same : v = u
    · subst same
      rw [if_pos rfl]
      constructor
      · intro holder
        cases holder
        exact ⟨_, List.mem_map.mpr ⟨e, found, rfl⟩, by rw [if_pos id]; exact id, by rw [if_pos id]; simp⟩
      · rintro ⟨y, mem, rfl, listed⟩
        obtain ⟨x, hx, rfl⟩ := List.mem_map.mp mem
        split at listed
        case isTrue at_ => rw [if_pos at_]; exact congrArg some at_.symm
        case isFalse => exact absurd listed (unlisted x hx)
    · rw [if_neg same, holders v c unit']
      have listed : ∀ x : Band, v ∈ (if x.id = b then { x with holdings := x.holdings ++ [u] } else x).holdings ↔ v ∈ x.holdings := by
        intro x
        split <;> simp [same]
      have ids : ∀ x : Band, (if x.id = b then { x with holdings := x.holdings ++ [u] } else x).id = x.id := by
        intro x
        split <;> rfl
      constructor
      · exact fun ⟨x, hx, at_, mem⟩ => ⟨_, List.mem_map.mpr ⟨x, hx, rfl⟩, (ids x).trans at_, (listed x).mpr mem⟩
      · rintro ⟨y, hy, at_, mem⟩
        obtain ⟨x, hx, rfl⟩ := List.mem_map.mp hy
        exact ⟨x, hx, (ids x).symm.trans at_, (listed x).mp mem⟩
  · rw [State.bind_dir] at mem
    obtain ⟨x, hx, rfl⟩ := List.mem_map.mp mem
    obtain ⟨nodup, units⟩ := lists x hx
    split
    · refine ⟨List.nodup_append.mpr ⟨nodup, by simp, ?_⟩, ?_⟩
      · intro a ha c hc same
        rw [List.mem_singleton.mp hc] at same
        exact unlisted x hx (same ▸ ha)
      · intro w mem
        rcases List.mem_append.mp mem with old | new
        · exact units w old
        · rw [List.mem_singleton.mp new]; exact unit
    · exact ⟨nodup, units⟩

theorem keeps_bind_admitRecord (h : Keeps ls s t) {u : Nat} {b : BandId} (vacant : (t.unit u).state = .vacant) (room : t.queueFull = false)
    (found : ∃ e ∈ t.dir, e.id = b) (law : .books ∈ ls → t.MovesInv) :
    Keeps ls s ((t.bind u b).admitRecord u .guestLock none (some b) none) := by
  have unit : isUnit u := by
    by_contra other
    rw [State.unit_of_not_isUnit _ other] at vacant
    cases vacant
  have holder : t.MovesInv → (t.unit u).holder = none := fun inv => by
    have sound := inv.2.1 u unit
    unfold UnitRecord.sound at sound
    rw [vacant] at sound
    exact sound.2.1
  obtain ⟨e, mem, at_⟩ := found
  refine h.with_moves_of (fun ms sub free => keeps_admitRecord (Keeps.refl.tables free (by simp) (fun books inv => ?_) fun v => ?_) u _ _ _ _ free)
    fun inv => ?_
  · exact booksInv_bind inv unit (holder (law (sub books))) mem at_
  · by_cases unit' : isUnit v
    · rw [State.bind_unit t unit']
      split
      case isTrue same => rw [same]
      case isFalse => rfl
    · rw [State.unit_of_not_isUnit _ unit', State.unit_of_not_isUnit _ unit']
  · have arb := (t.bind u b).admitRecord_arb u .guestLock none (some b) none
    rw [State.bind_arb] at arb
    obtain ⟨⟨_, few, distinct, low, high, fresh⟩, sound, -⟩ := id inv
    refine movesInv_of_admission inv (r := (t.bind u b).recordFor u .guestLock none (some b) none) (by simp [UnitRecord.moving, State.recordFor, vacant]) ?_
      (fun v ne => ((t.bind u b).admitRecord_unit_other ne _ _ _ _).trans (t.bind_unit_other ne b))
      (((t.bind u b).admitRecord_strings _ _ _ _ _).trans (t.bind_strings u b)) (by rw [arb]) ?_ (fun d hd _ => .inl (by rw [arb] at hd; exact hd))
      fun _ => rfl
    · have self := (t.bind u b).admitRecord_unit (u := u) unit .guestLock none (some b) none
      rw [if_pos rfl, State.bind_unit t unit, if_pos rfl] at self
      exact self ▸ UnitRecord.sound_intends_bound (r := t.unit u) (sound u unit) vacant rfl rfl rfl
    · have long := (t.queueFull_eq_false_iff).mp room
      rw [State.QueueInv, arb]
      exact ⟨by rw [List.length_append]; exact long, few, distinct, low, high, fresh⟩

/-! ## The unit act (R64 to R72) -/

theorem State.mem_of_band? {b : BandId} {e : Band} (h : s.band? b = some e) : e ∈ s.dir ∧ e.id = b :=
  ⟨List.mem_of_find?_eq_some h, by simpa using List.find?_some h⟩

theorem State.mem_of_append {b : BandId} {k : UnitKind} (h : s.appendRefusal b k = none) : ∃ e ∈ s.dir, e.id = b := by
  unfold State.appendRefusal at h
  split at h
  · cases h
  case h_2 e found => exact ⟨e, State.mem_of_band? found⟩

theorem keeps_stepVacant (h : Keeps ls s t) (d : Decision) (e : Band) (vacant : (t.unit d.unit).state = .vacant) (law : .books ∈ ls → t.MovesInv) :
    Keeps ls s (t.stepVacant d e) := by
  unfold State.stepVacant
  dsimp only
  split
  · exact keeps_endDecision h _ _
  · split
    · exact keeps_endDecision h _ _
    · split
      · exact keeps_endDecision h _ _
      case h_2 appended =>
        split
        · exact keeps_endDecision h _ _
        case isFalse room => exact keeps_endDecision (keeps_bind_admitRecord h vacant (by simpa using room) (State.mem_of_append appended) law) _ _

/-- A record without a demand, admitted for a unit in a state that lets it move. -/
theorem keeps_admitRecord_of (h : Keeps ls s t) {u : Nat} {origin : Origin} {semantics : Option StaffAction} (band : Option BandId)
    (room : t.queueFull = false) (rests : (t.unit u).state ≠ .unconfigured ∧ ¬(t.unit u).moving)
    (lock : (recordCause origin semantics).direction = .lock → (t.unit u).state = .held ∨ (t.unit u).state = .openHeld) :
    Keeps ls s (t.admitRecord u origin semantics band none) := by
  refine h.with_moves (fun _ free => keeps_admitRecord Keeps.refl u _ _ _ _ free) fun inv =>
    movesInv_admitRecord inv rests.1 rests.2 room band fun locks => ?_
  have unit : isUnit u := by
    by_contra other
    exact rests.1 (by rw [State.unit_of_not_isUnit _ other]; rfl)
  exact (UnitRecord.sound_still (inv.2.1 u unit) rests.1 rests.2).2.2.2.2 (lock locks)

theorem keeps_stepHeld (h : Keeps ls s t) (d : Decision) (held : (t.unit d.unit).state = .held) : Keeps ls s (t.stepHeld d) := by
  unfold State.stepHeld
  split
  · exact keeps_endDecision h _ _
  case isFalse room =>
    exact keeps_endDecision (keeps_admitRecord_of h _ (by simpa using room) (by simp [UnitRecord.moving, held]) fun _ => .inl held) _ _

theorem keeps_stepOpenHeld (h : Keeps ls s t) (d : Decision) (open_ : (t.unit d.unit).state = .openHeld) : Keeps ls s (t.stepOpenHeld d) := by
  unfold State.stepOpenHeld
  split
  · exact keeps_endDecision h _ _
  · split
    · exact keeps_endDecision h _ _
    case isFalse room =>
      exact keeps_endDecision (keeps_admitRecord_of h _ (by simpa using room) (by simp [UnitRecord.moving, open_]) fun _ => .inr open_) _ _

theorem keeps_guestSteps (h : Keeps ls s t) (d : Decision) (e : Band) (law : .books ∈ ls → t.MovesInv) : Keeps ls s (t.guestSteps d e) := by
  unfold State.guestSteps
  dsimp only
  split
  · exact keeps_endDecision h _ _
  · exact keeps_endDecision h _ _
  · exact keeps_endDecision h _ _
  · exact keeps_endDecision h _ _
  · exact keeps_endDecision h _ _
  · split
    · exact keeps_endDecision h _ _
    · split
      · exact keeps_endDecision h _ _
      · exact keeps_endDecision h _ _
      · exact keeps_endDecision h _ _
      case h_4 vacant => exact keeps_stepVacant h d e vacant law
      case h_5 held =>
        split
        · exact keeps_stepHeld h d held
        · exact keeps_endDecision h _ _
      case h_6 open_ =>
        split
        · exact keeps_stepOpenHeld h d open_
        · exact keeps_endDecision h _ _
      · exact keeps_endDecision h _ _

/-- A unit at rest without a holder that is written anew, to a state that asks for none. -/
theorem movesInv_of_rest (inv : s.MovesInv) {u : Nat} (rests : ¬(s.unit u).moving) {q : UnitRecord} (still : ¬q.moving)
    (sound : isUnit u → (s.unit u).sound → q.sound) : (s.setUnit u q).MovesInv := by
  have same : Changes [.units] s (s.setUnit u q) := by simp
  refine movesInv_of_unit inv u (same .arb (by decide)) (fun i => by rw [State.str, State.str, same .strings (by decide)])
    (fun v ne => State.unit_setUnit_other _ _ ne) fun unit was => ?_
  rw [State.unit_setUnit_self _ unit]
  exact ⟨sound unit was, ⟨fun h => absurd h still, fun h => absurd h rests⟩⟩

theorem UnitRecord.adjusted_vacant (r : UnitRecord) : r.adjusted .vacant = .occupied ∨ r.adjusted .vacant = .vacant := by
  unfold UnitRecord.adjusted
  dsimp only
  split
  · exact .inl rfl
  · exact .inr rfl

/-- A unit that goes back to VACANT as adjusted posts nothing (R8, R20). -/
theorem State.enter_vacant_setUnit (s : State) {u : Nat} (h : isUnit u) (r : UnitRecord) :
    (s.setUnit u r).enter u .vacant = s.setUnit u { r with state := r.adjusted .vacant } := by
  rw [State.enter_setUnit s h, State.enters_of_ne]
  rcases r.adjusted_vacant with state | state <;> simp [state]

theorem State.cleanUnit_eq (s : State) {u : Nat} (h : isUnit u) :
    s.cleanUnit u = s.setUnit u { s.unit u with uses := 0, state := (s.unit u).adjusted .vacant } :=
  s.enter_vacant_setUnit h { s.unit u with uses := 0 }

theorem keeps_cleanUnit (h : Keeps ls s t) {u : Nat} (cleaning : (t.unit u).state = .cleaning) : Keeps ls s (t.cleanUnit u) := by
  have unit : isUnit u := by
    by_contra other
    rw [State.unit_of_not_isUnit _ other] at cleaning
    cases cleaning
  rw [State.cleanUnit_eq _ unit]
  refine h.with_moves (fun _ free => keeps_setUnit Keeps.refl u rfl (fun _ => rfl) free) fun inv => ?_
  have state := (t.unit u).adjusted_vacant
  refine movesInv_of_rest inv (by simp [UnitRecord.moving, cleaning]) ?_ fun _ sound => ?_
  · rcases state with st | st <;> simp [UnitRecord.moving, st]
  · have was : (t.unit u).config.isSome = true ∧ (t.unit u).holder = none ∧ (t.unit u).intent = none := by
      unfold UnitRecord.sound at sound
      rw [cleaning] at sound
      exact sound
    refine (UnitRecord.sound_at_rest (q := { t.unit u with uses := 0, state := (t.unit u).adjusted .vacant }) was.1 was.2.2 was.2.1 ?_).1
    rcases state with st | st <;> simp [st]

theorem keeps_staffSteps (h : Keeps ls s t) (d : Decision) : Keeps ls s (t.staffSteps d) := by
  have free : ∀ st, (t.unit d.unit).state = st → st = .jammed ∨ st = .forfeited → Keeps ls s (if t.queueFull then t.endDecision d .queueFull
      else (t.admitRecord d.unit .staff (some .freeUnit) (some d.band) none).endDecision d .staffRelease) := by
    intro st state mem
    split
    · exact keeps_endDecision h _ _
    case isFalse room =>
      refine keeps_endDecision (keeps_admitRecord_of h _ (by simpa using room) ?_ (by simp [recordCause, Cause.direction])) _ _
      rw [UnitRecord.moving, state]
      rcases mem with rfl | rfl <;> simp
  unfold State.staffSteps
  split
  case h_1 state => exact free _ state (.inl rfl)
  case h_2 state => exact free _ state (.inr rfl)
  case h_3 cleaning => exact keeps_endDecision (keeps_cleanUnit h cleaning) _ _
  all_goals exact keeps_endDecision h _ _

theorem keeps_unitAct (h : Keeps ls s t) (d : Decision) (law : .books ∈ ls → t.MovesInv) : Keeps ls s (t.unitAct d) := by
  unfold State.unitAct
  split
  · exact keeps_endDecision h _ _
  · split
    · exact keeps_endDecision h _ _
    · split
      · exact keeps_staffSteps h d
      · exact keeps_guestSteps h d _ law

theorem keeps_decide (h : Keeps ls s t) (i : StringId) (addr : Nat) (stage : Stage) {act : State → Decision → State}
    (acts : ∀ d, Keeps ls s (act t d)) : Keeps ls s (t.decide i addr stage act) := by
  unfold State.decide
  split
  · exact h
  · exact acts _

end Sys2Proof.Machine
end


section
/-! PROOF. The band requests (R47 to R54), and the law of tenancy under them. -/

set_option Elab.async false

namespace Sys2Proof.Machine

variable {ls : List Law} {s t : State}

theorem tenancyInv_of_keeps (inv : s.TenancyInv) (kept : Keeps [.books, .moves] s t) : t.TenancyInv := by
  obtain ⟨books, moves⟩ := (tenancyInv_iff s).mp inv
  exact (tenancyInv_iff t).mpr ⟨kept .books (by simp) books, kept .moves (by simp) moves⟩

/-- An act keeps the laws of the books and of movements where it keeps the law of tenancy, under which it is taken. -/
theorem Keeps.with_tenancy (h : Keeps ls s t) {r : State}
    (others : ∀ ms : List Law, ms ⊆ ls → .moves ∉ ms → .books ∉ ms → Keeps ms t r) (law : .books ∈ ls ∨ .moves ∈ ls → t.TenancyInv)
    (tenancy : t.TenancyInv → r.TenancyInv) : Keeps ls s r :=
  h.trans fun l mem => by
    by_cases books : l = .books
    · subst books
      exact fun _ => ((tenancyInv_iff r).mp (tenancy (law (.inl mem)))).1
    by_cases moves : l = .moves
    · subst moves
      exact fun _ => ((tenancyInv_iff r).mp (tenancy (law (.inr mem)))).2
    exact others [l] (by simpa using mem) (by simpa using Ne.symm moves) (by simpa using Ne.symm books) l (by simp)

theorem keeps_modBand (h : Keeps ls s t) (b : BandId) {f : Band → Band} (same : ∀ e, (f e).id = e.id ∧ (f e).holdings = e.holdings) :
    Keeps ls s (t.modBand b f) := by
  refine h.with_moves (fun _ free => keeps_setDir Keeps.refl _ free fun _ => ?_) id
  rw [List.map_map]
  refine List.map_congr_left fun e _ => ?_
  rw [Function.comp_apply]
  split
  · rw [(same e).1, (same e).2]
  · rfl

/-! ## Checkout (R16, R48) -/

/-- The state of a unit whose holder is checked out. -/
def UnitRecord.leftState (r : UnitRecord) : UnitState := match r.state with | .openHeld => r.adjusted .vacant | .held => .forfeited | st => st

/-- A unit's record when its holder is checked out. -/
def UnitRecord.checkedOut (r : UnitRecord) : UnitRecord := { r.freed with state := r.leftState }

theorem UnitRecord.freed_state (r : UnitRecord) : r.freed.state = r.state := by
  unfold UnitRecord.freed
  split <;> rfl

theorem UnitRecord.freed_intent (r : UnitRecord) : r.freed.intent = r.intent := by
  unfold UnitRecord.freed
  split <;> rfl

theorem State.checkOutUnit_eq (s : State) {u : Nat} (h : isUnit u) :
    s.checkOutUnit u = (s.setDir (s.dirWithout u)).setUnit u (s.unit u).checkedOut := by
  unfold State.checkOutUnit UnitRecord.checkedOut
  rw [State.removeHolder_eq]
  split
  case h_1 state =>
    have left : (s.unit u).leftState = (s.unit u).adjusted .vacant := by simp only [UnitRecord.leftState, state]
    rw [State.enter_vacant_setUnit _ h, UnitRecord.freed_adjusted_vacant, left]
  case h_2 state =>
    have left : (s.unit u).leftState = .forfeited := by simp only [UnitRecord.leftState, state]
    have forfeited : (s.unit u).freed.adjusted .held = .forfeited := by simp [UnitRecord.adjusted, UnitRecord.freed_holder]
    rw [State.enter_setUnit _ h, State.enters_of_ne _ _ (by simp [forfeited]), forfeited, left]
  case h_3 open_ held =>
    have left : (s.unit u).leftState = (s.unit u).freed.state := by
      rw [UnitRecord.freed_state]
      unfold UnitRecord.leftState
      split
      · exact absurd ‹_› open_
      · exact absurd ‹_› held
      · rfl
    rw [left]

theorem State.checkOutUnit_unit (s : State) {u v : Nat} (h : isUnit u) :
    (s.checkOutUnit u).unit v = if v = u then (s.unit u).checkedOut else s.unit v := by
  rw [State.checkOutUnit_eq s h]
  by_cases unit : isUnit v
  · rw [State.unit_setUnit _ _ unit]
    rfl
  · have ne : v ≠ u := fun same => unit (same ▸ h)
    rw [State.unit_of_not_isUnit _ unit, if_neg ne, State.unit_of_not_isUnit _ unit]

theorem State.checkOutUnit_dir (s : State) {u : Nat} (h : isUnit u) : (s.checkOutUnit u).dir = s.dirWithout u := by
  rw [State.checkOutUnit_eq s h]
  exact (show Changes [.units] (s.setDir (s.dirWithout u)) ((s.setDir (s.dirWithout u)).setUnit u (s.unit u).checkedOut) by
    generalize s.dirWithout u = dir
    simp) .dir (by decide)

theorem changes_checkOut_isUnit (s : State) {u : Nat} (h : isUnit u) : Changes [.units, .dir] s (s.checkOutUnit u) := by
  rw [State.checkOutUnit_eq s h]
  generalize s.dirWithout u = dir
  simp

/-- The units of a checkout, one after another. -/
theorem State.checkOutUnits_unit {us : List Nat} (distinct : us.Nodup) (units : ∀ u ∈ us, isUnit u) (s : State) (v : Nat) :
    (us.foldl State.checkOutUnit s).unit v = if v ∈ us then (s.unit v).checkedOut else s.unit v := by
  induction us generalizing s with
  | nil => rfl
  | cons u us ih =>
    obtain ⟨fresh, rest⟩ := List.nodup_cons.mp distinct
    rw [List.foldl_cons, ih rest fun w mem => units w (List.mem_cons_of_mem _ mem)]
    simp only [s.checkOutUnit_unit (units u (by simp)), List.mem_cons]
    by_cases same : v = u
    · subst same
      simp [fresh]
    · simp [same]

theorem changes_checkOutUnits {us : List Nat} (units : ∀ u ∈ us, isUnit u) (s : State) :
    Changes [.units, .dir] s (us.foldl State.checkOutUnit s) := by
  induction us generalizing s with
  | nil => exact Changes.refl
  | cons u us ih => exact (changes_checkOut_isUnit s (units u (by simp))).trans (ih (fun w mem => units w (List.mem_cons_of_mem _ mem)) _)

/-- A checkout touches the entry of its band alone. -/
theorem State.checkOutUnits_dir {us : List Nat} (distinct : us.Nodup) (units : ∀ u ∈ us, isUnit u) {b : BandId} {s : State}
    (held : ∀ u ∈ us, (s.unit u).holder = some b) :
    (us.foldl State.checkOutUnit s).dir.filter (·.id != b) = s.dir.filter (·.id != b) := by
  induction us generalizing s with
  | nil => rfl
  | cons u us ih =>
    obtain ⟨fresh, rest⟩ := List.nodup_cons.mp distinct
    have first := units u (by simp)
    rw [List.foldl_cons, ih rest (fun w mem => units w (List.mem_cons_of_mem _ mem)) fun w mem => ?_, State.checkOutUnit_dir s first]
    · unfold State.dirWithout
      rw [held u (by simp), List.filter_map]
      have ids : (fun e : Band => e.id != b) ∘ (fun e => if some b = some e.id then { e with holdings := e.holdings.filter (· != u) } else e)
          = fun e => e.id != b := by
        funext e
        rw [Function.comp_apply]
        split <;> rfl
      rw [ids]
      refine (List.map_congr_left fun e mem => ?_).trans (List.map_id _)
      have other : e.id ≠ b := by simpa using (List.mem_filter.mp mem).2
      exact if_neg fun same => other (Option.some.inj same).symm
    · have ne : w ≠ u := fun same => fresh (same ▸ mem)
      rw [State.checkOutUnit_unit s first, if_neg ne]
      exact held w (List.mem_cons_of_mem _ mem)

/-- An intent stays sound where the holder goes: its states ask for no holder. -/
theorem Intent.sound_none {holder : Option BandId} {i : Intent} (h : i.sound holder) : i.sound none := by
  have base : ∀ {b : BaseIntent}, b.sound holder → b.sound none := fun ⟨mem, _⟩ => ⟨mem, fun _ => rfl⟩
  unfold Intent.sound at h ⊢
  split at h
  · exact base h
  · exact ⟨h.1, base h.2⟩

theorem UnitRecord.sound_checkedOut {r : UnitRecord} (h : r.sound) (still : ¬r.moving) : r.checkedOut.sound ∧ ¬r.checkedOut.moving := by
  have config : r.checkedOut.config = r.config := r.freed_config
  have holder : r.checkedOut.holder = none := r.freed_holder
  have intent : r.checkedOut.intent = r.intent := r.freed_intent
  have state : r.checkedOut.state = r.leftState := rfl
  have rest : ∀ st, r.leftState = st → st ∈ [UnitState.vacant, .occupied, .cleaning, .forfeited, .withdrawn] → r.config.isSome = true →
      r.intent = none → r.checkedOut.sound ∧ ¬r.checkedOut.moving := fun st left mem configured none_ =>
    UnitRecord.sound_at_rest (by rw [config]; exact configured) (by rw [intent]; exact none_) holder (by rw [state, left]; exact mem)
  have stuck : r.state = .jammed ∨ r.state = .verify → r.checkedOut.sound ∧ ¬r.checkedOut.moving := fun mem => by
    have left : r.leftState = r.state := by rcases mem with st | st <;> simp only [UnitRecord.leftState, st]
    have mem' : r.checkedOut.state = .jammed ∨ r.checkedOut.state = .verify := by rw [state, left]; exact mem
    obtain ⟨configured, i, carried, sound⟩ := (UnitRecord.sound_stuck mem).mp h
    refine ⟨(UnitRecord.sound_stuck mem').mpr ⟨by rw [config]; exact configured, i, by rw [intent]; exact carried, ?_⟩, ?_⟩
    · rw [holder]; exact Intent.sound_none sound
    · unfold UnitRecord.moving
      rcases mem' with st | st <;> simp [st]
  unfold UnitRecord.moving at still
  unfold UnitRecord.sound at h
  cases st : r.state <;> rw [st] at h still
  case locking => exact absurd (.inl rfl) still
  case unlocking => exact absurd (.inr rfl) still
  case jammed => exact stuck (.inl st)
  case verify => exact stuck (.inr st)
  case unconfigured =>
    obtain ⟨none_, -, none'⟩ := h
    have left : r.leftState = .unconfigured := by simp only [UnitRecord.leftState, st]
    unfold UnitRecord.sound UnitRecord.moving
    rw [state, left, config, holder, intent]
    exact ⟨⟨none_, rfl, none'⟩, by simp⟩
  case openHeld =>
    have left : r.leftState = r.adjusted .vacant := by simp only [UnitRecord.leftState, st]
    refine rest _ left ?_ h.1 h.2.2
    rcases r.adjusted_vacant with free | free <;> simp [free]
  case held => exact rest .forfeited (by simp only [UnitRecord.leftState, st]) (by simp) h.1 h.2.2
  all_goals exact rest r.state (by simp only [UnitRecord.leftState, st]) (by simp [st]) h.1 h.2.2

/-- The law of movements when units are written anew and none starts or ends a movement. -/
theorem movesInv_of_units (inv : s.MovesInv) (arb : t.arb = s.arb) (strings : t.strings = s.strings)
    (each : ∀ v, isUnit v → (s.unit v).sound → (t.unit v).sound ∧ ((t.unit v).moving ↔ (s.unit v).moving)) : t.MovesInv := by
  obtain ⟨queue, sound, owed, demands, tags⟩ := inv
  have moves : ∀ v, t.movements v = s.movements v := movements_congr (by rw [arb]) fun i => by rw [State.str, State.str, strings]
  refine ⟨by simpa only [State.QueueInv, arb] using queue, fun v unit => (each v unit (sound v unit)).1, fun v => ?_, by rw [arb]; exact demands,
    by rw [arb]; exact tags⟩
  rw [moves, owed]
  by_cases unit : isUnit v
  · exact if_congr (each v unit (sound v unit)).2.symm rfl rfl
  · rw [State.unit_of_not_isUnit _ unit, State.unit_of_not_isUnit _ unit]

/-- An accepted checkout (R48), of a band whose holdings are not on the move. -/
theorem checkOut_spec (inv : s.BooksInv) {b : BandId} {e : Band} (mem : e ∈ s.dir) (id : e.id = b) :
    (∀ v, (s.checkOut b e.holdings).unit v = if v ∈ e.holdings then (s.unit v).checkedOut else s.unit v)
      ∧ (s.checkOut b e.holdings).dir = s.dir.filter (·.id != b) ∧ Changes [.units, .dir] s (s.checkOut b e.holdings) := by
  obtain ⟨-, holders, lists⟩ := inv
  obtain ⟨distinct, units⟩ := lists e mem
  refine ⟨fun v => ?_, State.checkOutUnits_dir distinct units fun u hu => (holders u b (units u hu)).mpr ⟨e, mem, id, hu⟩, ?_⟩
  · exact (State.checkOutUnits_unit distinct units s v : _)
  · exact (changes_checkOutUnits units s).trans (by simp [State.checkOut])

/-- No band has two entries (R33). -/
theorem State.DirectoryInv.unique (inv : s.DirectoryInv) {x y : Band} (hx : x ∈ s.dir) (hy : y ∈ s.dir) (same : x.id = y.id) : x = y := by
  have distinct : (s.dir.map (·.id)).Nodup := inv.1.imp fun lt same => by bv_omega
  exact List.inj_on_of_nodup_map distinct hx hy same

theorem tenancyInv_checkOut (inv : s.TenancyInv) {b : BandId} {e : Band} (mem : e ∈ s.dir) (at_ : e.id = b)
    (still : ∀ u ∈ e.holdings, ¬(s.unit u).moving) : (s.checkOut b e.holdings).TenancyInv := by
  obtain ⟨books, moves⟩ := (tenancyInv_iff s).mp inv
  obtain ⟨units, dir, same⟩ := checkOut_spec books mem at_
  refine (tenancyInv_iff _).mpr ⟨?_, ?_⟩
  · have unlisted : ∀ x ∈ s.dir, x.id ≠ b → ∀ u ∈ x.holdings, u ∉ e.holdings := fun x hx other u hu hu' => by
      have unit := (books.2.2 x hx).2 u hu
      have mine := (books.2.1 u x.id unit).mpr ⟨x, hx, rfl, hu⟩
      have yours := (books.2.1 u b unit).mpr ⟨e, mem, at_, hu'⟩
      exact other (Option.some.inj (mine.symm.trans yours))
    obtain ⟨directory, holders, lists⟩ := books
    obtain ⟨sorted, few⟩ := id directory
    refine ⟨⟨?_, ?_⟩, fun u c unit => ?_, fun x hx => lists x ?_⟩
    · rw [dir]; exact sorted.sublist (List.filter_sublist.map _)
    · rw [dir]; exact (List.length_filter_le _ _).trans few
    · rw [units, dir]
      simp only [List.mem_filter, bne_iff_ne]
      by_cases listed : u ∈ e.holdings
      · have mine := (holders u b unit).mpr ⟨e, mem, at_, listed⟩
        have none_ : (s.unit u).checkedOut.holder = none := (s.unit u).freed_holder
        rw [if_pos listed, none_]
        exact iff_of_false (by simp) fun ⟨x, ⟨hx, other⟩, _, hu⟩ => unlisted x hx other u hu listed
      · rw [if_neg listed, holders u c unit]
        constructor
        · rintro ⟨x, hx, rfl, hu⟩
          refine ⟨x, ⟨hx, fun same => listed ?_⟩, rfl, hu⟩
          exact directory.unique mem hx (at_.trans same.symm) ▸ hu
        · exact fun ⟨x, ⟨hx, _⟩, at_, hu⟩ => ⟨x, hx, at_, hu⟩
    · rw [dir] at hx
      exact (List.mem_filter.mp hx).1
  · refine movesInv_of_units moves (same .arb (by decide)) (same .strings (by decide)) fun v unit sound => ?_
    rw [units]
    split
    case isTrue mem =>
      have out := UnitRecord.sound_checkedOut sound (still v mem)
      exact ⟨out.1, ⟨fun h => absurd h out.2, fun h => absurd h (still v mem)⟩⟩
    case isFalse => exact ⟨sound, Iff.rfl⟩

/-! ## Transfer (R51) -/

/-- The entries of a transfer: the old band's holdings move to the end of the new band's. -/
def Band.transferred (old new : BandId) (us : List Nat) (e : Band) : Band :=
  if e.id = old then { e with holdings := [] } else if e.id = new then { e with holdings := e.holdings ++ us } else e

theorem Band.transferred_id (old new : BandId) (us : List Nat) (e : Band) : (e.transferred old new us).id = e.id := by
  unfold Band.transferred
  (repeat' split) <;> rfl

/-- Units changed one after another, by a change that is made once. -/
theorem foldl_modUnit {f : UnitRecord → UnitRecord} (once : ∀ r, f (f r) = f r) (us : List Nat) (s : State) :
    (∀ v, (us.foldl (fun s u => s.modUnit u f) s).unit v = if isUnit v ∧ v ∈ us then f (s.unit v) else s.unit v)
      ∧ Changes [.units] s (us.foldl (fun s u => s.modUnit u f) s) := by
  induction us generalizing s with
  | nil => exact ⟨fun v => by simp, Changes.refl⟩
  | cons u us ih =>
    obtain ⟨units, same⟩ := ih (s.modUnit u f)
    refine ⟨fun v => ?_, (show Changes [.units] s (s.modUnit u f) by simp).trans same⟩
    rw [List.foldl_cons, units]
    by_cases unit : isUnit v
    · have step : (s.modUnit u f).unit v = if v = u then f (s.unit v) else s.unit v := by
        rw [State.modUnit, State.unit_setUnit s _ unit]
        split
        case isTrue same => rw [same]
        case isFalse => rfl
      rw [step]
      have guard : ∀ P : Prop, (isUnit v ∧ P) = P := fun _ => propext (and_iff_right unit)
      simp only [guard, List.mem_cons]
      by_cases here : v = u <;> by_cases later : v ∈ us <;> simp [here, later, once]
    · simp only [unit, false_and, if_false]
      rw [State.unit_of_not_isUnit _ unit, State.unit_of_not_isUnit _ unit]

theorem transfer_spec (s : State) {old new : BandId} (ne : old ≠ new) (us : List Nat) :
    (∀ v, (s.transfer old new us).unit v = if isUnit v ∧ v ∈ us then { s.unit v with holder := some new } else s.unit v)
      ∧ (s.transfer old new us).dir = s.dir.map (Band.transferred old new us) ∧ Changes [.units, .dir] s (s.transfer old new us) := by
  have dir : ((s.modBand new fun e => { e with holdings := e.holdings ++ us }).modBand old fun e => { e with holdings := [] })
      = s.setDir (s.dir.map (Band.transferred old new us)) := by
    unfold State.modBand
    rw [State.setDir_dir, List.map_map]
    refine congrArg s.setDir (List.map_congr_left fun e _ => ?_)
    unfold Band.transferred
    rw [Function.comp_apply]
    by_cases isNew : e.id = new
    · have notOld : e.id ≠ old := fun same => ne (same.symm.trans isNew)
      simp [isNew, Ne.symm ne]
    · simp [isNew]
  unfold State.transfer
  dsimp only
  rw [dir]
  obtain ⟨units, same⟩ := foldl_modUnit (f := fun r => { r with holder := some new }) (fun _ => rfl) us (s.setDir (s.dir.map (Band.transferred old new us)))
  exact ⟨units, same .dir (by decide), (show Changes [.units, .dir] s (s.setDir _) by simp).trans (same.mono (by decide))⟩

theorem Intent.sound_some {b c : BandId} {i : Intent} (h : i.sound (some b)) : i.sound (some c) := by
  have base : ∀ {x : BaseIntent}, x.sound (some b) → x.sound (some c) := fun ⟨mem, free⟩ => ⟨mem, fun asks => by cases free asks⟩
  unfold Intent.sound at h ⊢
  split at h
  · exact base h
  · exact ⟨h.1, base h.2⟩

theorem UnitRecord.sound_reheld {r : UnitRecord} (h : r.sound) {b : BandId} (held : r.holder = some b) (c : BandId) :
    ({ r with holder := some c } : UnitRecord).sound := by
  unfold UnitRecord.sound at h ⊢
  dsimp only
  rw [held] at h
  cases state : r.state <;> simp only [state] at h ⊢
  case held | openHeld => exact h
  case locking =>
    obtain ⟨config, -, i, intent, lock, sound⟩ := h
    exact ⟨config, rfl, i, intent, lock, Intent.sound_some sound⟩
  case unlocking =>
    obtain ⟨config, i, intent, lock, sound, -⟩ := h
    exact ⟨config, i, intent, lock, Intent.sound_some sound, fun _ => rfl⟩
  case jammed | verify =>
    obtain ⟨config, i, intent, sound⟩ := h
    exact ⟨config, i, intent, Intent.sound_some sound⟩
  all_goals exact absurd h.2.1 (by simp)

theorem tenancyInv_transfer (inv : s.TenancyInv) {o n : Band} (ho : o ∈ s.dir) (hn : n ∈ s.dir) (ne : o.id ≠ n.id) :
    (s.transfer o.id n.id o.holdings).TenancyInv := by
  obtain ⟨books, moves⟩ := (tenancyInv_iff s).mp inv
  obtain ⟨units, dir, same⟩ := transfer_spec s ne o.holdings
  obtain ⟨directory, holders, lists⟩ := id books
  have mine : ∀ u ∈ o.holdings, (s.unit u).holder = some o.id := fun u hu => (holders u o.id ((lists o ho).2 u hu)).mpr ⟨o, ho, rfl, hu⟩
  have holder : ∀ u, isUnit u → ((s.transfer o.id n.id o.holdings).unit u).holder
      = if u ∈ o.holdings then some n.id else (s.unit u).holder := fun u unit => by
    rw [units, if_congr (and_iff_right unit) rfl rfl]
    split <;> rfl
  have entry : ∀ (u : Nat) (x : Band), x ∈ s.dir →
      (u ∈ (x.transferred o.id n.id o.holdings).holdings ↔ if x.id = o.id then False else u ∈ x.holdings ∨ (x.id = n.id ∧ u ∈ o.holdings)) := by
    intro u x _
    unfold Band.transferred
    by_cases isOld : x.id = o.id
    · simp [isOld]
    · by_cases isNew : x.id = n.id
      · simp [isNew, Ne.symm ne]
      · simp [isOld, isNew]
  refine (tenancyInv_iff _).mpr ⟨⟨⟨?_, by rw [dir, List.length_map]; exact directory.2⟩, fun u c unit => ?_, fun y hy => ?_⟩, ?_⟩
  · have ids : (s.dir.map (Band.transferred o.id n.id o.holdings)).map (·.id) = s.dir.map (·.id) := by
      rw [List.map_map]
      exact List.map_congr_left fun x _ => x.transferred_id _ _ _
    rw [dir, ids]
    exact directory.1
  · rw [holder u unit, dir]
    simp only [List.mem_map, exists_exists_and_eq_and, Band.transferred_id]
    by_cases listed : u ∈ o.holdings
    · rw [if_pos listed]
      constructor
      · intro at_
        cases at_
        exact ⟨n, hn, rfl, (entry u n hn).mpr (by rw [if_neg (Ne.symm ne)]; exact .inr ⟨rfl, listed⟩)⟩
      · rintro ⟨x, hx, rfl, hu⟩
        rw [entry u x hx] at hu
        split at hu
        · exact hu.elim
        case isFalse other =>
          rcases hu with was | ⟨new, -⟩
          · exact absurd (Option.some.inj (((holders u x.id unit).mpr ⟨x, hx, rfl, was⟩).symm.trans (mine u listed))) other
          · rw [new]
    · rw [if_neg listed, holders u c unit]
      constructor
      · rintro ⟨x, hx, rfl, hu⟩
        refine ⟨x, hx, rfl, (entry u x hx).mpr ?_⟩
        rw [if_neg fun same => listed (directory.unique hx ho same ▸ hu)]
        exact .inl hu
      · rintro ⟨x, hx, at_, hu⟩
        rw [entry u x hx] at hu
        split at hu
        · exact hu.elim
        · exact ⟨x, hx, at_, hu.resolve_right fun new => listed new.2⟩
  · rw [dir] at hy
    obtain ⟨x, hx, rfl⟩ := List.mem_map.mp hy
    unfold Band.transferred
    split
    · simp
    · split
      case isTrue other new =>
        obtain ⟨nodup, units'⟩ := lists x hx
        obtain ⟨nodup', units''⟩ := lists o ho
        refine ⟨List.nodup_append.mpr ⟨nodup, nodup', fun a ha c hc same => ?_⟩, fun v hv => (List.mem_append.mp hv).elim (units' v) (units'' v)⟩
        subst same
        exact other (Option.some.inj (((holders a x.id (units' a ha)).mpr ⟨x, hx, rfl, ha⟩).symm.trans (mine a hc)))
      · exact lists x hx
  · refine movesInv_of_units moves (same .arb (by decide)) (same .strings (by decide)) fun v unit sound => ?_
    rw [units]
    split
    case isTrue mem => exact ⟨UnitRecord.sound_reheld sound (mine v mem.2) _, Iff.rfl⟩
    case isFalse => exact ⟨sound, Iff.rfl⟩

/-! ## What the band requests keep -/

theorem keeps_registerBand (h : Keeps ls s t) (band : BandId) (cls group : Byte) (validity : BitVec 16) (lockers cabins : Byte) :
    Keeps ls s (registerBand band cls group validity lockers cabins t).1 := by
  unfold registerBand
  split
  · exact h
  · split
    · exact h
    · split
      · exact h
      case isFalse fresh =>
        split
        · exact h
        case isFalse room => exact keeps_insertBand h (by simpa using fresh) (not_le.mp room) rfl

theorem keeps_amendBand (h : Keeps ls s t) (band : BandId) (a : Amendment) : Keeps ls s (amendBand band a t).1 := by
  unfold amendBand
  split
  · exact h
  · split
    · exact h
    · split
      · exact h
      · split
        · exact h
        · exact keeps_modBand h band fun _ => ⟨rfl, rfl⟩

theorem keeps_reportLost (h : Keeps ls s t) (band : BandId) : Keeps ls s (reportLost band t).1 := by
  unfold reportLost
  split
  · exact h
  · split
    · exact h
    · exact keeps_modBand h band fun _ => ⟨rfl, rfl⟩

theorem keeps_queryBand (h : Keeps ls s t) (band : BandId) : Keeps ls s (queryBand band t).1 := by
  unfold queryBand
  (repeat' split) <;> exact h

theorem keeps_listBands (h : Keeps ls s t) (selection : Byte) (start : BandId) : Keeps ls s (listBands selection start t).1 := by
  unfold listBands
  split <;> exact h

theorem keeps_clearDirectory (h : Keeps ls s t) : Keeps ls s (clearDirectory t).1 := by
  unfold clearDirectory
  dsimp only
  split
  · exact h
  · split
    · exact h
    case isFalse empty =>
      have none_ : ∀ e ∈ t.dir, e.holdings = [] := by simpa using empty
      refine h.with_moves (fun _ free => Keeps.refl.tables free (by simp [State.ok]) (fun _ inv => ?_) fun _ => rfl) id
      refine ⟨⟨List.Pairwise.nil, Nat.zero_le _⟩, fun u b unit => (inv.2.1 u b unit).trans ?_, fun e mem => absurd mem (List.not_mem_nil)⟩
      refine iff_of_false (fun ⟨e, mem, _, hu⟩ => ?_) fun ⟨e, mem, _⟩ => absurd mem List.not_mem_nil
      rw [none_ e mem] at hu
      cases hu

theorem keeps_checkOutUnit (h : Keeps ls s t) (u : Nat) (free : .moves ∉ ls) : Keeps ls s (t.checkOutUnit u) := by
  unfold State.checkOutUnit
  split
  · exact keeps_enter (keeps_removeHolder h u free) u _ free
  · exact keeps_enter (keeps_removeHolder h u free) u _ free
  · exact keeps_removeHolder h u free

theorem keeps_checkOutBand (h : Keeps ls s t) (band : BandId) (mode : Byte) (law : .books ∈ ls ∨ .moves ∈ ls → t.TenancyInv) :
    Keeps ls s (checkOutBand band mode t).1 := by
  unfold checkOutBand
  split
  · exact h
  · split
    · exact h
    case h_2 e found =>
      obtain ⟨mem, at_⟩ := State.mem_of_band? found
      dsimp only
      split
      · exact h
      case isFalse busy =>
        split
        · exact h
        · have still : ∀ u ∈ e.holdings, ¬(t.unit u).moving := by
            have none_ : ∀ u ∈ e.holdings, t.moving u = false := by simpa using busy
            intro u hu moving
            have := none_ u hu
            simp only [State.moving, Bool.or_eq_false_iff, beq_eq_false_iff_ne] at this
            exact moving.elim this.1 this.2
          refine h.with_tenancy (fun ms _ free free' => ?_) law fun inv => tenancyInv_checkOut inv mem at_ still
          exact (Keeps.foldl (fun _ u => keeps_checkOutUnit Keeps.refl u free) _ _).tables free (by simp [State.checkOut]) (fun books => absurd books free') fun _ => rfl

theorem keeps_transferHoldings (h : Keeps ls s t) (old new : BandId) (law : .books ∈ ls ∨ .moves ∈ ls → t.TenancyInv) :
    Keeps ls s (transferHoldings old new t).1 := by
  unfold transferHoldings
  split
  · exact h
  case isFalse sound =>
    split
    case h_2 => exact h
    case h_1 o n ho hn =>
      obtain ⟨mem, at_⟩ := State.mem_of_band? ho
      obtain ⟨mem', at'⟩ := State.mem_of_band? hn
      split
      · exact h
      · split
        · exact h
        · split
          · exact h
          · dsimp only
            split
            · exact h
            · subst at_ at'
              have ne : o.id ≠ n.id := fun same => sound (.inr (.inr same))
              obtain ⟨units, -, same⟩ := transfer_spec t ne o.holdings
              refine h.with_tenancy (fun ms _ free free' => ?_) law fun inv => tenancyInv_transfer inv mem mem' ne
              refine Keeps.refl.tables free same (fun books => absurd books free') fun v => ?_
              refine (congrArg UnitRecord.config (units v)).trans ?_
              split <;> rfl

end Sys2Proof.Machine
end


section
/-! PROOF. CHECK_OUT_BAND, TRANSFER_HOLDINGS, and the requests that mark, list and clear (R47 to R54). -/

set_option Elab.async false

namespace Sys2Proof.Machine

variable {s : State}

theorem exec_checkOutBand (on : s.power.on = true) (tag : Byte) (band : BandId) (mode : Byte) :
    let i := Instr.checkOutBand tag band mode
    exec i s = .next (s.answered i (checkOutBand band mode (s.taken i))) := congrArg Host.Outcome.next (whenOn_takeInHand on rfl _)

theorem exec_transferHoldings (on : s.power.on = true) (tag : Byte) (old new : BandId) :
    let i := Instr.transferHoldings tag old new
    exec i s = .next (s.answered i (transferHoldings old new (s.taken i))) := congrArg Host.Outcome.next (whenOn_takeInHand on rfl _)

theorem exec_reportLost (on : s.power.on = true) (tag : Byte) (band : BandId) :
    let i := Instr.reportLost tag band
    exec i s = .next (s.answered i (reportLost band (s.taken i))) := congrArg Host.Outcome.next (whenOn_takeInHand on rfl _)

theorem exec_queryBand (on : s.power.on = true) (tag : Byte) (band : BandId) :
    let i := Instr.queryBand tag band
    exec i s = .next (s.answered i (queryBand band (s.taken i))) := congrArg Host.Outcome.next (whenOn_takeInHand on rfl _)

theorem exec_listBands (on : s.power.on = true) (tag selection : Byte) (start : BandId) :
    let i := Instr.listBands tag selection start
    exec i s = .next (s.answered i (listBands selection start (s.taken i))) := congrArg Host.Outcome.next (whenOn_takeInHand on rfl _)

theorem exec_clearDirectory (on : s.power.on = true) (tag : Byte) :
    let i := Instr.clearDirectory tag
    exec i s = .next (s.answered i (clearDirectory (s.taken i))) := congrArg Host.Outcome.next (whenOn_takeInHand on rfl _)

theorem State.answered_refuseWith (s t : State) (i : Instr) (status : Status) (content : List Byte) :
    s.answered i (t.refuseWith status content) = i.reply s t status content := rfl

theorem State.band?_taken (s : State) (i : Instr) (b : BandId) : (s.taken i).band? b = s.dir.find? (·.id == b) := by
  rw [State.band?, State.taken_dir]

theorem entries_u8 (us : List Nat) : entries u8 us = u8 us.length ++ (us.map u8).flatten := rfl

theorem State.moving_eq_contains (s : State) (u : Nat) : s.moving u = [UnitState.locking, .unlocking].contains (s.unit u).state := by
  rw [Bool.eq_iff_iff]
  simp [State.moving]

theorem State.booksInv_taken (inv : s.BooksInv) (i : Instr) : (s.taken i).BooksInv :=
  (booksInv_congr (fun u => by rw [State.taken_unit]) (by rw [State.taken_dir])).mpr inv

/-! ## CHECK_OUT_BAND -/

/-- CHECK_OUT_BAND of a band with an entry, check by check (R47). -/
theorem checkOutBand_of_found {band : BandId} {mode : Byte} (sound : ¬(band = 0 ∨ 1 < mode.toNat)) {e : Band} (found : s.band? band = some e) :
    checkOutBand band mode s =
      if e.holdings.filter (fun u => [UnitState.locking, .unlocking].contains (s.unit u).state) ≠ [] then
        s.refuseWith .unitBusy (entries u8 (e.holdings.filter fun u => [UnitState.locking, .unlocking].contains (s.unit u).state))
      else if mode = 0 ∧ e.holdings.filter (fun u => [UnitState.held, .jammed, .verify].contains (s.unit u).state) ≠ [] then
        s.refuseWith .holdingsRemain (entries u8 (e.holdings.filter fun u => [UnitState.held, .jammed, .verify].contains (s.unit u).state))
      else (s.checkOut band e.holdings).ok ((s.checkOut band e.holdings).holdingsBytes e.holdings) := by
  have busy : s.moving = fun u => [UnitState.locking, .unlocking].contains (s.unit u).state := funext s.moving_eq_contains
  have remain : (fun u => (s.unit u).state == .held || (s.unit u).state == .jammed || (s.unit u).state == .verify)
      = fun u => [UnitState.held, .jammed, .verify].contains (s.unit u).state := by
    funext u
    rw [Bool.eq_iff_iff]
    simp [or_assoc]
  unfold checkOutBand
  rw [if_neg sound]
  simp only [found, busy, remain, List.isEmpty_iff, ne_eq]

/-- Settles O34: the refusals in their order, and then the units and the entry that a checkout leaves. -/
theorem checkOutBandReleasesEveryHolding : Obligations.CheckOutBandReleasesEveryHolding := by
  refine ⟨?_, ?_⟩
  · intro s tag band mode on i o list inState
    rw [exec_checkOutBand on]
    refine ⟨fun bad => ?_, fun nonzero small none_ => ?_, ?_⟩
    · rw [checkOutBand, if_pos bad]
      rfl
    · rw [checkOutBand, if_neg (not_or.mpr ⟨nonzero, not_lt.mpr small⟩), State.band?_taken, none_]
      rfl
    · intro e nonzero small found busy remain
      rw [checkOutBand_of_found (not_or.mpr ⟨nonzero, not_lt.mpr small⟩) ((s.band?_taken i band).trans found)]
      simp only [State.taken_unit]
      split
      · rfl
      · split
        · rfl
        · exact ⟨_, _, rfl⟩
  · intro s tag band mode e on inv i o nonzero small found still empty
    have books := State.booksInv_taken ((tenancyInv_iff s).mp inv).1 i
    have found' := (s.band?_taken i band).trans found
    obtain ⟨mem, at_⟩ := State.mem_of_band? found'
    obtain ⟨units, dir, same⟩ := checkOut_spec books mem at_
    have held : ∀ u ∈ e.holdings, (s.unit u).holder = some band := fun u hu => by
      have := (books.2.1 u band ((books.2.2 e mem).2 u hu)).mpr ⟨e, mem, at_, hu⟩
      rwa [State.taken_unit] at this
    rw [exec_checkOutBand on, checkOutBand_of_found (not_or.mpr ⟨nonzero, not_lt.mpr small⟩) found']
    simp only [State.taken_unit]
    rw [if_neg, if_neg]
    · refine ⟨_, congrArg Host.Outcome.next ?_, by rw [dir, State.taken_dir], fun u hu => ?_, fun u hu => ?_, same⟩
      · rw [State.answered_ok, holdingsBytes_eq_holdingsListed]
      · rw [units, if_pos hu, State.taken_unit]
        have freed : (s.unit u).freed = { s.unit u with holder := none, overstayReported := false } := by
          rw [UnitRecord.freed, held u hu]
          rfl
        unfold UnitRecord.checkedOut
        rw [freed]
        rfl
      · rw [units, if_neg hu, State.taken_unit]
    · exact fun ⟨free, some_⟩ => some_ (List.filter_eq_nil_iff.mpr fun u hu => by simpa using empty free u hu)
    · exact not_not.mpr (List.filter_eq_nil_iff.mpr fun u hu => by simpa using still u hu)

/-! ## TRANSFER_HOLDINGS -/

/-- What a holdings list says rests on the configuration and the state of its units. -/
theorem State.holdingsListed_congr {s t : State} (same : ∀ u, (t.unit u).config = (s.unit u).config ∧ (t.unit u).state = (s.unit u).state)
    (us : List Nat) : t.holdingsListed us = s.holdingsListed us := by
  simp only [State.holdingsListed, (same _).1, (same _).2]

/-- TRANSFER_HOLDINGS between bands with entries, check by check (R50). -/
theorem transferHoldings_of_found {old new : BandId} (sound : ¬(old = 0 ∨ new = 0 ∨ old = new)) {a b : Band} (ha : s.band? old = some a)
    (hb : s.band? new = some b) :
    transferHoldings old new s =
      if b.lost = true then s.refuse .bandLost
      else if b.expired = true then s.refuse .bandExpired
      else if b.lockers < s.heldOf b.holdings .locker + s.heldOf a.holdings .locker
          ∨ b.cabins < s.heldOf b.holdings .cabin + s.heldOf a.holdings .cabin then s.refuse .allowanceExceeded
      else if a.holdings.filter (fun u => [UnitState.locking, .unlocking].contains (s.unit u).state) ≠ [] then
        s.refuseWith .unitBusy (entries u8 (a.holdings.filter fun u => [UnitState.locking, .unlocking].contains (s.unit u).state))
      else (s.transfer old new a.holdings).ok (s.holdingsListed (b.holdings ++ a.holdings)) := by
  have busy : s.moving = fun u => [UnitState.locking, .unlocking].contains (s.unit u).state := funext s.moving_eq_contains
  obtain ⟨units, -⟩ := transfer_spec s (fun same => sound (.inr (.inr same))) a.holdings
  have listed : (s.transfer old new a.holdings).holdingsBytes (b.holdings ++ a.holdings) = s.holdingsListed (b.holdings ++ a.holdings) := by
    rw [holdingsBytes_eq_holdingsListed]
    refine State.holdingsListed_congr (fun u => ?_) _
    rw [units]
    split <;> exact ⟨rfl, rfl⟩
  unfold transferHoldings
  rw [if_neg sound]
  simp only [ha, hb, busy, List.isEmpty_iff, ne_eq, listed, State.exceeds, Band.allowance, kindCount_eq_heldOf, decide_eq_true_eq]

/-- Settles O35: the refusals of R50 in their order, and then what the transfer writes. -/
theorem transferMovesEveryHolding : Obligations.TransferMovesEveryHolding := by
  intro s tag old new on i o held list
  rw [exec_transferHoldings on]
  by_cases bad : old = 0 ∨ new = 0 ∨ old = new
  · rw [if_pos bad, transferHoldings, if_pos bad]
    rfl
  rw [if_neg bad]
  split
  case h_2 other =>
    unfold transferHoldings
    rw [if_neg bad, State.band?_taken, State.band?_taken]
    split
    case h_1 a b ha hb => exact absurd hb (other a b ha)
    case h_2 => rfl
  case h_1 a b ha hb =>
    rw [transferHoldings_of_found bad ((s.band?_taken i old).trans ha) ((s.band?_taken i new).trans hb)]
    have listed : (s.taken i).holdingsListed (b.holdings ++ a.holdings) = s.holdingsListed (b.holdings ++ a.holdings) :=
      State.holdingsListed_congr (fun u => by rw [State.taken_unit]; exact ⟨rfl, rfl⟩) _
    have heldOf : ∀ e k, held e k = s.heldOf e.holdings k := fun _ _ => rfl
    simp only [State.heldOf_congr (State.taken_units s _), State.taken_unit, listed, heldOf]
    split
    · rfl
    · split
      · rfl
      · split
        · rfl
        · split
          · rfl
          · obtain ⟨units, dir, same⟩ := transfer_spec (s.taken i) (fun same => bad (.inr (.inr same))) a.holdings
            refine ⟨(s.taken i).transfer old new a.holdings, rfl, ?_, fun u => by rw [units, State.taken_unit], same⟩
            rw [dir, State.taken_dir]
            rfl

/-! ## REPORT_LOST, QUERY_BAND, LIST_BANDS and CLEAR_DIRECTORY -/

theorem State.bandBytes_congr {s t : State} (h : t.units = s.units) (e : Band) : t.bandBytes e = s.bandBytes e := by
  have same : ∀ u, (t.unit u).config = (s.unit u).config ∧ (t.unit u).state = (s.unit u).state := fun u => by
    rw [State.unit_congr h]
    exact ⟨rfl, rfl⟩
  simp only [State.bandBytes, State.heldOf_congr h, State.holdingsListed_congr same]

theorem Band.selected_iff (e : Band) (selection : Byte) : e.selected selection = true ↔
    (selection.getLsbD 0 = true → e.lost = true) ∧ (selection.getLsbD 1 = true → e.provisional = true)
      ∧ (selection.getLsbD 2 = true → e.expired = true) ∧ (selection.getLsbD 3 = true → e.holdings ≠ []) := by
  have imp : ∀ b c : Bool, (!b || c) = true ↔ (b = true → c = true) := by decide
  simp only [Band.selected, Bool.and_eq_true, imp, Bool.not_eq_true', List.isEmpty_eq_false_iff, ne_eq, and_assoc]

theorem Band.entry_eq (e : Band) : e.entry = u32 e.id.toNat ++ classByte e.cls ++ u8 e.group ++ flag e.expired ++ flag e.lost ++ flag e.provisional
    ++ u8 e.holdings.length := by
  rw [Band.entry, u8_classCode]

/-- Settles O36: each request read off its definition, with the entries and the selection in the words of the rules. -/
theorem bandsAreMarkedListedAndCleared : Obligations.BandsAreMarkedListedAndCleared := by
  intro s tag band start selection on r q l c named found holding
  refine ⟨?_, ?_, ?_, ?_⟩
  · rw [exec_reportLost on]
    refine congrArg Host.Outcome.next ?_
    unfold reportLost
    rw [State.band?_taken, State.answered_ite]
    refine if_congr Iff.rfl rfl ?_
    cases s.dir.find? (·.id == band) with
    | none => rfl
    | some e =>
      dsimp only
      rw [holdingsBytes_eq_holdingsListed, State.holdingsListed_congr (s := s) fun u => by rw [State.taken_unit]; exact ⟨rfl, rfl⟩, State.modBand_taken]
      rfl
  · rw [exec_queryBand on]
    refine congrArg Host.Outcome.next ?_
    unfold queryBand
    rw [State.band?_taken, State.answered_ite]
    refine if_congr Iff.rfl rfl ?_
    cases s.dir.find? (·.id == band) with
    | none => rfl
    | some e =>
      dsimp only
      rw [bandReport_eq_bandBytes, State.bandBytes_congr (State.taken_units s _)]
      rfl
  · rw [exec_listBands on]
    refine congrArg Host.Outcome.next ?_
    unfold listBands
    rw [State.answered_ite]
    refine if_congr Iff.rfl rfl ?_
    have selects : (fun e : Band => decide (start ≤ e.id) && e.selected selection) = fun e => decide (start.toNat ≤ e.id.toNat ∧ named e) := by
      funext e
      rw [Bool.eq_iff_iff, Bool.and_eq_true, decide_eq_true_eq, decide_eq_true_eq, Band.selected_iff]
      exact Iff.rfl
    have entry : Band.entry = fun e => u32 e.id.toNat ++ classByte e.cls ++ u8 e.group ++ flag e.expired ++ flag e.lost ++ flag e.provisional
        ++ u8 e.holdings.length := funext Band.entry_eq
    dsimp only
    rw [State.taken_dir, selects, entry, State.answered_ok]
    rfl
  · rw [exec_clearDirectory on]
    refine congrArg Host.Outcome.next ?_
    unfold clearDirectory
    rw [State.taken_arb, State.taken_dir, State.answered_ite]
    refine if_congr Iff.rfl rfl ?_
    have empty : (fun e : Band => !e.holdings.isEmpty) = fun e => decide (e.holdings ≠ []) := by
      funext e
      rw [Bool.eq_iff_iff]
      simp
    dsimp only
    rw [empty]
    change s.answered c (if ¬holding.isEmpty = true then
      (s.taken c).refuseWith .holdingsRemain (u8 holding.length ++ u32 (holding.head?.elim 0 (·.id.toNat)))
      else ((s.taken c).setDir []).ok (u16 s.dir.length)) = _
    cases holding with
    | nil => rfl
    | cons e rest => rfl

end Sys2Proof.Machine
end


section
/-! PROOF. What a change of a unit's configuration keeps: rosters, tenancy and the other laws (R21 to R25, R125). -/

set_option Elab.async false

namespace Sys2Proof.Machine

variable {ls : List Law} {s t : State}

/-! ## Rosters -/

theorem State.addrs_eq (s : State) (i : StringId) : (s.str i).nodes.map (·.addr) = (s.str i).addrs := rfl

/-- Where the addresses of the rosters and the places of the units are the same, so is their law. -/
theorem rosterInv_of_keeps (inv : s.RosterInv) (kept : Keeps [.rosters, .places] s t) : t.RosterInv := by
  have addrs : ∀ i, (t.str i).nodes.map (·.addr) = (s.str i).nodes.map (·.addr) := kept .rosters (by simp)
  have places : ∀ u, t.unitNode u = s.unitNode u := kept .places (by simp)
  simpa only [State.RosterInv, addrs, places] using inv

theorem keeps_addNode_rosters (s : State) (i : StringId) (addr : Nat) :
    Keeps [.rosters, .places] (s.setStr i { s.str i with nodes := insertNode (NodeRecord.added addr) (s.str i).nodes }) (s.addNode i addr) := by
  unfold State.addNode
  dsimp only
  split
  · exact keeps_beginRound (keeps_enterString Keeps.refl { states := by simp, scores := by simp }) i
  · exact Keeps.refl

theorem keeps_removeNode_rosters (s : State) (i : StringId) (addr : Nat) :
    Keeps [.rosters, .places] (s.setStr i { s.str i with
      nodes := (s.str i).nodes.filter (·.addr != addr), exchange := (s.str i).exchange.map (Exchange.staleIf addr) }) (s.removeNode i addr) := by
  unfold State.removeNode
  dsimp only
  split
  · refine keeps_enterString Keeps.refl ?_
    exact
      { flight := by simp
        addrs := fun _ => by rw [State.str_setStr_self]; rfl
        states := by simp
        scores := by simp
        held := by simp
        moves := by simp }
  · exact keeps_sendNext Keeps.refl i

theorem State.addrs_addNode (s : State) (i j : StringId) (addr : Nat) : ((s.addNode i addr).str j).addrs
    = if j = i then (insertNode (NodeRecord.added addr) (s.str i).nodes).map (·.addr) else (s.str j).addrs := by
  have kept : ((s.addNode i addr).str j).addrs = _ := keeps_addNode_rosters s i addr .rosters (by simp) j
  rw [kept, State.str_setStr]
  split <;> rfl

theorem State.addrs_removeNode (s : State) (i j : StringId) (addr : Nat) : ((s.removeNode i addr).str j).addrs
    = if j = i then ((s.str i).nodes.filter (·.addr != addr)).map (·.addr) else (s.str j).addrs := by
  have kept : ((s.removeNode i addr).str j).addrs = _ := keeps_removeNode_rosters s i addr .rosters (by simp) j
  rw [kept, State.str_setStr]
  split <;> rfl

theorem State.unitNode_addNode (s : State) (i : StringId) (addr u : Nat) : (s.addNode i addr).unitNode u = s.unitNode u :=
  keeps_addNode_rosters s i addr .places (by simp) u

theorem State.unitNode_removeNode (s : State) (i : StringId) (addr u : Nat) : (s.removeNode i addr).unitNode u = s.unitNode u :=
  keeps_removeNode_rosters s i addr .places (by simp) u

/-- The rosters stand in ascending order, within the node addresses, with the addresses that `named` gives. -/
def State.RostersAre (s : State) (named : StringId → Nat → Prop) : Prop :=
  ∀ i, (s.str i).addrs.Pairwise (· < ·) ∧ ∀ a, (a ∈ (s.str i).addrs → 1 ≤ a ∧ a ≤ 60) ∧ (a ∈ (s.str i).addrs ↔ named i a)

theorem State.RostersAre.addNode {named : StringId → Nat → Prop} (inv : s.RostersAre named) {i : StringId} {addr : Nat} (fresh : ¬named i addr)
    (low : 1 ≤ addr) (high : addr ≤ 60) : (s.addNode i addr).RostersAre fun j a => named j a ∨ (j = i ∧ a = addr) := by
  intro j
  obtain ⟨asc, mem⟩ := inv j
  rw [State.addrs_addNode]
  by_cases same : j = i
  · subst same
    rw [if_pos rfl]
    refine ⟨insertNode_ascending _ _ asc fun there => fresh ((mem addr).2.mp there), fun a => ⟨fun h => ?_, ?_⟩⟩
    · rcases (mem_insertNode_addrs _ _ a).mp h with rfl | old
      · exact ⟨low, high⟩
      · exact (mem a).1 old
    · refine (mem_insertNode_addrs _ _ a).trans ((or_congr Iff.rfl (mem a).2).trans ?_)
      simp [or_comm]
  · rw [if_neg same]
    exact ⟨asc, fun a => ⟨(mem a).1, (mem a).2.trans (by simp [same])⟩⟩

theorem State.RostersAre.removeNode {named : StringId → Nat → Prop} (inv : s.RostersAre named) (i : StringId) (addr : Nat) :
    (s.removeNode i addr).RostersAre fun j a => named j a ∧ ¬(j = i ∧ a = addr) := by
  intro j
  obtain ⟨asc, mem⟩ := inv j
  rw [State.addrs_removeNode]
  by_cases same : j = i
  · subst same
    rw [if_pos rfl]
    refine ⟨leave_ascending _ addr asc, fun a => ⟨fun h => (mem a).1 ((mem_leave_addrs _ addr a).mp h).2, ?_⟩⟩
    refine (mem_leave_addrs _ addr a).trans ((and_congr Iff.rfl (mem a).2).trans ?_)
    simp [and_comm]
  · rw [if_neg same]
    exact ⟨asc, fun a => ⟨(mem a).1, (mem a).2.trans (by simp [same])⟩⟩

theorem rosterInv_iff (s : State) : s.RosterInv ↔ s.RostersAre (fun i a => ∃ u, isUnit u ∧ s.unitNode u = some (i, a))
    ∧ ∀ u v, isUnit u → isUnit v → s.unitNode u ≠ none → s.unitNode u = s.unitNode v → u = v := Iff.rfl

theorem State.RostersAre.congr {named other : StringId → Nat → Prop} (inv : s.RostersAre named) (same : ∀ i a, named i a ↔ other i a) :
    s.RostersAre other := fun i => ⟨(inv i).1, fun a => ⟨((inv i).2 a).1, ((inv i).2 a).2.trans (same i a)⟩⟩

/-- The rosters after a unit's node has moved: the unit names the new place, and every other unit the place it named (R125). -/
theorem rosterInv_moveNode (inv : s.RosterInv) {u : Nat} (unit : isUnit u) {i : StringId} {addr : Nat} (low : 1 ≤ addr) (high : addr ≤ 60)
    (free : ∀ v, isUnit v → v ≠ u → s.unitNode v ≠ some (i, addr)) {r : State} (strings : r.strings = s.strings)
    (mine : r.unitNode u = some (i, addr)) (others : ∀ v, v ≠ u → r.unitNode v = s.unitNode v) :
    (r.moveNode (s.unitNode u) i addr).RosterInv := by
  obtain ⟨rosters, distinct⟩ := (rosterInv_iff s).mp inv
  have before : r.RostersAre fun i a => ∃ u, isUnit u ∧ s.unitNode u = some (i, a) := fun j => by
    have str : r.str j = s.str j := by rw [State.str, State.str, strings]
    rw [str]
    exact rosters j
  have apart : ∀ v w, isUnit v → isUnit w → r.unitNode v ≠ none → r.unitNode v = r.unitNode w → v = w := by
    intro v w hv hw some_ same
    by_cases v_ : v = u <;> by_cases w_ : w = u
    · rw [v_, w_]
    · rw [v_, mine, others w w_] at same
      exact absurd same.symm (free w hw w_)
    · rw [w_, mine, others v v_] at same
      exact absurd same (free v hv v_)
    · rw [others v v_] at some_
      rw [others v v_, others w w_] at same
      exact distinct v w hv hw some_ same
  have names : ∀ j a, (∃ v, isUnit v ∧ r.unitNode v = some (j, a)) ↔ (j = i ∧ a = addr) ∨ ∃ v, isUnit v ∧ v ≠ u ∧ s.unitNode v = some (j, a) := by
    intro j a
    constructor
    · rintro ⟨v, hv, at_⟩
      by_cases v_ : v = u
      · rw [v_, mine] at at_
        cases at_
        exact .inl ⟨rfl, rfl⟩
      · rw [others v v_] at at_
        exact .inr ⟨v, hv, v_, at_⟩
    · rintro (⟨rfl, rfl⟩ | ⟨v, hv, v_, at_⟩)
      · exact ⟨u, unit, mine⟩
      · exact ⟨v, hv, by rw [others v v_]; exact at_⟩
  have place : ∀ p, s.unitNode u = some p → ∀ v, isUnit v → v ≠ u → s.unitNode v ≠ some p := fun p at_ v hv v_ same =>
    v_ (distinct v u hv unit (by rw [same]; simp) (same.trans at_.symm))
  unfold State.moveNode
  split
  case isTrue stays =>
    refine (rosterInv_iff r).mpr ⟨before.congr fun j a => ?_, apart⟩
    rw [names]
    constructor
    · rintro ⟨v, hv, at_⟩
      by_cases v_ : v = u
      · rw [v_, stays] at at_
        cases at_
        exact .inl ⟨rfl, rfl⟩
      · exact .inr ⟨v, hv, v_, at_⟩
    · rintro (⟨rfl, rfl⟩ | ⟨v, hv, -, at_⟩)
      · exact ⟨u, unit, stays⟩
      · exact ⟨v, hv, at_⟩
  case isFalse moves =>
    have fresh : ¬∃ v, isUnit v ∧ s.unitNode v = some (i, addr) := fun ⟨v, hv, at_⟩ => by
      by_cases v_ : v = u
      · exact moves (v_ ▸ at_)
      · exact free v hv v_ at_
    have joined := before.addNode fresh low high
    dsimp only
    split
    case h_1 none_ =>
      refine (rosterInv_iff _).mpr ⟨joined.congr fun j a => ?_, by simpa only [State.unitNode_addNode] using apart⟩
      simp only [State.unitNode_addNode, names]
      constructor
      · rintro (⟨v, hv, at_⟩ | here)
        · exact .inr ⟨v, hv, fun v_ => by simp [v_, none_] at at_, at_⟩
        · exact .inl here
      · exact fun h => h.elim .inr fun ⟨v, hv, _, at_⟩ => .inl ⟨v, hv, at_⟩
    case h_2 j' a' old =>
      refine (rosterInv_iff _).mpr ⟨(joined.removeNode j' a').congr fun j a => ?_, by simpa only [State.unitNode_removeNode, State.unitNode_addNode] using apart⟩
      simp only [State.unitNode_removeNode, State.unitNode_addNode, names]
      constructor
      · rintro ⟨⟨v, hv, at_⟩ | here, other⟩
        · refine .inr ⟨v, hv, fun v_ => other ?_, at_⟩
          rw [v_, old] at at_
          cases at_
          exact ⟨rfl, rfl⟩
        · exact .inl here
      · rintro (⟨rfl, rfl⟩ | ⟨v, hv, v_, at_⟩)
        · exact ⟨.inr ⟨rfl, rfl⟩, fun ⟨h, h'⟩ => moves (by rw [old, h, h'])⟩
        · exact ⟨.inl ⟨v, hv, at_⟩, fun ⟨h, h'⟩ => place _ old v hv v_ (by rw [at_, h, h'])⟩

/-- A place that a unit no longer names leaves its roster, and every other place is kept (R125). -/
def State.leaveNode (s : State) (old : Option (StringId × Nat)) : State :=
  match old with
  | none => s
  | some (i, addr) => s.removeNode i addr

theorem rosterInv_leaveNode (inv : s.RosterInv) {u : Nat} (unit : isUnit u) {r : State} (strings : r.strings = s.strings)
    (mine : r.unitNode u = none) (others : ∀ v, v ≠ u → r.unitNode v = s.unitNode v) : (r.leaveNode (s.unitNode u)).RosterInv := by
  obtain ⟨rosters, distinct⟩ := (rosterInv_iff s).mp inv
  have before : r.RostersAre fun i a => ∃ u, isUnit u ∧ s.unitNode u = some (i, a) := fun j => by
    have str : r.str j = s.str j := by rw [State.str, State.str, strings]
    rw [str]
    exact rosters j
  have apart : ∀ v w, isUnit v → isUnit w → r.unitNode v ≠ none → r.unitNode v = r.unitNode w → v = w := by
    intro v w hv hw some_ same
    have v_ : v ≠ u := fun h => some_ (h ▸ mine)
    have w_ : w ≠ u := fun h => some_ (same.trans (h ▸ mine))
    rw [others v v_] at some_
    rw [others v v_, others w w_] at same
    exact distinct v w hv hw some_ same
  have names : ∀ j a, (∃ v, isUnit v ∧ r.unitNode v = some (j, a)) ↔ ∃ v, isUnit v ∧ v ≠ u ∧ s.unitNode v = some (j, a) := by
    intro j a
    constructor
    · rintro ⟨v, hv, at_⟩
      have v_ : v ≠ u := fun h => by simp [h, mine] at at_
      exact ⟨v, hv, v_, by rw [← others v v_]; exact at_⟩
    · exact fun ⟨v, hv, v_, at_⟩ => ⟨v, hv, by rw [others v v_]; exact at_⟩
  unfold State.leaveNode
  split
  case h_1 none_ =>
    refine (rosterInv_iff r).mpr ⟨before.congr fun j a => ?_, apart⟩
    rw [names]
    exact exists_congr fun v => and_congr_right fun _ => ⟨fun at_ => ⟨fun h => by simp [h, none_] at at_, at_⟩, And.right⟩
  case h_2 i addr old =>
    refine (rosterInv_iff _).mpr ⟨(before.removeNode i addr).congr fun j a => ?_, by simpa only [State.unitNode_removeNode] using apart⟩
    simp only [State.unitNode_removeNode, names]
    constructor
    · rintro ⟨⟨v, hv, at_⟩, other⟩
      refine ⟨v, hv, fun v_ => other ?_, at_⟩
      rw [v_, old] at at_
      cases at_
      exact ⟨rfl, rfl⟩
    · rintro ⟨v, hv, v_, at_⟩
      refine ⟨⟨v, hv, at_⟩, fun ⟨h, h'⟩ => v_ (distinct v u hv unit (by rw [at_]; simp) (at_.trans ?_))⟩
      rw [old, h, h']

theorem keeps_leaveNode (h : Keeps ls s t) (old : Option (StringId × Nat)) (free : .states ∉ ls) (rosters : .rosters ∉ ls) :
    Keeps ls s (t.leaveNode old) := by
  unfold State.leaveNode
  split
  · exact h
  · exact keeps_removeNode h _ _ free rosters

/-! ## CONFIGURE_UNIT and REMOVE_UNIT -/

/-- The record that an accepted CONFIGURE_UNIT leaves (R22, R8). -/
def UnitRecord.rewritten (r : UnitRecord) (c : UnitConfig) : UnitRecord :=
  if (r.configured c).state = .vacant then { r.configured c with state := (r.configured c).adjusted .vacant } else r.configured c

theorem State.applyConfig_eq (s : State) {u : Nat} (unit : isUnit u) (c : UnitConfig) :
    s.applyConfig u c = ((((s.setUnit u ((s.unit u).rewritten c)).moveNode (s.unitNode u) c.string c.node).dropUnit .evacuation u true).dropUnit
      .closing u true) := by
  have written : (if ((s.modUnit u fun r => r.configured c).unit u).state = .vacant then (s.modUnit u fun r => r.configured c).enter u .vacant
      else s.modUnit u fun r => r.configured c) = s.setUnit u ((s.unit u).rewritten c) := by
    rw [State.modUnit, State.unit_setUnit_self _ unit, State.enter_vacant_setUnit _ unit]
    unfold UnitRecord.rewritten
    split <;> rfl
  unfold State.applyConfig
  dsimp only
  rw [written]

theorem State.removeConfig_eq (s : State) (u : Nat) :
    s.removeConfig u = (((((s.setUnit u UnitRecord.cold).leaveNode (s.unitNode u)).forgetUnit .evacuation u).forgetUnit .closing u).dropUnit
      .evacuation u false).dropUnit .closing u false := by
  unfold State.removeConfig State.leaveNode
  cases s.unitNode u <;> rfl

theorem UnitRecord.rewritten_config (r : UnitRecord) (c : UnitConfig) : (r.rewritten c).config = some c := by
  unfold UnitRecord.rewritten
  split <;> rfl

theorem UnitRecord.rewritten_holder (r : UnitRecord) (c : UnitConfig) : (r.rewritten c).holder = r.holder := by
  unfold UnitRecord.rewritten
  split <;> rfl

theorem UnitRecord.rewritten_intent (r : UnitRecord) (c : UnitConfig) : (r.rewritten c).intent = r.intent := by
  unfold UnitRecord.rewritten
  split <;> rfl

/-- The states in which a unit may be configured or removed (R21, R23). -/
def UnitRecord.Idle (r : UnitRecord) : Prop := r.state = .unconfigured ∨ r.state = .vacant ∨ r.state = .withdrawn

theorem UnitRecord.rewritten_state {r : UnitRecord} (idle : r.Idle) (c : UnitConfig) :
    (r.rewritten c).state = .vacant ∨ (r.rewritten c).state = .occupied ∨ (r.rewritten c).state = .withdrawn := by
  have adjusted := (r.configured c).adjusted_vacant
  have state : (r.configured c).state = if r.state = .unconfigured then .vacant else r.state := rfl
  unfold UnitRecord.rewritten
  split
  · exact adjusted.elim (fun h => .inr (.inl h)) .inl
  case isFalse other =>
    rw [state] at other ⊢
    rcases idle with h | h | h <;> simp_all

theorem UnitRecord.sound_idle {r : UnitRecord} (h : r.sound) (idle : r.Idle) : r.holder = none ∧ r.intent = none ∧ ¬r.moving := by
  unfold UnitRecord.sound at h
  unfold UnitRecord.moving
  rcases idle with state | state | state <;> rw [state] at h ⊢ <;> exact ⟨h.2.1, h.2.2, by simp⟩

theorem UnitRecord.sound_rewritten {r : UnitRecord} (h : r.sound) (idle : r.Idle) (c : UnitConfig) :
    (r.rewritten c).sound ∧ ¬(r.rewritten c).moving := by
  obtain ⟨holder, intent, -⟩ := UnitRecord.sound_idle h idle
  refine UnitRecord.sound_at_rest (by rw [r.rewritten_config]; rfl) (by rw [r.rewritten_intent, intent]) (by rw [r.rewritten_holder, holder]) ?_
  rcases r.rewritten_state idle c with state | state | state <;> simp [state]

/-- A unit that rests without a holder is written anew, without a holder: the law of tenancy stands. -/
theorem tenancyInv_setUnit (inv : s.TenancyInv) {u : Nat} {q : UnitRecord} (holder : (s.unit u).sound → q.holder = (s.unit u).holder)
    (rests : (s.unit u).sound → ¬(s.unit u).moving ∧ q.sound ∧ ¬q.moving) : (s.setUnit u q).TenancyInv := by
  by_cases unit : isUnit u
  case neg => rw [State.setUnit_of_not_isUnit _ unit]; exact inv
  obtain ⟨books, moves⟩ := (tenancyInv_iff s).mp inv
  have sound := moves.2.1 u unit
  obtain ⟨still, qSound, qStill⟩ := rests sound
  refine (tenancyInv_iff _).mpr ⟨?_, movesInv_of_rest moves still qStill fun _ _ => qSound⟩
  exact (booksInv_congr (s.unit_setUnit_of (P := fun r q => q.holder = r.holder) (fun _ => rfl) (holder sound)) (by simp)).mpr books

theorem tenancyInv_applyConfig (inv : s.TenancyInv) {u : Nat} (unit : isUnit u) (idle : (s.unit u).Idle) (c : UnitConfig) :
    (s.applyConfig u c).TenancyInv := by
  rw [State.applyConfig_eq s unit]
  have written : (s.setUnit u ((s.unit u).rewritten c)).TenancyInv :=
    tenancyInv_setUnit inv (fun _ => (s.unit u).rewritten_holder c) fun sound =>
      ⟨(UnitRecord.sound_idle sound idle).2.2, UnitRecord.sound_rewritten sound idle c⟩
  exact tenancyInv_of_keeps written
    (keeps_dropUnit (keeps_dropUnit (keeps_moveNode Keeps.refl _ _ _ (by simp) (by simp)) _ _ _) _ _ _)

theorem tenancyInv_removeConfig (inv : s.TenancyInv) {u : Nat} (idle : (s.unit u).Idle) : (s.removeConfig u).TenancyInv := by
  rw [State.removeConfig_eq]
  have written : (s.setUnit u UnitRecord.cold).TenancyInv :=
    tenancyInv_setUnit inv (fun sound => (UnitRecord.sound_idle sound idle).1.symm) fun sound =>
      ⟨(UnitRecord.sound_idle sound idle).2.2, ⟨rfl, rfl, rfl⟩, by simp [UnitRecord.moving, UnitRecord.cold]⟩
  exact tenancyInv_of_keeps written (keeps_dropUnit (keeps_dropUnit (keeps_forgetUnit (keeps_forgetUnit
    (keeps_leaveNode Keeps.refl _ (by simp) (by simp)) _ _) _ _) _ _ _) _ _ _)

/-- A unit's record changes: the laws that speak of no unit are kept. -/
theorem keeps_setUnit_any (h : Keeps ls s t) (u : Nat) (x : UnitRecord) (free : .moves ∉ ls) (books : .books ∉ ls) (places : .places ∉ ls) :
    Keeps ls s (t.setUnit u x) :=
  h.trans fun _ mem => kept_of_tables (by simp) (fun at_ => absurd (at_ ▸ mem) places) (fun at_ => absurd (at_ ▸ mem) books) fun at_ =>
    free (at_ ▸ mem)

theorem keeps_configureUnit (h : Keeps ls s t) (unit kind string node zone mode interval : Byte) (states : .states ∉ ls) (rosters : .rosters ∉ ls)
    (places : .places ∉ ls) (law : .books ∈ ls ∨ .moves ∈ ls → t.TenancyInv) :
    Keeps ls s (configureUnit unit kind string node zone mode interval t).1 := by
  unfold configureUnit
  dsimp only
  split
  · exact h
  case isFalse isUnit_ =>
    split
    · exact h
    case h_2 c _ =>
      split
      · exact h
      · split
        · exact h
        case isFalse idle =>
          split
          · exact h
          · refine h.with_tenancy (fun ms sub free books => ?_) law fun inv => tenancyInv_applyConfig inv (not_not.mp isUnit_) (not_not.mp idle) c
            change Keeps ms t (t.applyConfig unit.toNat c)
            rw [State.applyConfig_eq t (not_not.mp isUnit_)]
            exact keeps_dropUnit (keeps_dropUnit (keeps_moveNode (keeps_setUnit_any Keeps.refl _ _ free books fun mem => places (sub mem)) _ _ _
              (fun mem => states (sub mem)) fun mem => rosters (sub mem)) _ _ _) _ _ _

theorem keeps_removeUnit (h : Keeps ls s t) (unit : Byte) (states : .states ∉ ls) (rosters : .rosters ∉ ls)
    (places : .places ∉ ls) (law : .books ∈ ls ∨ .moves ∈ ls → t.TenancyInv) : Keeps ls s (removeUnit unit t).1 := by
  unfold removeUnit
  dsimp only
  split
  · exact h
  · split
    · exact h
    · split
      · exact h
      · split
        · exact h
        case isFalse idle =>
          refine h.with_tenancy (fun ms sub free books => ?_) law fun inv => tenancyInv_removeConfig inv (.inr (not_not.mp idle))
          change Keeps ms t (t.removeConfig unit.toNat)
          rw [State.removeConfig_eq]
          exact keeps_dropUnit (keeps_dropUnit (keeps_forgetUnit (keeps_forgetUnit (keeps_leaveNode (keeps_setUnit_any Keeps.refl _ _ free books
            fun mem => places (sub mem)) _ (fun mem => states (sub mem)) fun mem => rosters (sub mem)) _ _) _ _) _ _ _) _ _ _

theorem State.unitNode_setUnit_other (s : State) {u v : Nat} (ne : v ≠ u) (q : UnitRecord) : (s.setUnit u q).unitNode v = s.unitNode v := by
  rw [State.unitNode, State.unit_setUnit_other _ _ ne, State.unitNode]

theorem rosterInv_applyConfig (inv : s.RosterInv) {u : Nat} (unit : isUnit u) {c : UnitConfig} (low : 1 ≤ c.node) (high : c.node ≤ 60)
    (free : ∀ v, isUnit v → v ≠ u → s.unitNode v ≠ some (c.string, c.node)) : (s.applyConfig u c).RosterInv := by
  rw [State.applyConfig_eq s unit]
  refine rosterInv_of_keeps (rosterInv_moveNode inv unit low high free
    ((show Changes [.units] s (s.setUnit u ((s.unit u).rewritten c)) by simp) .strings (by decide)) ?_ fun v ne => s.unitNode_setUnit_other ne _)
    (keeps_dropUnit (keeps_dropUnit Keeps.refl _ _ _) _ _ _)
  rw [State.unitNode, State.unit_setUnit_self _ unit, UnitRecord.rewritten_config]
  rfl

theorem rosterInv_removeConfig (inv : s.RosterInv) {u : Nat} (unit : isUnit u) : (s.removeConfig u).RosterInv := by
  rw [State.removeConfig_eq]
  refine rosterInv_of_keeps (rosterInv_leaveNode inv unit ((show Changes [.units] s (s.setUnit u UnitRecord.cold) by simp) .strings (by decide))
    ?_ fun v ne => s.unitNode_setUnit_other ne _)
    (keeps_dropUnit (keeps_dropUnit (keeps_forgetUnit (keeps_forgetUnit Keeps.refl _ _) _ _) _ _ _) _ _ _)
  rw [State.unitNode, State.unit_setUnit_self _ unit]
  rfl

theorem unitConfig?_range {kind string node zone mode interval : Byte} {c : UnitConfig}
    (h : unitConfig? kind string node zone mode interval = some c) : 1 ≤ c.node ∧ c.node ≤ 60 := by
  unfold unitConfig? at h
  split at h
  · split at h
    case isTrue good =>
      cases h
      exact ⟨good.1, good.2.1⟩
    case isFalse => cases h
  · cases h

theorem addressTaken_eq_false_iff (s : State) (u : Nat) (i : StringId) (addr : Nat) :
    s.addressTaken u i addr = false ↔ ∀ v, isUnit v → v ≠ u → s.unitNode v ≠ some (i, addr) := by
  simp only [State.addressTaken, List.any_eq_false, mem_unitNumbers, Bool.and_eq_true, bne_iff_ne, beq_iff_eq, not_and]

theorem rosterInv_configureUnit (inv : s.RosterInv) (unit kind string node zone mode interval : Byte) :
    (configureUnit unit kind string node zone mode interval s).1.RosterInv := by
  unfold configureUnit
  dsimp only
  split
  · exact inv
  case isFalse isUnit_ =>
    split
    · exact inv
    case h_2 c config =>
      split
      · exact inv
      · split
        · exact inv
        · split
          · exact inv
          case isFalse free =>
            obtain ⟨low, high⟩ := unitConfig?_range config
            exact rosterInv_applyConfig inv (not_not.mp isUnit_) low high ((addressTaken_eq_false_iff s _ _ _).mp (by simpa using free))

theorem rosterInv_removeUnit (inv : s.RosterInv) (unit : Byte) : (removeUnit unit s).1.RosterInv := by
  unfold removeUnit
  dsimp only
  split
  · exact inv
  case isFalse isUnit_ =>
    split
    · exact inv
    · split
      · exact inv
      · split
        · exact inv
        · exact rosterInv_removeConfig inv (not_not.mp isUnit_)

/-! ## Service -/

theorem State.enter_withdrawn_eq (s : State) {u : Nat} (unit : isUnit u) : s.enter u .withdrawn = s.setUnit u { s.unit u with state := .withdrawn } := by
  rw [State.enter_eq s unit, State.enters_of_ne _ _ (by simp [UnitRecord.adjusted])]
  rfl

theorem State.enter_vacant_eq (s : State) {u : Nat} (unit : isUnit u) :
    s.enter u .vacant = s.setUnit u { s.unit u with state := (s.unit u).adjusted .vacant } := by
  have := s.enter_vacant_setUnit unit (s.unit u)
  rwa [State.setUnit_unit_self] at this

/-- A unit at rest without a holder that enters another such state. -/
theorem keeps_reenter (h : Keeps ls s t) {u : Nat} {st : UnitState} (before : (t.unit u).state = .vacant ∨ (t.unit u).state = .withdrawn)
    (after : st ∈ [UnitState.vacant, .occupied, .withdrawn]) : Keeps ls s (t.setUnit u { t.unit u with state := st }) := by
  refine h.with_moves (fun _ free => keeps_setUnit Keeps.refl u rfl (fun _ => rfl) free) fun inv => ?_
  refine movesInv_of_rest inv ?_ ?_ fun _ sound => ?_
  · unfold UnitRecord.moving
    rcases before with state | state <;> simp [state]
  · unfold UnitRecord.moving
    simp only [List.mem_cons, List.not_mem_nil, or_false] at after
    rcases after with rfl | rfl | rfl <;> simp
  · have was : (t.unit u).config.isSome = true ∧ (t.unit u).holder = none ∧ (t.unit u).intent = none := by
      unfold UnitRecord.sound at sound
      rcases before with state | state <;> rw [state] at sound <;> exact sound
    refine (UnitRecord.sound_at_rest (q := { t.unit u with state := st }) was.1 was.2.2 was.2.1 ?_).1
    simp only [List.mem_cons, List.not_mem_nil, or_false] at after ⊢
    tauto

theorem keeps_withdrawUnit (h : Keeps ls s t) (unit : Byte) : Keeps ls s (withdrawUnit unit t).1 := by
  unfold withdrawUnit
  dsimp only
  split
  · exact h
  case isFalse isUnit_ =>
    split
    case h_1 vacant =>
      change Keeps ls s (t.enter unit.toNat .withdrawn)
      rw [State.enter_withdrawn_eq t (not_not.mp isUnit_)]
      exact keeps_reenter h (.inl vacant) (by simp)
    all_goals exact h

theorem keeps_restoreUnit (h : Keeps ls s t) (unit : Byte) : Keeps ls s (restoreUnit unit t).1 := by
  unfold restoreUnit
  dsimp only
  split
  · exact h
  case isFalse isUnit_ =>
    split
    case isTrue withdrawn =>
      change Keeps ls s (t.enter unit.toNat .vacant)
      rw [State.enter_vacant_eq t (not_not.mp isUnit_)]
      refine keeps_reenter h (.inr withdrawn) ?_
      rcases (t.unit unit.toNat).adjusted_vacant with state | state <;> simp [state]
    case isFalse => exact h

theorem keeps_markClean (h : Keeps ls s t) (unit : Byte) : Keeps ls s (markClean unit t).1 := by
  unfold markClean
  dsimp only
  split
  · exact h
  · split
    case isTrue cleaning => exact keeps_cleanUnit h cleaning
    case isFalse => exact h

theorem keeps_queryUnit (h : Keeps ls s t) (unit : Byte) : Keeps ls s (queryUnit unit t).1 := by
  unfold queryUnit
  dsimp only
  split <;> exact h

theorem keeps_listUnits (h : Keeps ls s t) (states : BitVec 16) (filter zone start : Byte) : Keeps ls s (listUnits states filter zone start t).1 := by
  unfold listUnits
  split
  · exact h
  · split
    · exact h
    · split <;> exact h

end Sys2Proof.Machine
end


section
/-! PROOF. What the dispatch requests keep (R83 to R89, R103 to R106), with the tags of demands. -/

set_option Elab.async false

namespace Sys2Proof.Machine

variable {ls : List Law} {s t : State}

/-! ## Tags of demands (R83) -/

/-- The next tag passes over every tag in use; with fewer than 255 demands there is one that is free (R83). -/
theorem advanceTag_spec (tag : Nat) {demands : List Demand} (few : demands.length < 255) : NextTag tag demands (advanceTag tag demands) := by
  let at_ : Nat → Nat := fun k => (tag + k) % 255 + 1
  have free : ∃ k ∈ List.range 255, !demands.any (·.tag == at_ k) := by
    by_contra none_
    push Not at none_
    have nodup : ((List.range 255).map at_).Nodup := List.Nodup.map_on (fun x hx y hy same => by
      simp only [List.mem_range] at hx hy
      simp only [at_] at same
      omega) List.nodup_range
    have sub : (List.range 255).map at_ ⊆ demands.map (·.tag) := fun n mem => by
      obtain ⟨k, hk, rfl⟩ := List.mem_map.mp mem
      obtain ⟨d, hd, same⟩ : ∃ d ∈ demands, d.tag = at_ k := by simpa using none_ k hk
      exact List.mem_map.mpr ⟨d, hd, same⟩
    have := (List.subperm_of_subset nodup sub).length_le
    simp only [List.length_map, List.length_range] at this
    omega
  obtain ⟨k, found⟩ := Option.isSome_iff_exists.mp (List.find?_isSome.mpr free)
  obtain ⟨fits, -, first⟩ := List.find?_range_eq_some.mp found
  have here : advanceTag tag demands = at_ k := by
    rw [advanceTag, List.find?_map]
    exact congrArg (fun o => (o.map at_).getD 1) found
  refine ⟨k, here, ?_, fun j lt => by simpa using first j lt⟩
  rw [here]
  simpa using fits

/-- A next tag stands within 1 to 255, and no outstanding demand has it. -/
theorem queueInv_of_nextTag {a : Arbiter} (arb : s.arb = a) (queue : a.queue.length ≤ 32) (few : a.demands.length ≤ 8)
    (distinct : (a.demands.map (·.tag)).Nodup) {tag : Nat} (next : NextTag tag a.demands a.nextTag) : s.QueueInv := by
  obtain ⟨k, at_, fresh, -⟩ := next
  rw [State.QueueInv, arb]
  refine ⟨queue, few, distinct, by omega, by omega, fun mem => ?_⟩
  obtain ⟨d, hd, same⟩ := List.mem_map.mp mem
  exact fresh d hd same

theorem keeps_nextTag (h : Keeps ls s t) : Keeps ls s t.nextTag :=
  h.with_moves (fun _ free => keeps_setArb Keeps.refl (fun _ => id) fun mem => absurd mem free) fun inv => by
    obtain ⟨⟨queue, few, distinct, -⟩, sound, owed, records, tags⟩ := inv
    have moves : ∀ u, t.nextTag.movements u = t.movements u := movements_congr rfl fun _ => rfl
    exact ⟨queueInv_of_nextTag rfl queue few distinct (advanceTag_spec _ (lt_of_le_of_lt few (by decide))), sound, fun u => (moves u).trans (owed u), records, tags⟩

/-! ## DEMAND and CANCEL_DEMAND -/

/-- The holder of an OPEN_HELD unit is removed and the unit becomes VACANT as adjusted (R86). -/
theorem keeps_removeHolder_enter (h : Keeps ls s t) (u : Nat) (open_ : (t.unit u).state = .openHeld) :
    Keeps ls s ((t.removeHolder u).enter u .vacant) := by
  refine h.with_moves (fun _ free => keeps_enter (keeps_removeHolder Keeps.refl u free) u _ free) fun inv => ?_
  have same : Changes [.units, .dir, .link, .notices, .counters] t ((t.removeHolder u).enter u .vacant) := by simp
  refine movesInv_of_unit inv u (same .arb (by decide)) (fun i => by rw [State.str, State.str, same .strings (by decide)])
    (fun v ne => by rw [State.unit_enter_other _ ne, State.unit_removeHolder_other _ ne]) fun unit sound => ?_
  rw [State.unit_enter_self _ unit, State.unit_removeHolder_self _ unit]
  obtain ⟨config, -, intent⟩ : (t.unit u).config.isSome = true ∧ (t.unit u).holder.isSome = true ∧ (t.unit u).intent = none := by
    unfold UnitRecord.sound at sound
    rwa [open_] at sound
  have freedIntent : (t.unit u).freed.intent = none := by
    unfold UnitRecord.freed
    split <;> exact intent
  have rest := UnitRecord.sound_released (q := { (t.unit u).freed with state := (t.unit u).freed.adjusted .vacant }) config
    (t.unit u).freed_config freedIntent (t.unit u).freed_holder (t.unit u).freed_adjusted_vacant
  exact ⟨rest.1, iff_of_false rest.2 (by simp [UnitRecord.moving, open_])⟩

theorem keeps_freeAtOnce (h : Keeps ls s t) (u : Nat) (open_ : (t.unit u).state = .openHeld) : Keeps ls s (t.freeAtOnce u) :=
  keeps_postUnit (keeps_nextTag (keeps_removeHolder_enter h u open_)) _ _ _ _ _

theorem StaffAction.rests_of_allowed {a : StaffAction} {r : UnitRecord} (h : a.allowed r.state = true) : r.state ≠ .unconfigured ∧ ¬r.moving := by
  refine ⟨fun state => ?_, fun moving => ?_⟩
  · rw [state] at h
    cases a <;> simp [StaffAction.allowed] at h
  · rcases moving with state | state <;>
    · rw [state] at h
      cases a <;> simp [StaffAction.allowed] at h

/-- The Arbiter at an admitted demand (R87). -/
theorem State.admitDemand_arb (s : State) (u : Nat) (a : StaffAction) :
    (s.admitDemand u a).arb
      = { s.arb with
          queue := s.arb.queue ++ [s.recordFor u .staff (some a) none (some s.arb.nextTag)]
          demands := s.arb.demands ++ [{ tag := s.arb.nextTag, unit := u, action := a, inFlight := false }]
          nextTag := advanceTag s.arb.nextTag (s.arb.demands ++ [{ tag := s.arb.nextTag, unit := u, action := a, inFlight := false }])
          grantPass := true } := by
  have arb := s.admitRecord_arb u .staff (some a) none (some s.arb.nextTag)
  simp only [State.admitDemand, State.nextTag, State.setArb_arb, arb]

theorem keeps_admitDemand (h : Keeps ls s t) {u : Nat} {a : StaffAction} (allowed : a.allowed (t.unit u).state = true)
    (few : t.arb.demands.length < 8) (room : t.queueFull = false) : Keeps ls s (t.admitDemand u a) := by
  refine h.with_moves (fun ms free => ?_) fun inv => ?_
  · exact keeps_setArb (keeps_setArb (keeps_admitRecord Keeps.refl u _ _ _ _ free) (fun _ => id) fun mem => absurd mem free) (fun _ => id)
      fun mem => absurd mem free
  · obtain ⟨configured, still⟩ := StaffAction.rests_of_allowed allowed
    have unit : isUnit u := by
      by_contra other
      exact configured (by rw [State.unit_of_not_isUnit _ other]; rfl)
    have arb := t.admitDemand_arb u a
    have long := t.queueFull_eq_false_iff.mp room
    obtain ⟨⟨_, _, distinct, low, high, fresh⟩, sound, -⟩ := id inv
    refine movesInv_of_admission inv (r := t.recordFor u .staff (some a) none (some t.arb.nextTag)) still ?_
      (fun v ne => t.admitRecord_unit_other ne .staff (some a) none (some t.arb.nextTag))
      (t.admitRecord_strings u .staff (some a) none (some t.arb.nextTag)) (congrArg Arbiter.queue arb) ?_ (fun d hd _ => ?_)
      fun staff => absurd rfl staff
    · have self := t.admitRecord_unit (u := u) unit .staff (some a) none (some t.arb.nextTag)
      rw [if_pos rfl] at self
      refine self ▸ UnitRecord.sound_intends (sound u unit) configured still fun lock => ?_
      have open_ : (t.unit u).state = .held ∨ (t.unit u).state = .openHeld := by
        cases a with
        | lockUnit => exact .inr (by simpa [StaffAction.allowed] using allowed)
        | openUnit | freeUnit => cases lock
      exact (UnitRecord.sound_still (sound u unit) configured still).2.2.2.2 open_
    · refine queueInv_of_nextTag arb ?_ ?_ ?_ (advanceTag_spec _ ?_)
      all_goals simp only [List.length_append, List.length_singleton, List.map_append, List.map_singleton]
      · omega
      · omega
      · exact List.nodup_append.mpr ⟨distinct, by simp, fun x hx y hy same => fresh (by rw [List.mem_singleton.mp hy] at same; exact same ▸ hx)⟩
      · omega
    · have : d ∈ t.arb.demands ++ [{ tag := t.arb.nextTag, unit := u, action := a, inFlight := false }] := by
        rwa [arb] at hd
      rcases List.mem_append.mp this with old | new
      · exact .inl old
      · rw [List.mem_singleton.mp new]
        exact .inr ⟨rfl, rfl⟩

theorem keeps_demand (h : Keeps ls s t) (unit action : Byte) : Keeps ls s (demand unit action t).1 := by
  unfold demand
  dsimp only
  split
  · exact h
  · split
    · exact h
    · split
      · exact h
      · split
        · exact h
        case isFalse allowed =>
          split
          case isTrue atOnce => exact keeps_freeAtOnce h _ atOnce.2
          case isFalse =>
            split
            · exact h
            case isFalse few =>
              split
              · exact h
              case isFalse room =>
                exact keeps_admitDemand h (by simpa using allowed) (not_le.mp few) (by simpa using room)

theorem keeps_cancelDemand (h : Keeps ls s t) (tag : Byte) : Keeps ls s (cancelDemand tag t).1 := by
  unfold cancelDemand
  split
  · exact h
  · split
    · exact h
    case h_2 d found =>
      split
      · exact h
      case isFalse idle =>
        refine h.with_moves (fun ms free => ?_) fun inv => ?_
        · exact keeps_dropDemand (keeps_withdrawIntent (keeps_removeRecord Keeps.refl _ free) _ free) _
        · obtain ⟨r, mem, at_, tagged⟩ := inv.2.2.2.1 d (List.mem_of_find?_eq_some found) (by simpa using idle)
          rw [← at_]
          change (((t.removeRecord r.unit).withdrawIntent r.unit).dropDemand d.tag).MovesInv
          rw [removeRecord_withdrawIntent]
          have arb : (t.withdrawIntent r.unit).arb = t.arb :=
            (show Changes [.units, .dir, .link, .notices, .counters] t (t.withdrawIntent r.unit) by simp) .arb (by decide)
          have strings : (t.withdrawIntent r.unit).strings = t.strings :=
            (show Changes [.units, .dir, .link, .notices, .counters] t (t.withdrawIntent r.unit) by simp) .strings (by decide)
          have all : (((t.withdrawIntent r.unit).removeRecord r.unit).dropDemand d.tag).arb
              = { t.arb with queue := t.arb.queue.filter (·.unit != r.unit), demands := t.arb.demands.filter (·.tag != d.tag) } := by
            simp only [State.dropDemand, State.removeRecord, State.setArb_arb, arb]
          refine movesInv_of_removal inv mem ?_ ?_ (by rw [all]) (fun e he _ => ?_) (fun u => State.flights_congr strings u)
            (fun v ne => State.unit_withdrawIntent_other t ne) (inv.withdrawIntent_unit (inv.of_record mem).1)
          · rw [all]
          · rw [all]; exact List.filter_sublist
          · rw [all] at he
            have other : e.tag ≠ d.tag := by simpa using (List.mem_filter.mp he).2
            rw [tagged]
            simpa using other

/-! ## QUIESCE, RESUME and the closing-urgency timer -/

theorem keeps_quiesce (h : Keeps ls s t) : Keeps ls s (quiesce t).1 := by
  unfold quiesce
  split
  · split
    · exact keeps_enterQuiesced h
    · exact keeps_setArb_like h
  · exact h

theorem keeps_resume (h : Keeps ls s t) : Keeps ls s (resume t).1 := by
  unfold resume
  split
  · exact h
  · exact keeps_startPass (keeps_setArb_like h)

theorem keeps_urgencyExpiry (h : Keeps ls s t) : Keeps ls s t.urgencyExpiry := by
  unfold State.urgencyExpiry
  split
  · exact keeps_startPass (keeps_setArb_like h)
  · exact h

theorem keeps_queryDispatch (h : Keeps ls s t) (start : Byte) : Keeps ls s (queryDispatch start t).1 := by
  unfold queryDispatch
  split <;> exact h

end Sys2Proof.Machine
end


section
/-! PROOF. What the requests of the supply, the strings, the sweeps, the clock and the reports keep, and the acts of lines, ticks and timers. -/

set_option Elab.async false

namespace Sys2Proof.Machine

variable {ls : List Law} {s t : State}

/-! ## Updates of many strings, of the desk, and of a unit's minutes -/

theorem keeps_mapStrings (h : Keeps ls s t) {f : StringCtl → StringCtl} (like : ∀ c : StringCtl, c.Like (f c)) : Keeps ls s (t.setStrings (t.strings.map f)) :=
  h.trans fun _ _ => kept_of_like (by simp) (fun which => kept_figures which (by simp) rfl) fun i => by
    have : (t.setStrings (t.strings.map f)).str i = f (t.str i) := PerString.get_map f t.strings i
    rw [this]
    exact like _

/-- An act on the Desk Link and the Notice Queue alone. -/
theorem Keeps.desk (h : Keeps ls s t) {r : State} (same : Changes [.link, .notices, .counters] t r) (link : .link ∈ ls → Law.link.kept t r)
    (notices : .notices ∈ ls → t.NoticeInv → r.NoticeInv) : Keeps ls s r :=
  h.trans fun l mem => by
    have strings : ∀ i, r.str i = t.str i := fun i => by rw [State.str, State.str, same .strings (by decide)]
    have unit : ∀ u, r.unit u = t.unit u := State.unit_congr (same .units (by decide))
    have arb : r.arb = t.arb := same .arb (by decide)
    have sweeps : r.sweeps = t.sweeps := same .sweeps (by decide)
    have dir : r.dir = t.dir := same .dir (by decide)
    cases l
    case link => exact link mem
    case notices => exact notices mem
    case inFlight => exact fun i => by rw [strings]; exact id
    case rosters => exact fun i => by rw [strings]
    case places => exact fun u => by rw [State.unitNode, unit, State.unitNode]
    case states => exact fun i => by rw [strings]; exact ⟨rfl, rfl⟩
    case held => exact fun inv i => by rw [strings, arb]; exact inv i
    case scores => exact fun inv i => by rw [strings]; exact inv i
    case sweeps => exact fun inv => by simpa only [State.SweepInv, sweeps] using inv
    case books => exact (booksInv_congr (fun u => by rw [unit]) (by rw [dir])).mpr
    case moves =>
      have moves : ∀ u, r.movements u = t.movements u := movements_congr (by rw [arb]) fun i => by rw [strings]
      exact fun inv => by simpa only [State.MovesInv, State.QueueInv, unit, arb, moves] using inv
    case figures | supply | lines | account => exact kept_figures (by simp [Law.ofFigures]) (same.mono (by decide)) (congrArg Sweeps.alarm sweeps)

/-- A field of a unit that no law speaks of. -/
theorem keeps_modUnit_like (h : Keeps ls s t) (u : Nat) {f : UnitRecord → UnitRecord}
    (state : ∀ r, (f r).state = r.state := by intro; rfl) (config : ∀ r, (f r).config = r.config := by intro; rfl)
    (holder : ∀ r, (f r).holder = r.holder := by intro; rfl) (intent : ∀ r, (f r).intent = r.intent := by intro; rfl) :
    Keeps ls s (t.modUnit u f) :=
  h.with_moves (fun _ free => keeps_modUnit Keeps.refl u free config holder) fun inv => by
    have same : Changes [.units] t (t.modUnit u f) := by simp
    refine movesInv_of_unit inv u (same .arb (by decide)) (fun i => by rw [State.str, State.str, same .strings (by decide)])
      (fun v ne => State.unit_setUnit_other _ _ ne) fun unit sound => ?_
    have self : (t.modUnit u f).unit u = f (t.unit u) := State.unit_setUnit_self _ unit _
    rw [self]
    exact ⟨(UnitRecord.sound_congr (state _) (config _) (holder _) (intent _)).mpr sound, by rw [UnitRecord.moving, state, UnitRecord.moving]⟩

/-! ## The supply -/

/-- THROTTLED re-evaluated against new watermarks agrees with the account and with them (R117). -/
theorem supplyInv_applySupply (s : State) {p : SupplyParams} (good : p.good = true) : (s.applySupply p).SupplyInv := by
  have lt := SupplyParams.lw_lt_hw good
  have account : (s.applySupply p).supply.account = s.supply.account := rfl
  have throttled : (s.applySupply p).supply.throttled = throttledAfterSet p s.supply.account s.supply.throttled := rfl
  have params : (s.applySupply p).params.supply = p := rfl
  rw [State.SupplyInv, account, throttled, params, throttledAfterSet]
  refine ⟨good, ?_⟩
  by_cases high : p.hw ≤ s.supply.account
  · rw [if_pos high]
    exact ⟨by simp, fun _ => lt_of_lt_of_le lt high⟩
  · rw [if_neg high]
    refine ⟨fun _ => not_le.mp high, ?_⟩
    split
    · simp
    case isFalse above => exact fun _ => not_le.mp above

theorem keeps_applySupply (h : Keeps ls s t) {p : SupplyParams} (good : p.good = true) : Keeps ls s (t.applySupply p) := by
  have same : Changes [.params, .supply] t
      ((t.setParams { t.params with supply := p }).setSupply
        { t.supply with throttled := throttledAfterSet p t.supply.account t.supply.throttled }) := by simp
  exact keeps_startPass (h.figured (same.mono (by decide)) (fun _ => id) (fun _ _ => supplyInv_applySupply t good) fun _ => rfl)

theorem keeps_setSupplyGroup (h : Keeps ls s t) (kL kC : BitVec 16) (d : Byte) (lw hw c : BitVec 16) :
    Keeps ls s (setSupplyGroup kL kC d lw hw c t).1 := by
  unfold setSupplyGroup
  dsimp only
  split
  case isTrue good => exact keeps_applySupply h good
  case isFalse => exact h

theorem keeps_querySupply (h : Keeps ls s t) (clear : Byte) : Keeps ls s (querySupply clear t).1 := by
  unfold querySupply
  split
  · exact h
  · exact h
  · exact keeps_setSupply h (fun _ => id) fun _ => ⟨rfl, rfl⟩

/-- A drain tick keeps the law of the account: THROTTLED clears exactly at the low watermark (R114, R115). -/
theorem supplyInv_drainTick (inv : s.SupplyInv) : s.drainTick.SupplyInv := by
  obtain ⟨good, clear, set_⟩ := inv
  have lt := SupplyParams.lw_lt_hw good
  have account : s.drainTick.supply.account = s.supply.account - s.params.supply.d := rfl
  have throttled : s.drainTick.supply.throttled
      = throttledAfterDrain s.params.supply (s.supply.account - s.params.supply.d) s.supply.throttled := rfl
  have params : s.drainTick.params = s.params := rfl
  rw [State.SupplyInv, account, throttled, params, throttledAfterDrain]
  refine ⟨good, fun now => ?_, fun now => ?_⟩
  · rcases Bool.and_eq_false_iff.mp now with was | low
    · exact lt_of_le_of_lt (Nat.sub_le _ _) (clear was)
    · exact lt_of_le_of_lt (by simpa using low) lt
  · exact not_le.mp (by simpa using (Bool.and_eq_true_iff.mp now).2)

theorem keeps_drainTick (h : Keeps ls s t) : Keeps ls s t.drainTick :=
  keeps_startPass (keeps_setSupply h (fun _ => supplyInv_drainTick) (fun _ => ⟨rfl, rfl⟩) fun _ => Nat.sub_le _ _)

theorem keeps_takeSupplyLow (h : Keeps ls s t) (asserted : Bool) (free : .lines ∉ ls) : Keeps ls s (t.takeSupplyLow asserted) := by
  unfold State.takeSupplyLow
  split
  · exact h
  · split
    · refine keeps_post (keeps_setSupply h ?_ fun mem => absurd mem free) _
      exact fun _ => id
    · refine keeps_startPass (keeps_post (keeps_setSupply h ?_ fun mem => absurd mem free) _)
      exact fun _ => id

theorem keeps_takeCurrentLimit (h : Keeps ls s t) (asserted : Bool) (free : .lines ∉ ls) : Keeps ls s (t.takeCurrentLimit asserted) := by
  unfold State.takeCurrentLimit
  split
  · exact h
  · split
    · refine keeps_mapStrings (t := t.setSupply { t.supply with limitLevel := true, limitSeen := true })
        (keeps_setSupply h (fun _ => id) fun mem => absurd mem free) fun c => ?_
      exact ⟨by simp [StringCtl.markLimited, Function.comp_def], rfl, rfl, rfl, id⟩
    · exact keeps_setSupply h (fun _ => id) fun mem => absurd mem free

/-! ## The strings -/

theorem keeps_setStringsGroup (h : Keeps ls s t) (base mult allowance : Byte) (settle gap : BitVec 16) (auto interval : Byte) :
    Keeps ls s (setStringsGroup base mult allowance settle gap auto interval t).1 := by
  unfold setStringsGroup
  split
  · exact h
  · dsimp only
    split
    case isTrue good =>
      unfold State.applyStrings
      dsimp only [State.ok]
      split
      · exact keeps_setParams h rfl fun _ _ time link => ⟨good, time, link⟩
      · refine keeps_mapStrings (keeps_setParams h ?_ ?_) fun c => ?_
        · rfl
        · exact fun _ _ time link => ⟨good, time, link⟩
        exact ⟨rfl, rfl, rfl, rfl, id⟩
    case isFalse => exact h

theorem keeps_restartString (h : Keeps ls s t) (string : Byte) (free : .states ∉ ls) : Keeps ls s (restartString string t).1 := by
  unfold restartString
  split
  · exact h
  · split
    case isTrue off => exact keeps_restart h _ (fun _ => by simp [off]) free
    case isFalse => exact h

theorem keeps_resetString_request (h : Keeps ls s t) (string : Byte) (free : .states ∉ ls) : Keeps ls s (resetString string t).1 := by
  unfold resetString
  split
  · exact h
  · exact keeps_resetString h _ free

theorem StringCtl.like_clearLatches (c : StringCtl) (listed : List Nat) : c.Like (c.clearLatches listed) := by
  refine ⟨rfl, ?_, rfl, rfl, id⟩
  unfold StringCtl.addrs StringCtl.clearLatches
  rw [List.map_map]
  refine List.map_congr_left fun n _ => ?_
  rw [Function.comp_apply]
  split <;> rfl

theorem keeps_queryString (h : Keeps ls s t) (string start clear : Byte) : Keeps ls s (queryString string start clear t).1 := by
  unfold queryString
  split
  · split
    · dsimp only [State.ok]
      split
      · exact keeps_setStr h (StringCtl.like_clearLatches _ _)
      · exact h
    · exact h
  · exact h

theorem keeps_roundExpiry (h : Keeps ls s t) (i : StringId) : Keeps ls s (t.roundExpiry i) := by
  unfold State.roundExpiry
  dsimp only
  split
  · exact h
  · split
    · exact keeps_setStr h ⟨rfl, rfl, rfl, rfl, id⟩
    · exact keeps_beginRound h i

theorem keeps_recoveryExpiry (h : Keeps ls s t) (i : StringId) (free : .states ∉ ls) : Keeps ls s (t.recoveryExpiry i) := by
  unfold State.recoveryExpiry
  split
  case isTrue off => exact keeps_restart h i (fun _ => by simp [off.2]) free
  case isFalse => exact h

theorem keeps_settleExpiry (h : Keeps ls s t) (i : StringId) : Keeps ls s (t.settleExpiry i) := by
  unfold State.settleExpiry
  split
  · exact keeps_complete h i _ _
  · exact h

theorem keeps_gapExpiry (h : Keeps ls s t) (i : StringId) : Keeps ls s (t.gapExpiry i) := by
  unfold State.gapExpiry
  split
  · exact keeps_startPass (keeps_setStr h ⟨rfl, rfl, rfl, rfl, id⟩)
  · exact h

/-! ## The sweeps -/

theorem keeps_takeAlarm (h : Keeps ls s t) (asserted : Bool) (free : .lines ∉ ls) : Keeps ls s (t.takeAlarm asserted) := by
  unfold State.takeAlarm
  split
  · exact h
  · dsimp only
    have noted : Keeps ls s (t.setSweeps { t.sweeps with alarm := asserted }) :=
      h.trans fun l mem => by
        cases l
        case lines => exact absurd mem free
        case account => exact le_refl t.supply.account
        case link => exact ⟨t.link.ageTimer, rfl⟩
        case states => exact fun _ => ⟨rfl, rfl⟩
        case rosters | places => exact fun _ => rfl
        case inFlight => exact fun _ => id
        all_goals exact id
    split
    · split
      · exact noted
      · exact keeps_startEvacuation noted
    · exact keeps_startPass noted

theorem keeps_releaseZone (h : Keeps ls s t) (zone filter : Byte) : Keeps ls s (releaseZone zone filter t).1 := by
  unfold releaseZone
  split
  · exact h
  · split
    · exact h
    · split
      · exact h
      · exact keeps_startClosing h _ _ _

theorem StringCtl.like_detachClosing (c : StringCtl) : c.Like c.detachClosing := by
  refine ⟨?_, rfl, rfl, rfl, id⟩
  unfold StringCtl.detachClosing
  dsimp only
  rw [Option.map_map]
  refine congrArg (fun f => c.inFlight.map f) (funext fun f => ?_)
  rw [Function.comp_apply]
  split <;> rfl

theorem keeps_stopSweep (h : Keeps ls s t) : Keeps ls s (stopSweep t).1 := by
  unfold stopSweep
  split
  · exact keeps_endSweep (keeps_mapStrings h StringCtl.like_detachClosing) _ _
  · exact h

theorem keeps_pauseExpiry (h : Keeps ls s t) (k : SlotId) : Keeps ls s (t.pauseExpiry k) := by
  unfold State.pauseExpiry
  split
  case isTrue paused => exact keeps_nextPass h paused
  case isFalse => exact h

theorem keeps_querySweep (h : Keeps ls s t) (slot : Byte) : Keeps ls s (querySweep slot t).1 := by
  unfold querySweep
  split <;> exact h

/-! ## The clock and the ticks -/

theorem keeps_advanceClock (h : Keeps ls s t) : Keeps ls s t.advanceClock := by
  unfold State.advanceClock
  split
  · exact h
  · split
    case isTrue before => exact keeps_setTime h fun _ _ => before
    case isFalse => exact keeps_post (keeps_setTime h fun _ _ => Nat.zero_le _) _

theorem keeps_secondTick (h : Keeps ls s t) : Keeps ls s t.secondTick := by
  unfold State.secondTick
  dsimp only
  split
  · exact keeps_startClosing (keeps_advanceClock h) _ _ _
  · exact keeps_advanceClock h

theorem keeps_closingTime (h : Keeps ls s t) : Keeps ls s t.closingTime := by
  unfold State.closingTime
  split
  · exact keeps_secondTick h
  · exact h

theorem keeps_dwellUnit (h : Keeps ls s t) (u : Nat) : Keeps ls s (t.dwellUnit u) := by
  unfold State.dwellUnit
  split
  · exact h
  · dsimp only
    split
    · exact keeps_modUnit_like h u
    · split
      · exact keeps_postUnit (keeps_modUnit_like (keeps_modUnit_like h u) u) _ _ _ _ _
      · exact keeps_modUnit_like h u

theorem keeps_occupancyUnit (h : Keeps ls s t) (u : Nat) : Keeps ls s (t.occupancyUnit u) := by
  unfold State.occupancyUnit
  split
  · dsimp only
    split
    · exact keeps_postUnit (keeps_modUnit_like (keeps_modUnit_like h u) u) _ _ _ _ _
    · exact keeps_modUnit_like h u
  · exact h

theorem keeps_minuteTick (h : Keeps ls s t) : Keeps ls s t.minuteTick := by
  have counted : Keeps ls s (t.setTime { t.time with minuteCount := satInc Config.counterTop t.time.minuteCount }) := keeps_setTime h fun _ => id
  exact counted.trans (Keeps.foldl (fun _ u => keeps_occupancyUnit (keeps_dwellUnit Keeps.refl u) u) _ _)

theorem Band.countDown_book (e : Band) : e.countDown.id = e.id ∧ e.countDown.holdings = e.holdings := by
  unfold Band.countDown
  split <;> exact ⟨rfl, rfl⟩

theorem keeps_countDown (h : Keeps ls s t) : Keeps ls s t.countDown := by
  unfold State.countDown
  have counted : Keeps ls s (t.setDir (t.dir.map Band.countDown)) := h.with_moves (fun _ free => keeps_setDir Keeps.refl _ free fun _ => ?_) id
  · exact counted.trans (Keeps.foldl (fun _ e => keeps_post Keeps.refl _) _ _)
  rw [List.map_map]
  exact List.map_congr_left fun e _ => Prod.ext e.countDown_book.1 e.countDown_book.2

theorem keeps_expireBand (h : Keeps ls s t) (b : BandId) : Keeps ls s (t.expireBand b) := by
  unfold State.expireBand
  split
  · exact h
  · split
    · exact keeps_post (keeps_modBand h b Band.countDown_book) _
    · exact h

theorem keeps_setTimeGroup (h : Keeps ls s t) (closing : BitVec 24) (enable : Byte) (urgency : BitVec 16) (evacLockers : Byte)
    (guest child family staff : BitVec 16) (occupancy : Byte) :
    Keeps ls s (setTimeGroup closing enable urgency evacLockers guest child family staff occupancy t).1 := by
  unfold setTimeGroup
  split
  · dsimp only
    split
    case isTrue good => exact keeps_setParams h rfl fun _ strings _ link => ⟨strings, good, link⟩
    case isFalse => exact h
  · exact h

theorem keeps_setClock (h : Keeps ls s t) (second : BitVec 24) : Keeps ls s (setClock second t).1 := by
  unfold setClock
  split
  case isTrue => exact h
  case isFalse day => exact keeps_setTime h fun _ _ => not_lt.mp day

/-! ## Notices, census and the link's own requests -/

theorem noticeInv_fetch (inv : s.NoticeInv) {n : Nat} : (s.fetch n).NoticeInv := by
  obtain ⟨few, -, -, preset, held⟩ := inv
  have timer : (s.fetch n).link.ageTimer = s.link.ageTimer.afterFetch (s.notices.stored.drop n).isEmpty s.params.link.ageLimit := rfl
  have state : (s.fetch n).link.state = s.link.state := rfl
  have stored : (s.fetch n).notices.stored = s.notices.stored.drop n := rfl
  refine ⟨?_, rfl, Nat.zero_le _, ?_, ?_⟩
  · rw [stored, List.length_drop]; omega
  · rw [timer, stored]
    cases age : s.link.ageTimer with
    | preset => exact fun _ => by rw [preset age, List.drop_nil]
    | held => exact fun h => absurd h (by simp [AgeTimer.afterFetch])
    | running left => simp [AgeTimer.afterFetch]
  · rw [timer, state, ← held]
    cases age : s.link.ageTimer with
    | preset | held => simp [AgeTimer.afterFetch]
    | running left =>
      simp only [AgeTimer.afterFetch, reduceCtorEq, iff_false]
      split <;> simp

theorem keeps_fetchNotices (h : Keeps ls s t) (count : Byte) : Keeps ls s (fetchNotices count t).1 := by
  unfold fetchNotices
  dsimp only
  split
  · exact h
  · exact h.desk (r := t.fetch count.toNat) (by simp) (fun _ => ⟨_, rfl⟩) fun _ inv => noticeInv_fetch inv

theorem keeps_setNoticeEnables (h : Keeps ls s t) (marks : BitVec 24) : Keeps ls s (setNoticeEnables marks t).1 :=
  h.apart (r := t.setEnables _) (by simp)

theorem keeps_census (h : Keeps ls s t) : Keeps ls s (census t).1 := h.apart (r := t.setCensus _) (by simp)

theorem keeps_readCensus (h : Keeps ls s t) (sect : Byte) : Keeps ls s (readCensus sect t).1 := by
  unfold readCensus
  split
  · exact h
  · split
    · exact h
    · split <;> exact h

theorem keeps_clearCounters (h : Keeps ls s t) (selection : Byte) : Keeps ls s (clearCounters selection t).1 := by
  unfold clearCounters
  split
  · exact h
  · exact keeps_count h _

theorem keeps_setLinkGroup (h : Keeps ls s t) (age policy : Byte) : Keeps ls s (setLinkGroup age policy t).1 := by
  unfold setLinkGroup
  split
  · exact h
  · dsimp only
    split
    case isTrue good => exact keeps_setParams h rfl fun _ strings time _ => ⟨strings, time, good⟩
    case isFalse => exact h

theorem keeps_getParameters (h : Keeps ls s t) (group : Byte) : Keeps ls s (getParameters group t).1 := by
  unfold getParameters
  split <;> exact h

end Sys2Proof.Machine
end


section
/-! PROOF. What every command keeps: the acts of the Desk Link and of the requests that frames carry, and the commands but the starts. -/

set_option Elab.async false

namespace Sys2Proof.Machine

variable {ls : List Law} {s t : State}

/-! ## The Desk Link -/

/-- An act on the Desk Link that leaves its state and its age timer. -/
theorem keeps_setLink (h : Keeps ls s t) {x : DeskLink} (free : .link ∉ ls) (state : x.state = t.link.state := by rfl)
    (timer : x.ageTimer = t.link.ageTimer := by rfl) : Keeps ls s (t.setLink x) :=
  h.desk (by simp) (fun mem => absurd mem free) fun _ inv => by
    have state' : (t.setLink x).link.state = t.link.state := state
    have timer' : (t.setLink x).link.ageTimer = t.link.ageTimer := timer
    have notices : (t.setLink x).notices = t.notices := rfl
    rw [State.NoticeInv, notices, state', timer']
    exact inv

theorem State.post_notices_setLink (s : State) (x : DeskLink) (d : NoticeData) : ((s.setLink x).post d).notices = (s.post d).notices := by
  have enabled : (s.setLink x).kindEnabled d.kind = s.kindEnabled d.kind := rfl
  have notices : (s.setLink x).notices = s.notices := rfl
  unfold State.post
  rw [enabled, notices]
  split
  · rfl
  · split <;> rfl

/-- With the link LINKED and its timer running, the law of the notices is that of the queue alone. -/
theorem noticeInv_running {left : Nat} (inv : s.NoticeInv) (notices : t.notices = s.notices) (state : t.link.state = .linked)
    (timer : t.link.ageTimer = .running left) : t.NoticeInv := by
  obtain ⟨few, attn, dropped, -, -⟩ := inv
  rw [State.NoticeInv, notices, state, timer]
  exact ⟨few, attn, dropped, by simp, by simp⟩

theorem noticeInv_relink (inv : s.NoticeInv) : s.relink.NoticeInv := by
  have posted := noticeInv_post inv { kind := .linkState, code := .link .linked, value := some s.provisionalCount }
  refine noticeInv_running posted (State.post_notices_setLink s { s.link with state := .linked } _) ?_ rfl
  obtain ⟨timer, same⟩ := State.post_link (s.setLink { s.link with state := .linked })
    { kind := .linkState, code := .link .linked, value := some s.provisionalCount }
  change (State.post _ _).link.state = _
  exact (congrArg DeskLink.state same).trans rfl

theorem keeps_linkReturn (h : Keeps ls s t) (free : .link ∉ ls) : Keeps ls s t.linkReturn := by
  unfold State.linkReturn
  split
  · exact h.desk (by simp) (fun mem => absurd mem free) fun _ => noticeInv_relink
  · exact h

theorem keeps_takeInHand (h : Keeps ls s t) (f : Frame) {act : State → State × Answer} (free : .link ∉ ls)
    (acts : ∀ r, Changes [.link, .notices, .counters] t r → Keeps ls s r → Keeps ls s (act r).1) : Keeps ls s (t.takeInHand f act) := by
  unfold State.takeInHand State.formReply
  dsimp only
  refine keeps_setLink (acts _ ?_ (keeps_linkReturn (keeps_setLink h free) free)) free
  simp

theorem keeps_badFrame (h : Keeps ls s t) : Keeps ls s t.badFrame := keeps_count h _

theorem keeps_hunt (h : Keeps ls s t) (free : .link ∉ ls) : Keeps ls s t.hunt := keeps_setLink h free

theorem keeps_character (h : Keeps ls s t) (byte : Byte) (framingFault : Bool) (free : .link ∉ ls) : Keeps ls s (t.character byte framingFault) := by
  unfold State.character
  split
  · split
    · exact keeps_setLink h free
    · exact h
  · split
    · exact keeps_badFrame (keeps_hunt h free)
    · unfold State.assemble
      split
      · exact keeps_badFrame (keeps_hunt h free)
      · split <;> exact keeps_setLink h free

theorem keeps_gapTimeout (h : Keeps ls s t) (free : .link ∉ ls) : Keeps ls s t.gapTimeout := by
  unfold State.gapTimeout
  split
  · exact h
  · exact keeps_badFrame (keeps_hunt h free)

/-- The link enters STANDALONE with its timer HELD (R196). -/
theorem noticeInv_standalone (inv : s.NoticeInv) : (s.setLink { s.link with state := .standalone, ageTimer := .held }).NoticeInv := by
  obtain ⟨few, attn, dropped, -, -⟩ := inv
  exact ⟨few, attn, dropped, by simp, by simp⟩

theorem keeps_ageExpiry (h : Keeps ls s t) (free : .link ∉ ls) : Keeps ls s t.ageExpiry := by
  unfold State.ageExpiry
  split
  · exact keeps_post (h.desk (by simp) (fun mem => absurd mem free) fun _ => noticeInv_standalone) _
  · exact h

/-! ## The requests -/

section
variable {body : List Byte}

theorem keeps_bodyless (h : Keeps ls s t) {act : State → State × Answer} (acts : Keeps ls s (act t).1) : Keeps ls s (bodyless act body t).1 := by
  unfold bodyless
  split
  · exact acts
  · exact h

theorem keeps_oneByte (h : Keeps ls s t) {act : Byte → State → State × Answer} (acts : ∀ x, Keeps ls s (act x t).1) :
    Keeps ls s (oneByte act body t).1 := by
  unfold oneByte
  split
  · exact acts _
  · exact h

theorem keeps_twoBytes (h : Keeps ls s t) {act : Byte → Byte → State → State × Answer} (acts : ∀ x y, Keeps ls s (act x y t).1) :
    Keeps ls s (twoBytes act body t).1 := by
  unfold twoBytes
  split
  · exact acts _ _
  · exact h

theorem keeps_threeBytes (h : Keeps ls s t) {act : Byte → Byte → Byte → State → State × Answer} (acts : ∀ x y z, Keeps ls s (act x y z t).1) :
    Keeps ls s (threeBytes act body t).1 := by
  unfold threeBytes
  split
  · exact acts _ _ _
  · exact h

theorem keeps_bandOnly (h : Keeps ls s t) {act : BandId → State → State × Answer} (acts : ∀ b, Keeps ls s (act b t).1) :
    Keeps ls s (bandOnly act body t).1 := by
  unfold bandOnly
  split
  · exact acts _
  · exact h

theorem keeps_threeByteNumber (h : Keeps ls s t) {act : BitVec 24 → State → State × Answer} (acts : ∀ n, Keeps ls s (act n t).1) :
    Keeps ls s (threeByteNumber act body t).1 := by
  unfold threeByteNumber
  split
  · exact acts _
  · exact h

theorem keeps_setParameters (h : Keeps ls s t) : Keeps ls s (setParameters body t).1 := by
  unfold setParameters
  split
  · exact h
  · split
    · split
      · exact keeps_setSupplyGroup h _ _ _ _ _ _
      · exact h
    · split
      · exact keeps_setStringsGroup h _ _ _ _ _ _ _
      · exact h
    · split
      · exact keeps_setTimeGroup h _ _ _ _ _ _ _ _ _
      · exact h
    · split
      · exact keeps_setLinkGroup h _ _
      · exact h
    · exact h

end

/-- The request of a frame keeps every law but the state of a string; the two that amend rosters apart, the rosters and the places of the units too. -/
theorem keeps_requestAct (h : Keeps ls s t) (f : Frame) (states : .states ∉ ls)
    (rosters : .rosters ∈ ls ∨ .places ∈ ls → f.type.toNat ≠ 0x10 ∧ f.type.toNat ≠ 0x11)
    (law : .books ∈ ls ∨ .moves ∈ ls → t.TenancyInv) : Keeps ls s (requestAct f t).1 := by
  unfold requestAct
  split
  · exact h
  case h_2 act owner =>
    unfold requestOf at owner
    have amends : (f.type.toNat = 0x10 ∨ f.type.toNat = 0x11) → .rosters ∉ ls ∧ .places ∉ ls := fun amends =>
      ⟨fun mem => amends.elim (rosters (.inl mem)).1 (rosters (.inl mem)).2, fun mem => amends.elim (rosters (.inr mem)).1 (rosters (.inr mem)).2⟩
    split at owner <;> cases owner
    case h_1 => exact keeps_bodyless h h
    case h_2 => exact keeps_setParameters h
    case h_3 => exact keeps_oneByte h (keeps_getParameters h)
    case h_4 type =>
      unfold configureUnitBody
      split
      · exact keeps_configureUnit h _ _ _ _ _ _ _ states (amends (.inl type)).1 (amends (.inl type)).2 law
      · exact h
    case h_5 type => exact keeps_oneByte h fun _ => keeps_removeUnit h _ states (amends (.inr type)).1 (amends (.inr type)).2 law
    case h_6 => exact keeps_oneByte h (keeps_withdrawUnit h)
    case h_7 => exact keeps_oneByte h (keeps_restoreUnit h)
    case h_8 => exact keeps_oneByte h (keeps_markClean h)
    case h_9 => exact keeps_oneByte h (keeps_queryUnit h)
    case h_10 =>
      unfold listUnitsBody
      split
      · exact keeps_listUnits h _ _ _ _
      · exact h
    case h_11 =>
      unfold registerBandBody
      split
      · exact keeps_registerBand h _ _ _ _ _ _
      · exact h
    case h_12 =>
      unfold amendBandBody
      split
      · exact keeps_amendBand h _ _
      · exact h
    case h_13 =>
      unfold checkOutBandBody
      split
      · exact keeps_checkOutBand h _ _ law
      · exact h
    case h_14 => exact keeps_bandOnly h (keeps_reportLost h)
    case h_15 =>
      unfold transferBody
      split
      · exact keeps_transferHoldings h _ _ law
      · exact h
    case h_16 => exact keeps_bandOnly h (keeps_queryBand h)
    case h_17 =>
      unfold listBandsBody
      split
      · exact keeps_listBands h _ _
      · exact h
    case h_18 => exact keeps_bodyless h (keeps_clearDirectory h)
    case h_19 => exact keeps_twoBytes h (keeps_demand h)
    case h_20 => exact keeps_oneByte h (keeps_cancelDemand h)
    case h_21 => exact keeps_bodyless h (keeps_quiesce h)
    case h_22 => exact keeps_bodyless h (keeps_resume h)
    case h_23 => exact keeps_oneByte h (keeps_queryDispatch h)
    case h_24 => exact keeps_oneByte h (keeps_querySupply h)
    case h_25 => exact keeps_oneByte h fun _ => keeps_restartString h _ states
    case h_26 => exact keeps_oneByte h fun _ => keeps_resetString_request h _ states
    case h_27 => exact keeps_threeBytes h (keeps_queryString h)
    case h_28 => exact keeps_twoBytes h (keeps_releaseZone h)
    case h_29 => exact keeps_bodyless h (keeps_stopSweep h)
    case h_30 => exact keeps_oneByte h (keeps_querySweep h)
    case h_31 => exact keeps_threeByteNumber h (keeps_setClock h)
    case h_32 => exact keeps_bodyless h h
    case h_33 => exact keeps_oneByte h (keeps_fetchNotices h)
    case h_34 => exact keeps_threeByteNumber h (keeps_setNoticeEnables h)
    case h_35 => exact keeps_bodyless h (keeps_census h)
    case h_36 => exact keeps_oneByte h (keeps_readCensus h)
    case h_37 => exact keeps_oneByte h (keeps_clearCounters h)

end Sys2Proof.Machine
end


section
/-! PROOF. The frames that are handled, and every command but the starts. -/

set_option Elab.async false

namespace Sys2Proof.Machine

variable {ls : List Law} {s t : State}

theorem tenancyInv_of_desk (inv : s.TenancyInv) (same : Changes [.link, .notices, .counters] s t) : t.TenancyInv :=
  tenancyInv_of_keeps inv (Keeps.refl.desk same (by simp) (by simp))

/-! ## Frames -/

theorem keeps_takeInHand_requestAct (h : Keeps ls s t) (f : Frame) (link : .link ∉ ls) (states : .states ∉ ls)
    (rosters : .rosters ∈ ls ∨ .places ∈ ls → f.type.toNat ≠ 0x10 ∧ f.type.toNat ≠ 0x11)
    (law : .books ∈ ls ∨ .moves ∈ ls → t.TenancyInv) : Keeps ls s (t.takeInHand f (requestAct f)) :=
  keeps_takeInHand h f link fun _ same kept => keeps_requestAct kept f states rosters fun mem => tenancyInv_of_desk (law mem) same

theorem keeps_placeFrame (h : Keeps ls s t) (f : Frame) (link : .link ∉ ls) (states : .states ∉ ls)
    (rosters : .rosters ∈ ls ∨ .places ∈ ls → f.type.toNat ≠ 0x10 ∧ f.type.toNat ≠ 0x11)
    (law : .books ∈ ls ∨ .moves ∈ ls → t.TenancyInv) : Keeps ls s (t.placeFrame f) := by
  unfold State.placeFrame
  split
  · exact keeps_count (keeps_setLink h link) _
  · split
    · exact keeps_badFrame h
    · split
      · exact keeps_setLink h link
      · exact keeps_takeInHand_requestAct h f link states rosters law

theorem keeps_frameComplete (h : Keeps ls s t) (link : .link ∉ ls) (states : .states ∉ ls) (rosters : .rosters ∉ ls) (places : .places ∉ ls)
    (law : .books ∈ ls ∨ .moves ∈ ls → t.TenancyInv) : Keeps ls s t.frameComplete := by
  unfold State.frameComplete
  split
  · exact h
  · exact keeps_placeFrame (keeps_setLink h link) _ link states (fun mem => absurd mem (not_or.mpr ⟨rosters, places⟩)) fun mem =>
      tenancyInv_of_desk (law mem) (by simp)

theorem keeps_replyEnd (h : Keeps ls s t) (link : .link ∉ ls) (states : .states ∉ ls) (rosters : .rosters ∉ ls) (places : .places ∉ ls)
    (law : .books ∈ ls ∨ .moves ∈ ls → t.TenancyInv) : Keeps ls s t.replyEnd := by
  unfold State.replyEnd
  split
  · exact h
  · dsimp only
    have off : Keeps ls s (t.setLink { t.link with reply := none, inHand := none }) := keeps_setLink h link
    split
    · exact off
    · exact keeps_takeInHand_requestAct (keeps_setLink off link) _ link states (fun mem => absurd mem (not_or.mpr ⟨rosters, places⟩)) fun mem =>
        tenancyInv_of_desk (law mem) (by simp)

/-- A request keeps the law of the rosters, whichever it is. -/
theorem rosterInv_requestAct (inv : s.RosterInv) (f : Frame) : (requestAct f s).1.RosterInv := by
  by_cases amends : f.type.toNat = 0x10 ∨ f.type.toNat = 0x11
  · unfold requestAct
    rcases amends with type | type <;> rw [type]
    · change (configureUnitBody f.body s).1.RosterInv
      unfold configureUnitBody
      split
      · exact rosterInv_configureUnit inv _ _ _ _ _ _ _
      · exact inv
    · change (oneByte removeUnit f.body s).1.RosterInv
      unfold oneByte
      split
      · exact rosterInv_removeUnit inv _
      · exact inv
  · exact rosterInv_of_keeps inv (keeps_requestAct Keeps.refl f (by simp) (fun _ => not_or.mp amends) (by simp))

theorem rosterInv_takeInHand (inv : s.RosterInv) (f : Frame) : (s.takeInHand f (requestAct f)).RosterInv := by
  have returned : Keeps [.rosters, .places] s (s.setLink { s.link with inHand := some f }).linkReturn :=
    keeps_linkReturn (keeps_setLink Keeps.refl (by simp)) (by simp)
  have acted := rosterInv_requestAct (rosterInv_of_keeps inv returned) f
  unfold State.takeInHand State.formReply
  exact rosterInv_of_keeps acted (keeps_setLink Keeps.refl (by simp))

theorem rosterInv_placeFrame (inv : s.RosterInv) (f : Frame) : (s.placeFrame f).RosterInv := by
  unfold State.placeFrame
  split
  · exact rosterInv_of_keeps inv (keeps_count (keeps_setLink Keeps.refl (by simp)) _)
  · split
    · exact rosterInv_of_keeps inv (keeps_badFrame Keeps.refl)
    · split
      · exact rosterInv_of_keeps inv (keeps_setLink Keeps.refl (by simp))
      · exact rosterInv_takeInHand inv f

theorem rosterInv_frameComplete (inv : s.RosterInv) : s.frameComplete.RosterInv := by
  unfold State.frameComplete
  split
  · exact inv
  · exact rosterInv_placeFrame (rosterInv_of_keeps inv (keeps_setLink Keeps.refl (by simp))) _

theorem rosterInv_replyEnd (inv : s.RosterInv) : s.replyEnd.RosterInv := by
  unfold State.replyEnd
  split
  · exact inv
  · dsimp only
    have off : Keeps [.rosters, .places] s (s.setLink { s.link with reply := none, inHand := none }) := keeps_setLink Keeps.refl (by simp)
    split
    · exact rosterInv_of_keeps inv off
    · exact rosterInv_takeInHand (rosterInv_of_keeps inv (keeps_setLink off (by simp))) _

/-! ## The commands -/

theorem keeps_whenOn {act : State → State} (acts : Keeps ls s (act t)) (h : Keeps ls s t) : Keeps ls s (t.whenOn act) := by
  unfold State.whenOn
  split
  · exact acts
  · exact h

theorem keeps_setPins (h : Keeps ls s t) (x : Pins) (free : .lines ∉ ls) : Keeps ls s (t.setPins x) :=
  h.figured (by simp) (fun _ => id) (fun _ => id) fun mem => absurd mem free

theorem keeps_setPower (h : Keeps ls s t) (x : Power) (free : .lines ∉ ls) : Keeps ls s (t.setPower x) :=
  h.figured (by simp) (fun _ => id) (fun _ => id) fun mem => absurd mem free

theorem keeps_line {x : Pins} {act : State → State} (acts : ∀ {r}, Keeps ls s r → .lines ∉ ls → Keeps ls s (act r)) (free : .lines ∉ ls) :
    Keeps ls s ((s.setPins x).whenOn act) :=
  keeps_whenOn (acts (keeps_setPins Keeps.refl x free) free) (keeps_setPins Keeps.refl x free)

/-- The commands that put an actuation in flight, or that let the lines go on that are held for a grant pass. -/
def isGrant (c : Instr) : Prop := c = .grantRecord ∨ c = .grantSweepCandidate

/-- The commands that start the part. -/
def isStart (c : Instr) : Prop := c = .powerUp ∨ c = .resetPulse

/-- The commands by which a roster can be amended (R22, R23). -/
def mayAmend (c : Instr) : Prop := c.frame?.isSome = true ∨ c = .frameComplete ∨ c = .replyEnd

/-- The commands that change the level of a line, or main power. -/
def movesLine : Instr → Prop
  | .alarmLevelChange _ | .supplyLowChange _ | .currentLimitChange _ | .mainPowerLoss _ | .retLoss => True
  | _ => False

/-- A command that carries no request keeps the laws, but for those that its own act is there to move. -/
theorem exec_event_keeps {c : Instr} (event : c.frame? = none) (next : exec c s = .next t) (start : ¬isStart c)
    (link : .link ∉ ls) (states : .states ∉ ls) (grants : .inFlight ∈ ls ∨ .account ∈ ls ∨ .held ∈ ls → ¬isGrant c)
    (amends : .rosters ∈ ls ∨ .places ∈ ls → ¬mayAmend c) (tenancy : .books ∈ ls ∨ .moves ∈ ls → s.TenancyInv) (sweeps : .sweeps ∈ ls → s.SweepInv)
    (lines : .lines ∈ ls → ¬movesLine c) :
    Keeps ls s t := by
  have moves : .books ∈ ls → s.MovesInv := fun mem => ((tenancyInv_iff s).mp (tenancy (.inl mem))).2
  cases c <;> first | (cases event; done) | skip
  all_goals
    cases next
  case powerUp => exact absurd (.inl rfl) start
  case resetPulse => exact absurd (.inr rfl) start
  case alarmLevelChange => exact keeps_line (act := fun s => s.takeAlarm _) (fun h free => keeps_takeAlarm h _ free) (fun mem => lines mem trivial)
  case supplyLowChange => exact keeps_line (act := fun s => s.takeSupplyLow _) (fun h free => keeps_takeSupplyLow h _ free) (fun mem => lines mem trivial)
  case currentLimitChange => exact keeps_line (act := fun s => s.takeCurrentLimit _) (fun h free => keeps_takeCurrentLimit h _ free) (fun mem => lines mem trivial)
  case drainTick => exact keeps_whenOn (keeps_drainTick Keeps.refl) Keeps.refl
  case secondTick => exact keeps_whenOn (keeps_secondTick Keeps.refl) Keeps.refl
  case closingTime => exact keeps_whenOn (keeps_closingTime Keeps.refl) Keeps.refl
  case minuteTick => exact keeps_whenOn (keeps_minuteTick Keeps.refl) Keeps.refl
  case validityCountdown => exact keeps_whenOn (keeps_countDown Keeps.refl) Keeps.refl
  case bandExpired => exact keeps_whenOn (keeps_expireBand Keeps.refl _) Keeps.refl
  case frameComplete =>
    have none_ := fun mem => amends mem (.inr (.inl rfl))
    exact keeps_whenOn (keeps_frameComplete Keeps.refl link states (fun mem => none_ (.inl mem)) (fun mem => none_ (.inr mem)) tenancy) Keeps.refl
  case frameGapTimeout => exact keeps_whenOn (keeps_gapTimeout Keeps.refl link) Keeps.refl
  case replyEnd =>
    have none_ := fun mem => amends mem (.inr (.inr rfl))
    exact keeps_whenOn (keeps_replyEnd Keeps.refl link states (fun mem => none_ (.inl mem)) (fun mem => none_ (.inr mem)) tenancy) Keeps.refl
  case noticeAgeTimerExpiry => exact keeps_whenOn (keeps_ageExpiry Keeps.refl link) Keeps.refl
  case roundTimerExpiry => exact keeps_whenOn (keeps_roundExpiry Keeps.refl _) Keeps.refl
  case nodeReplyGood => exact keeps_whenOn (keeps_endExchange Keeps.refl _ fun x _ h running => keeps_takeReply h _ _ x (fun _ => running) states) Keeps.refl
  case nodeMiss => exact keeps_whenOn (keeps_endExchange Keeps.refl _ fun x _ h running => keeps_takeMiss h _ x _ (fun _ => running) states) Keeps.refl
  case recoveryTimerExpiry => exact keeps_whenOn (keeps_recoveryExpiry Keeps.refl _ states) Keeps.refl
  case settleTimerExpiry => exact keeps_whenOn (keeps_settleExpiry Keeps.refl _) Keeps.refl
  case gapTimerExpiry => exact keeps_whenOn (keeps_gapExpiry Keeps.refl _) Keeps.refl
  case presentationLookup => exact keeps_whenOn (keeps_decide Keeps.refl _ _ _ fun d => keeps_lookupAct Keeps.refl d) Keeps.refl
  case standaloneAdmission => exact keeps_whenOn (keeps_decide Keeps.refl _ _ _ fun d => keeps_admissionAct Keeps.refl d) Keeps.refl
  case presentationUnitAct => exact keeps_whenOn (keeps_decide Keeps.refl _ _ _ fun d => keeps_unitAct Keeps.refl d moves) Keeps.refl
  case grantRecord =>
    have none_ := fun mem => grants mem (.inl rfl)
    exact keeps_whenOn (keeps_lookRecord Keeps.refl (fun mem => none_ (.inl mem)) (fun mem => none_ (.inr (.inl mem))) fun mem => none_ (.inr (.inr mem))) Keeps.refl
  case grantSweepCandidate =>
    have none_ := fun mem => grants mem (.inr rfl)
    exact keeps_whenOn (keeps_lookOffer Keeps.refl (fun mem => none_ (.inl mem)) (fun mem => none_ (.inr (.inl mem))) (fun mem => none_ (.inr (.inr mem)))
      sweeps) Keeps.refl
  case closingUrgencyTimerExpiry => exact keeps_whenOn (keeps_urgencyExpiry Keeps.refl) Keeps.refl
  case sweepWalk => exact keeps_whenOn (keeps_walk Keeps.refl _ _) Keeps.refl
  case pauseTimerExpiry => exact keeps_whenOn (keeps_pauseExpiry Keeps.refl _) Keeps.refl
  case characterReceived => exact keeps_whenOn (keeps_character Keeps.refl _ _ link) Keeps.refl
  case mainPowerLoss =>
    unfold State.powerLoss
    split
    · exact keeps_setPower Keeps.refl _ fun mem => lines mem trivial
    · exact Keeps.refl
  case retLoss =>
    unfold State.retLoss
    split
    · exact Keeps.refl
    · exact keeps_setPower Keeps.refl _ fun mem => lines mem trivial

/-- Every command but the starts keeps the laws, but for those that it is there to move. -/
theorem exec_keeps {c : Instr} (next : exec c s = .next t) (start : ¬isStart c)
    (link : .link ∉ ls) (states : .states ∉ ls) (grants : .inFlight ∈ ls ∨ .account ∈ ls ∨ .held ∈ ls → ¬isGrant c)
    (amends : .rosters ∈ ls ∨ .places ∈ ls → ¬mayAmend c) (tenancy : .books ∈ ls ∨ .moves ∈ ls → s.TenancyInv) (sweeps : .sweeps ∈ ls → s.SweepInv)
    (lines : .lines ∈ ls → ¬movesLine c) :
    Keeps ls s t := by
  cases event : c.frame? with
  | none => exact exec_event_keeps event next start link states grants amends tenancy sweeps lines
  | some f =>
    rw [exec_eq_requestAct event] at next
    cases next
    exact keeps_whenOn (keeps_takeInHand_requestAct Keeps.refl f link states
      (fun mem => absurd (.inl (Option.isSome_iff_exists.mpr ⟨f, event⟩)) (amends mem)) tenancy) Keeps.refl

end Sys2Proof.Machine
end


section
/-! PROOF. What a start gives (R29 to R31), and what the part does of itself (R170, R171): the laws at both. -/

set_option Elab.async false

namespace Sys2Proof.Machine

variable {ls : List Law} {s t : State}

/-! ## The values of a start -/

theorem State.unit_startValues_warm (s : State) (u : Nat) : (s.startValues true).unit u = (s.unit u).warm := by
  by_cases unit : isUnit u
  · simp only [State.unit, dif_pos unit, State.startValues, if_true]
    exact Vector.getElem_map ..
  · rw [State.unit_of_not_isUnit _ unit, State.unit_of_not_isUnit _ unit]
    rfl

theorem State.unit_startValues_cold (s : State) (u : Nat) : (s.startValues false).unit u = .cold := by
  by_cases unit : isUnit u
  · simp only [State.unit, dif_pos unit, State.startValues, Bool.false_eq_true, if_false]
    exact Vector.getElem_replicate ..
  · rw [State.unit_of_not_isUnit _ unit]

theorem State.str_startValues (s : State) (warm : Bool) (i : StringId) :
    (s.startValues warm).str i = .started (rosterOf (s.startValues warm).units i) := by cases i <;> rfl

theorem scoreInv_started (nodes : List NodeRecord) : (StringCtl.started nodes).ScoreInv := by
  unfold StringCtl.ScoreInv StringCtl.started
  cases nodes <;> simp [StringCtl.idle, stateOfScore]

theorem heldInv_startValues (s : State) (warm : Bool) : (s.startValues warm).HeldInv := fun i held => by
  rw [State.str_startValues] at held
  cases held

theorem noticeInv_startValues (s : State) (warm : Bool) : (s.startValues warm).NoticeInv :=
  ⟨Nat.zero_le _, rfl, Nat.zero_le _, fun _ => rfl, by simp [State.startValues]⟩

theorem passInv_cold {limit : Nat} (h : 1 ≤ limit) : SweepSlot.cold.PassInv limit :=
  ⟨fun _ => ⟨rfl, rfl, rfl⟩, by simp [SweepSlot.cold], fun _ => rfl, le_rfl, h, by simp [SweepSlot.cold]⟩

theorem sweepInv_startValues (s : State) (warm : Bool) : (s.startValues warm).SweepInv := ⟨passInv_cold (by decide), passInv_cold (by decide)⟩

theorem figuresInv_default {x : State} (params : x.params = .default) (second : x.time.second = 0) : x.FiguresInv := by
  rw [State.FiguresInv, params, second]
  decide

theorem figuresInv_startValues (inv : s.FiguresInv) (warm : Bool) : (s.startValues warm).FiguresInv := by
  cases warm
  · exact figuresInv_default rfl rfl
  · obtain ⟨strings, time, link, -⟩ := inv
    exact ⟨strings, time, link, Nat.zero_le _⟩

theorem supplyInv_startValues (inv : s.SupplyInv) (warm : Bool) : (s.startValues warm).SupplyInv := by
  have reached : ∀ p : SupplyParams, p.good = true → 0 < p.hw := fun p good => Nat.zero_lt_of_lt (SupplyParams.lw_lt_hw good)
  cases warm
  · have good : Params.default.supply.good = true := by decide
    exact ⟨good, fun _ => reached _ good, by simp [State.startValues]⟩
  · exact ⟨inv.1, fun _ => reached _ inv.1, by simp [State.startValues]⟩

/-- A unit that was moving at a warm start is in doubt (R31). -/
theorem UnitRecord.sound_warm {r : UnitRecord} (h : r.sound) : r.warm.sound ∧ ¬r.warm.moving := by
  by_cases moving : r.moving
  · have state : r.warm.state = .verify := if_pos moving
    exact UnitRecord.sound_stranded h (.inl moving) (.inr state) rfl rfl rfl
  · have state : r.warm.state = r.state := if_neg moving
    refine ⟨(UnitRecord.sound_congr state rfl rfl rfl).mpr h, ?_⟩
    rwa [UnitRecord.moving, state]

theorem sound_cold : UnitRecord.cold.sound ∧ ¬UnitRecord.cold.moving := by
  simp [UnitRecord.sound, UnitRecord.moving, UnitRecord.cold]

theorem booksInv_startValues (inv : s.BooksInv) (warm : Bool) : (s.startValues warm).BooksInv := by
  cases warm
  · refine ⟨⟨List.Pairwise.nil, Nat.zero_le _⟩, fun u b _ => ?_, by simp [State.startValues]⟩
    rw [State.unit_startValues_cold]
    simp [UnitRecord.cold, State.startValues]
  · exact (booksInv_congr (s := s) (t := s.startValues true) (fun u => by rw [State.unit_startValues_warm]; rfl) rfl).mpr inv

theorem movesInv_startValues (inv : s.MovesInv) (warm : Bool) : (s.startValues warm).MovesInv := by
  have unit : ∀ u, isUnit u → ((s.startValues warm).unit u).sound ∧ ¬((s.startValues warm).unit u).moving := by
    intro u unit
    cases warm
    · rw [State.unit_startValues_cold]; exact sound_cold
    · rw [State.unit_startValues_warm]; exact UnitRecord.sound_warm (inv.2.1 u unit)
  have still : ∀ u, ¬((s.startValues warm).unit u).moving := fun u => by
    by_cases one : isUnit u
    · exact (unit u one).2
    · rw [State.unit_of_not_isUnit _ one]; exact sound_cold.2
  have none_ : ∀ u, (s.startValues warm).movements u = 0 := fun u => rfl
  refine ⟨⟨Nat.zero_le _, Nat.zero_le _, List.nodup_nil, le_rfl, (by decide : 1 ≤ 255), by simp [State.startValues]⟩, fun u one => (unit u one).1, fun u => ?_,
    by simp [State.startValues], by simp [State.startValues]⟩
  rw [none_]
  exact (if_neg (still u)).symm

/-! ## The rosters of a start (R151) -/

theorem State.mem_units_iff (s : State) (r : UnitRecord) : r ∈ s.units.toList ↔ ∃ u, isUnit u ∧ s.unit u = r := by
  rw [Vector.mem_toList_iff, Vector.mem_iff_getElem]
  constructor
  · rintro ⟨k, hk, rfl⟩
    refine ⟨k + 1, ⟨by omega, by omega⟩, ?_⟩
    rw [State.unit, dif_pos ⟨by omega, by omega⟩]
    rfl
  · rintro ⟨u, unit, rfl⟩
    refine ⟨u - 1, by obtain ⟨low, high⟩ := unit; omega, ?_⟩
    rw [State.unit, dif_pos unit]

theorem UnitRecord.addrOn_eq_some_iff (r : UnitRecord) (i : StringId) (a : Nat) :
    r.addrOn i = some a ↔ (r.config.map fun c => (c.string, c.node)) = some (i, a) := by
  unfold UnitRecord.addrOn
  cases r.config with
  | none => simp
  | some c => by_cases same : c.string = i <;> simp [Option.filter, same]

/-- Rosters entered from the table of units name what the units name, where no two units share a place. -/
theorem rosterInv_of_units (strings : ∀ i, (s.str i).nodes = rosterOf s.units i)
    (range : ∀ u i a, isUnit u → s.unitNode u = some (i, a) → 1 ≤ a ∧ a ≤ 60)
    (distinct : ∀ u v, isUnit u → isUnit v → s.unitNode u ≠ none → s.unitNode u = s.unitNode v → u = v) : s.RosterInv := by
  refine ⟨fun i => ?_, distinct⟩
  obtain ⟨named, ascending⟩ := enterRoster_foldl i s.units.toList []
  have names : ∀ a, a ∈ (s.str i).nodes.map (·.addr) ↔ ∃ u, isUnit u ∧ s.unitNode u = some (i, a) := by
    intro a
    rw [strings, rosterOf_eq, named]
    simp only [List.map_nil, List.not_mem_nil, false_or, State.mem_units_iff, UnitRecord.addrOn_eq_some_iff]
    constructor
    · rintro ⟨r, ⟨u, unit, rfl⟩, place⟩
      exact ⟨u, unit, place⟩
    · rintro ⟨u, unit, place⟩
      exact ⟨_, ⟨u, unit, rfl⟩, place⟩
  refine ⟨?_, fun a => ⟨fun mem => ?_, names a⟩⟩
  · rw [strings, rosterOf_eq]
    refine ascending List.Pairwise.nil (by simp) (List.pairwise_iff_getElem.mpr fun j k hj hk lt => ?_)
    by_contra shared
    obtain ⟨some_, same⟩ := not_or.mp shared
    rw [not_not] at same
    obtain ⟨a, at_⟩ := Option.ne_none_iff_exists'.mp some_
    have unitAt : ∀ n (h : n < s.units.toList.length), s.unit (n + 1) = s.units.toList[n] := fun n h => by
      have : n < 240 := by simpa using h
      rw [State.unit, dif_pos ⟨by omega, by omega⟩]
      simp
    have place : ∀ n (h : n < s.units.toList.length), s.units.toList[n].addrOn i = some a → s.unitNode (n + 1) = some (i, a) := fun n h at_ => by
      rw [State.unitNode, unitAt n h]
      exact (UnitRecord.addrOn_eq_some_iff _ i a).mp at_
    have hj' : j < 240 := by simpa using hj
    have hk' : k < 240 := by simpa using hk
    have pj := place j hj at_
    have pk := place k hk (same ▸ at_)
    have := distinct (j + 1) (k + 1) ⟨by omega, by omega⟩ ⟨by omega, by omega⟩ (by rw [pj]; simp) (pj.trans pk.symm)
    omega
  · obtain ⟨u, unit, place⟩ := (names a).mp mem
    exact range u i a unit place

theorem rosterInv_startValues (inv : s.RosterInv) (warm : Bool) : (s.startValues warm).RosterInv := by
  obtain ⟨rosters, distinct⟩ := inv
  refine rosterInv_of_units (fun i => by rw [State.str_startValues]; rfl) ?_ ?_
  all_goals cases warm
  · intro u i a _ place
    rw [State.unitNode, State.unit_startValues_cold] at place
    cases place
  · intro u i a unit place
    rw [State.unitNode, State.unit_startValues_warm] at place
    exact ((rosters i).2 a).1 (((rosters i).2 a).2.mpr ⟨u, unit, place⟩)
  · intro u v _ _ some_
    exact absurd (by rw [State.unitNode, State.unit_startValues_cold]; rfl) some_
  · intro u v unit unit' some_ same
    rw [State.unitNode, State.unit_startValues_warm] at some_ same
    rw [State.unitNode, State.unit_startValues_warm] at same
    exact distinct u v unit unit' some_ same

/-! ## A start -/

theorem keeps_firstRound (h : Keeps ls s t) (i : StringId) : Keeps ls s (t.firstRound i) := by
  unfold State.firstRound
  split
  · exact keeps_beginRound h i
  · exact h

/-- What follows the values of a start keeps every law, the levels of the lines apart. -/
theorem keeps_start (s : State) (warm : Bool) (free : .lines ∉ ls) : Keeps ls (s.startValues warm) (s.start warm) := by
  have first : Keeps ls (s.startValues warm)
      (allStrings.foldl State.firstRound ((s.startValues warm).post { kind := .start, code := .start warm })) :=
    (keeps_post Keeps.refl _).trans (Keeps.foldl (fun _ i => keeps_firstRound Keeps.refl i) _ _)
  exact keeps_takeAlarm (keeps_takeSupplyLow (keeps_takeCurrentLimit first _ free) _ free) _ free

/-! ## What the part does of itself -/

theorem StringCtl.like_down (c : StringCtl) : c.Like c.down := ⟨rfl, rfl, rfl, rfl, id⟩

theorem passInv_down {x : SweepSlot} {limit : Nat} (inv : x.PassInv limit) : x.down.PassInv limit := by
  obtain ⟨still, paused, rest⟩ := inv
  exact ⟨still, by simpa [SweepSlot.down, timerDown] using paused, rest⟩

theorem noticeInv_down (inv : s.NoticeInv) {x : DeskLink} (timer : x.ageTimer = s.link.ageTimer.down) (state : x.state = s.link.state) :
    (s.setLink x).NoticeInv := by
  obtain ⟨few, attn, dropped, preset, held⟩ := inv
  have now : (s.setLink x).link = x := rfl
  have notices : (s.setLink x).notices = s.notices := rfl
  rw [State.NoticeInv, now, notices, timer, state]
  refine ⟨few, attn, dropped, ?_, ?_⟩ <;> cases age : s.link.ageTimer <;> simp_all [AgeTimer.down]

theorem keeps_setPending (h : Keeps ls s t) (x : List Instr) : Keeps ls s (t.setPending x) := h.apart (by simp)

theorem keeps_idle (s : State) (free : .link ∉ ls) : Keeps ls s s.idle := by
  unfold State.idle
  split
  · split
    · exact keeps_setPending Keeps.refl _
    · unfold State.millisecond
      dsimp only
      refine keeps_setPending ?_ _
      have timed : Keeps ls s (s.setTime s.time.down) := keeps_setTime Keeps.refl fun _ => id
      have strings := keeps_mapStrings timed StringCtl.like_down
      have evacuation := keeps_setSlot strings (k := .evacuation) (x := s.sweeps.evacuation.down) fun _ => passInv_down
      have closing := keeps_setSlot evacuation (k := .closing) (x := s.sweeps.closing.down) fun _ => passInv_down
      have urgent := keeps_setArb_like closing (a := { s.arb with urgencyTimer := timerDown s.arb.urgencyTimer })
      have linked := urgent.desk (r := State.setLink _ { s.link with ageTimer := s.link.ageTimer.down, receiver := s.link.receiver.down }) (by simp)
        (fun mem => absurd mem free) fun _ inv => noticeInv_down inv rfl rfl
      exact linked
  · exact Keeps.refl

end Sys2Proof.Machine
end


section
/-! PROOF. What a string does next, as the statements write it (R129, R130): the round that is over ends, and the next exchange is sent. -/

set_option Elab.async false

namespace Sys2Proof.Machine

variable {s t : State}

theorem StringCtl.nextVisit_eq (c : StringCtl) : c.nextVisit = c.unvisited.head?.map (·.addr) := by
  unfold StringCtl.nextVisit StringCtl.unvisited
  rw [List.head?_filter]

theorem StringCtl.nextVisit_isNone (c : StringCtl) : c.nextVisit.isNone = c.unvisited.isEmpty := by
  rw [StringCtl.nextVisit_eq]
  cases c.unvisited <;> rfl

theorem State.roundPeriod_eq (s : State) : s.params.strings.period = s.roundPeriod := rfl

/-! ## The next exchange -/

theorem send_eq (s : State) (i : StringId) (addr : Nat) (cmd : NodeCommand) (settle : Bool) :
    s.send i addr cmd settle = s.setStr i ((s.str i).sends addr cmd settle) := by
  have node : s.node? i addr = (s.str i).nodes.find? (·.addr == addr) := rfl
  have presence : s.presence i addr = ((s.str i).nodes.find? (·.addr == addr)).elim .absent (·.presence) := rfl
  unfold State.send StringCtl.sends
  rw [node, presence]
  dsimp only
  cases (s.str i).nodes.find? (·.addr == addr) with
  | none => rfl
  | some n => by_cases live : n.presence = .absent <;> simp [live, Option.filter]

theorem sendRoundPoll_eq (s : State) (i : StringId) (addr : Nat) :
    s.sendRoundPoll i addr = s.setStr i { (s.str i).sends addr .poll false with cursor := some addr } := by
  unfold State.sendRoundPoll
  rw [send_eq, State.setStr_setStr, State.str_setStr_self]
  rfl

theorem chooseNext_eq {i : StringId} (free : (s.str i).exchange = none) :
    s.chooseNext i = s.setStr i (if (s.str i).held then s.str i else (s.str i).chooses) := by
  have self : s.setStr i (s.str i) = s := congrArg s.setStrings (PerString.set_get _ _)
  unfold State.chooseNext StringCtl.chooses StringCtl.roundVisit StringCtl.lineFree
  dsimp only
  rw [free, StringCtl.nextVisit_eq]
  by_cases held : (s.str i).held = true
  · simp [held, self]
  · rw [if_neg (by simp [held]), if_neg held]
    cases (s.str i).inFlight with
    | none =>
      by_cases inRound : (s.str i).inRound = true
      · cases visit : (s.str i).unvisited with
        | nil => simp [inRound, self]
        | cons n rest => simp [inRound, sendRoundPoll_eq]
      · simp [inRound, self]
    | some f =>
      cases phase : f.phase with
      | commanding => cases (if (s.str i).inRound = true then (s.str i).unvisited.head? else none) <;> simp [phase, send_eq]
      | settling =>
        by_cases inRound : (s.str i).inRound = true
        · cases visit : (s.str i).unvisited with
          | nil => simp [inRound, phase, send_eq]
          | cons n rest => by_cases settle : (s.str i).lastSettle = true <;> simp [inRound, phase, settle, send_eq, sendRoundPoll_eq]
        · simp [inRound, phase, send_eq]

/-! ## The round -/

/-- A string once a round that is over has ended, and the next has started where the period has run out (R129). -/
def StringCtl.settled (c : StringCtl) (period : Nat) : StringCtl :=
  if c.roundOver then (if c.roundTimer.isNone then c.closeRound.openRound period else c.closeRound) else c

/-- Whether a round ends late, with an overrun (R129, R203). -/
def StringCtl.late (c : StringCtl) : Bool := c.roundOver && c.roundTimer.isNone

theorem StringCtl.settled_exchange (c : StringCtl) (period : Nat) : (c.settled period).exchange = c.exchange := by
  unfold StringCtl.settled StringCtl.openRound
  dsimp only
  (repeat' split) <;> rfl

theorem StringCtl.settled_held (c : StringCtl) (period : Nat) : (c.settled period).held = c.held := by
  unfold StringCtl.settled StringCtl.openRound
  dsimp only
  (repeat' split) <;> rfl

theorem settleRound_eq (s : State) (i : StringId) :
    s.settleRound i =
      if (s.str i).late then (s.setStr i ((s.str i).settled s.roundPeriod)).countString i fun n => { n with overruns := tally n.overruns }
      else s.setStr i ((s.str i).settled s.roundPeriod) := by
  have self : s.setStr i (s.str i) = s := congrArg s.setStrings (PerString.set_get _ _)
  unfold State.settleRound StringCtl.settled StringCtl.late
  dsimp only
  rw [State.roundPeriod_eq]
  by_cases spent : (s.str i).roundOver = true
  · by_cases late : (s.str i).roundTimer.isNone = true <;> simp [spent, late]
  · simp [spent, self]

/-- A string that goes on, in terms of what its round and its next exchange become. -/
theorem wentOn_eq (s : State) (i : StringId) :
    s.wentOn i =
      if (s.str i).exchange.isSome then s
      else
        let round := (s.str i).settled s.roundPeriod
        let n := s.counters.strings.get i
        { s with
          strings := s.strings.set i (if (s.str i).held = true then round else round.chooses)
          counters := { s.counters with
            strings := s.counters.strings.set i { n with overruns := if (s.str i).late then min 4294967295 (n.overruns + 1) else n.overruns } } } := by
  have spent_ : (s.str i).roundOver = ((s.str i).inRound && (s.str i).unvisited.isEmpty) := by
    rw [StringCtl.roundOver, StringCtl.nextVisit_isNone]
  have opened : ∀ (c : StringCtl) period, c.openRound period
      = if ({ c with roundTimer := some period, cursor := none, inRound := true } : StringCtl).unvisited.isEmpty then
          ({ c with roundTimer := some period, cursor := none, inRound := true } : StringCtl).closeRound
        else { c with roundTimer := some period, cursor := none, inRound := true } := fun c period => by
    unfold StringCtl.openRound
    dsimp only
    rw [StringCtl.nextVisit_isNone]
  unfold State.wentOn StringCtl.settled StringCtl.late
  dsimp only
  rw [spent_, opened]
  refine if_congr Iff.rfl rfl ?_
  by_cases spent : ((s.str i).inRound && (s.str i).unvisited.isEmpty) = true
  · by_cases late : (s.str i).roundTimer.isNone = true
    · simp only [spent, late, Bool.and_self, if_true]
      rfl
    · simp only [spent, late, Bool.and_false, if_true, Bool.false_eq_true, if_false]
      rfl
  · simp only [spent, Bool.false_and, Bool.false_eq_true, if_false]

theorem sendNext_eq_wentOn (s : State) (i : StringId) : s.sendNext i = s.wentOn i := by
  rw [wentOn_eq]
  unfold State.sendNext
  split
  · rfl
  case isFalse free =>
    have str : (s.settleRound i).str i = (s.str i).settled s.roundPeriod := by
      rw [settleRound_eq]
      split <;> exact State.str_setStr_self _ _ _
    rw [chooseNext_eq (by rw [str, StringCtl.settled_exchange]; simpa using free), str, StringCtl.settled_held, settleRound_eq]
    have counted : s.counters.strings.set i (s.counters.strings.get i) = s.counters.strings := PerString.set_get _ _
    by_cases late : (s.str i).late = true
    · simp only [late, if_true]
      rw [State.setStr, State.setStrings]
      simp only [State.countString, State.count, State.setCounters, State.setStr, State.setStrings, PerString.set_set, tally, satInc, Config.counterTop]
    · simp only [late, Bool.false_eq_true, if_false, counted]
      rw [State.setStr_setStr]
      rfl

/-! ## The end of a grant pass (R99, R147) -/

theorem endPass_eq_passEnded (s : State) : s.endPass = s.passEnded := by
  unfold State.endPass State.passEnded
  refine congrArg (fun f => [StringId.a, .b, .c, .d].foldl f (s.setArb { s.arb with grantPass := false })) (funext fun t => funext fun i => ?_)
  unfold State.release
  rw [sendNext_eq_wentOn]
  rfl

theorem StringCtl.chooses_held (c : StringCtl) : c.chooses.held = c.held := by
  unfold StringCtl.chooses StringCtl.sends
  dsimp only
  (repeat' split) <;> rfl

/-- A string that goes on stays held, or free, as it was. -/
theorem State.held_sendNext (s : State) (i j : StringId) : ((s.sendNext i).str j).held = (s.str j).held := by
  rw [sendNext_eq_wentOn, wentOn_eq]
  split
  · rfl
  · dsimp only
    by_cases same : j = i
    · subst same
      rw [State.str, PerString.get_set_self]
      split
      · exact StringCtl.settled_held _ _
      · rw [StringCtl.chooses_held, StringCtl.settled_held]
    · rw [State.str, PerString.get_set_other _ same]
      rfl

theorem State.held_release (s : State) (i j : StringId) : ((s.release i).str j).held = if j = i then false else (s.str j).held := by
  unfold State.release
  by_cases held : (s.str i).held = true
  · rw [if_pos held, State.held_sendNext, State.str_setStr]
    split <;> rfl
  · rw [if_neg held]
    split
    case isTrue same => rw [same]; simpa using held
    case isFalse => rfl

/-- The end of a pass lets every line go on. -/
theorem State.held_endPass (s : State) (i : StringId) : (s.endPass.str i).held = false := by
  unfold State.endPass allStrings
  simp only [List.foldl_cons, List.foldl_nil, State.held_release]
  cases i <;> simp

/-- A string that goes on has the actuation in flight that it had. -/
theorem State.inFlight_sendNext (s : State) (i j : StringId) : ((s.sendNext i).str j).inFlight = (s.str j).inFlight := by
  have settled : ∀ (c : StringCtl) period, (c.settled period).inFlight = c.inFlight := fun c period => by
    unfold StringCtl.settled StringCtl.openRound
    dsimp only
    (repeat' split) <;> rfl
  have chooses : ∀ c : StringCtl, c.chooses.inFlight = c.inFlight := fun c => by
    unfold StringCtl.chooses StringCtl.sends
    dsimp only
    (repeat' split) <;> rfl
  rw [sendNext_eq_wentOn, wentOn_eq]
  split
  · rfl
  · dsimp only
    by_cases same : j = i
    · subst same
      rw [State.str, PerString.get_set_self]
      split
      · exact settled _ _
      · rw [chooses, settled]
    · rw [State.str, PerString.get_set_other _ same]
      rfl

end Sys2Proof.Machine
end


section
/-! PROOF. O45: an actuation goes in flight, and the account rises, at a grant alone, and only where the candidate was eligible (R97, R111, R112). -/

set_option Elab.async false

namespace Sys2Proof.Machine

variable {s t : State}

/-! ## What a dispatch puts in flight -/

/-- An actuation of an origin may go in flight on a string, and leaves the account as it then stands (R97, R111, R112). -/
def State.Allows (s t : State) (i : StringId) (o : Origin) : Prop :=
  s.supply.lowLevel = false ∧ (s.str i).gapTimer = none ∧ (s.str i).state ≠ .off
    ∧ s.supply.account ≤ t.supply.account ∧ t.supply.account ≤ s.params.supply.c
    ∧ (o ≠ .evacuation → s.supply.throttled = false ∧ s.arb.service = .running)
    ∧ (o ≠ .evacuation → o ≠ .staff → s.sweeps.alarm = false ∧ s.sweeps.evacuation.state = .inactive ∧ (s.str i).state ≠ .degraded)

/-- A grant, whichever look makes it: the actuation goes in flight on the string of an eligible unit, and nowhere else (R99, R100). -/
def State.Granted (s t : State) : Prop :=
  ∃ i f, (s.str i).inFlight = none ∧ (t.str i).inFlight = some f ∧ s.Allows t i f.origin
    ∧ ∀ j, j ≠ i → (t.str j).inFlight = (s.str j).inFlight

theorem allows_of_eligible {u : Nat} {o : Origin} (eligible : s.eligible u o = true) {c : UnitConfig} (config : (s.unit u).config = some c)
    (account : t.supply.account = s.supply.account + costOf s.params.supply c.kind) :
    (s.str c.string).inFlight = none ∧ s.Allows t c.string o := by
  obtain ⟨c', n, config', -, low, ⟨off, free, gap⟩, -, ⟨fits, throttled⟩, service, alarm, degraded⟩ := (s.eligible_iff u o).mp eligible
  rw [config, Option.some.injEq] at config'
  subst config'
  have fits' : s.supply.account + costOf s.params.supply c.kind ≤ s.params.supply.c := by
    cases kind : c.kind <;> simpa only [kind, costOf] using fits
  refine ⟨free, low, gap, off, by omega, by omega, fun other => ⟨throttled other, service.resolve_right other⟩, fun evacuation staff => ?_⟩
  obtain ⟨calm, inactive⟩ := alarm.resolve_right (not_or.mpr ⟨evacuation, staff⟩)
  exact ⟨calm, inactive, degraded.resolve_right (not_or.mpr ⟨evacuation, staff⟩)⟩

/-- The dispatch of an eligible unit, after acts that leave strings, account and figures alone. -/
theorem granted_dispatch {r : State} {u : Nat} {o : Origin} (eligible : s.eligible u o = true) (strings : r.strings = s.strings)
    (supply : r.supply = s.supply) (params : r.params = s.params) (config : (r.unit u).config = (s.unit u).config) (direction : Direction)
    (semantics : Option StaffAction) (band : Option BandId) (tag : Option Nat) (slot : Option SlotId) :
    s.Granted (r.dispatch u direction o semantics band tag slot) := by
  obtain ⟨c, _, some_, -⟩ := (s.eligible_iff u o).mp eligible
  have str : ∀ j, r.str j = s.str j := fun j => by rw [State.str, State.str, strings]
  have eq := State.dispatch_eq (s := r) (config.trans some_) direction o semantics band tag slot
  have inFlight : ∀ j, ((r.dispatch u direction o semantics band tag slot).str j).inFlight
      = if j = c.string then some (r.flightFor u c.node direction o semantics band tag slot) else (s.str j).inFlight := by
    intro j
    rw [eq, State.inFlight_sendNext, State.str_setStr]
    split
    · rfl
    · rw [← str]; rfl
  have account : (r.dispatch u direction o semantics band tag slot).supply.account = s.supply.account + costOf s.params.supply c.kind := by
    have same : (r.dispatch u direction o semantics band tag slot).supply = (r.charged c).supply := by
      rw [eq]
      exact ((show Changes [.strings, .counters] (r.charged c) _ by simp) .supply (by decide))
    rw [same, ← supply, ← params]
    rfl
  obtain ⟨free, allows⟩ := allows_of_eligible eligible some_ account
  exact ⟨c.string, _, free, by rw [inFlight, if_pos rfl], allows, fun j ne => by rw [inFlight, if_neg ne]⟩

/-! ## The looks -/

/-- An act that puts nothing in flight and does not raise the account, or a grant. -/
def State.GrantsAtMost (s t : State) : Prop := Keeps [.inFlight, .account] s t ∨ s.Granted t

theorem grantsAtMost_lookRecord (s : State) : s.GrantsAtMost s.lookRecord := by
  unfold State.lookRecord
  split
  · split
    · exact .inl (keeps_endPass Keeps.refl (by simp))
    case h_2 r found =>
      obtain ⟨-, eligible⟩ := State.mem_of_firstEligible found
      exact .inr (granted_dispatch (r := (s.removeRecord r.unit).demandInFlight r.tag) (u := r.unit) (o := r.origin) eligible rfl rfl rfl rfl _ _ _ _ _)
    · exact .inl Keeps.refl
  · exact .inl Keeps.refl

theorem grantsAtMost_lookOffer (s : State) : s.GrantsAtMost s.lookOffer := by
  unfold State.lookOffer
  split
  · split
    · exact .inl (keeps_endPass Keeps.refl (by simp))
    · exact .inl Keeps.refl
    case h_3 k i o found =>
      obtain ⟨-, eligible⟩ := State.mem_of_firstEligible found
      split
      · rw [State.grantOffer_eq]
        have same : Changes [.units, .arb, .sweeps] s (s.offerTaken k i o.unit) := by
          unfold State.offerTaken
          cases k <;> simp
        have config : ((s.offerTaken k i o.unit).unit o.unit).config = (s.unit o.unit).config := by
          have units : (s.offerTaken k i o.unit).units = (s.setUnit o.unit ((s.unit o.unit).intends (slotCause k))).units := by
            cases k <;> rfl
          rw [State.unit_congr units]
          exact State.unit_setUnit_of (P := fun r q => q.config = r.config) (u := o.unit) (x := (s.unit o.unit).intends (slotCause k)) s (fun _ => rfl) rfl o.unit
        exact .inr (granted_dispatch eligible (same .strings (by decide)) (same .supply (by decide)) (same .params (by decide)) config _ _ _ _ _)
      · exact .inl (keeps_handBack Keeps.refl i _ (by simp))
  · exact .inl Keeps.refl

/-! ## The statement -/

/-- A start leaves nothing in flight and the account at 0 (R123, R151). -/
theorem start_rests (s : State) (warm : Bool) : (∀ i, ((s.start warm).str i).inFlight = none) ∧ (s.start warm).supply.account = 0 := by
  have kept : Keeps [.inFlight, .account] (s.startValues warm) (s.start warm) := keeps_start s warm (by simp)
  refine ⟨fun i => kept .inFlight (by simp) i (by rw [State.str_startValues]; rfl), ?_⟩
  have := kept .account (by simp)
  exact Nat.le_zero.mp this

/-- A command other than a grant puts nothing in flight and does not raise the account. -/
theorem exec_of_not_grant {c : Instr} (next : exec c s = .next t) (other : ¬isGrant c) :
    (∀ i, (s.str i).inFlight = none → (t.str i).inFlight = none) ∧ t.supply.account ≤ s.supply.account := by
  by_cases start : isStart c
  · rcases start with rfl | rfl <;> cases next
    · exact ⟨fun i _ => (start_rests s _).1 i, by rw [(start_rests s _).2]; exact Nat.zero_le _⟩
    · unfold State.whenOn
      split
      · exact ⟨fun i _ => (start_rests s _).1 i, by rw [(start_rests s _).2]; exact Nat.zero_le _⟩
      · exact ⟨fun _ => id, le_rfl⟩
  · have kept : Keeps [.inFlight, .account] s t := exec_keeps next start (by simp) (by simp) (fun _ => other) (by simp) (by simp) (by simp) (by simp)
    exact ⟨kept .inFlight (by simp), kept .account (by simp)⟩

theorem exec_of_grant {c : Instr} (next : exec c s = .next t) (grant : isGrant c) : s.GrantsAtMost t := by
  rcases grant with rfl | rfl <;> cases next <;> unfold State.whenOn <;> split
  · exact grantsAtMost_lookRecord s
  · exact .inl Keeps.refl
  · exact grantsAtMost_lookOffer s
  · exact .inl Keeps.refl

/-- Settles O45: no command but the looks of a grant pass dispatches, and a look grants only an eligible candidate. -/
theorem dispatchOnlyWhenAllowed : Obligations.DispatchOnlyWhenAllowed := by
  intro c s t next
  by_cases grant : isGrant c
  · rcases exec_of_grant next grant with quiet | ⟨i, f, free, launched, allows, others⟩
    · have inFlight : ∀ i, (s.str i).inFlight = none → (t.str i).inFlight = none := quiet .inFlight (by simp)
      have account : t.supply.account ≤ s.supply.account := quiet .account (by simp)
      refine ⟨fun i f free launched => ?_, fun rises => absurd rises (not_lt.mpr account)⟩
      rw [inFlight i free] at launched
      cases launched
    · refine ⟨fun j g free' launched' => ?_, fun _ => ⟨grant, allows.1, allows.2.2.2.2.1, i, f, free, launched⟩⟩
      by_cases same : j = i
      · subst same
        rw [launched, Option.some.injEq] at launched'
        subst launched'
        exact ⟨grant, allows⟩
      · rw [others j same, free'] at launched'
        cases launched'
  · obtain ⟨inFlight, account⟩ := exec_of_not_grant next grant
    refine ⟨fun i f free launched => ?_, fun rises => absurd rises (not_lt.mpr account)⟩
    rw [inFlight i free] at launched
    cases launched

end Sys2Proof.Machine
end


section
/-! PROOF. What every step keeps (O57 to O59), and that a cold start meets it (O60). -/

set_option Elab.async false

namespace Sys2Proof.Machine

variable {s t : State}

/-! ## A step -/

/-- A step is the part's own act, a start, or another command. -/
theorem step_cases {P : State → Prop} (next : step s = .next t) (inv : P s) (pending : ∀ s rest, P s → P (s.setPending rest))
    (idle : ∀ s, P s → P s.idle) (start : ∀ s warm, P s → P (s.start warm))
    (other : ∀ c s t, ¬isStart c → exec c s = .next t → P s → P t) : P t := by
  unfold step at next
  split at next
  · cases next
    exact idle s inv
  case h_2 c rest _ =>
    have inv' := pending s rest inv
    by_cases starts : isStart c
    · rcases starts with rfl | rfl <;> cases next
      · exact start _ _ inv'
      · unfold State.whenOn
        split
        · exact start _ _ inv'
        · exact inv'
    · exact other c _ t starts next inv'

/-! ## O59: the law of tenancy -/

/-- Settles O59: the act of each command keeps the law of the books and the law of movements. -/
theorem everyStepKeepsTenancy : Obligations.EveryStepKeepsTenancy := by
  intro s t inv next
  refine step_cases next inv (fun s rest inv => tenancyInv_of_keeps inv (keeps_setPending Keeps.refl rest))
    (fun s inv => tenancyInv_of_keeps inv (keeps_idle s (by simp))) (fun s warm inv => ?_) fun c s t starts next inv => ?_
  · obtain ⟨books, moves⟩ := (tenancyInv_iff s).mp inv
    have values := (tenancyInv_iff (s.startValues warm)).mpr ⟨booksInv_startValues books warm, movesInv_startValues moves warm⟩
    exact tenancyInv_of_keeps values (keeps_start s warm (by simp))
  · exact tenancyInv_of_keeps inv (exec_keeps next starts (by simp) (by simp) (by simp) (by simp) (fun _ => inv) (by simp) (by simp))

/-! ## O58: rosters, strings and sweeps -/

theorem heldInv_looks (inv : s.HeldInv) : s.lookRecord.HeldInv ∧ s.lookOffer.HeldInv := by
  have ended : s.endPass.HeldInv := fun i held => by
    rw [State.held_endPass] at held
    cases held
  constructor
  · unfold State.lookRecord
    split
    · split
      · exact ended
      · exact keeps_grant (ls := [.held]) Keeps.refl _ (by simp) (by simp) (by simp) .held (by simp) inv
      · exact inv
    · exact inv
  · unfold State.lookOffer
    split
    · split
      · exact ended
      · exact inv
      · split
        · exact keeps_grantOffer (ls := [.held]) Keeps.refl (by simp) (by simp) (by simp) (by simp) .held (by simp) inv
        · exact keeps_handBack (ls := [.held]) Keeps.refl _ _ (by simp) .held (by simp) inv
    · exact inv

theorem exec_keeps_heldInv {c : Instr} (next : exec c s = .next t) (start : ¬isStart c) (inv : s.HeldInv) : t.HeldInv := by
  by_cases grant : isGrant c
  · rcases grant with rfl | rfl <;> cases next <;> unfold State.whenOn <;> split
    · exact (heldInv_looks inv).1
    · exact inv
    · exact (heldInv_looks inv).2
    · exact inv
  · exact exec_keeps (ls := [.held]) next start (by simp) (by simp) (fun _ => grant) (by simp) (by simp) (by simp) (by simp) .held (by simp) inv

theorem exec_keeps_rosterInv {c : Instr} (next : exec c s = .next t) (start : ¬isStart c) (inv : s.RosterInv) : t.RosterInv := by
  have whenOn : ∀ {act : State → State}, (act s).RosterInv → (s.whenOn act).RosterInv := fun {act} acted => by
    unfold State.whenOn
    split
    · exact acted
    · exact inv
  by_cases amends : mayAmend c
  · rcases amends with request | rfl | rfl
    · obtain ⟨f, carries⟩ := Option.isSome_iff_exists.mp request
      rw [exec_eq_requestAct carries] at next
      cases next
      exact whenOn (rosterInv_takeInHand inv f)
    · cases next
      exact whenOn (rosterInv_frameComplete inv)
    · cases next
      exact whenOn (rosterInv_replyEnd inv)
  · exact rosterInv_of_keeps inv (exec_keeps next start (by simp) (by simp) (by simp) (fun _ => amends) (by simp) (by simp) (by simp))

/-- The law of rosters, of string states, of held lines and of sweep slots. -/
def State.StandsInv (s : State) : Prop := s.RosterInv ∧ (∀ i, (s.str i).ScoreInv) ∧ s.HeldInv ∧ s.SweepInv

theorem standsInv_iff (s : State) : s.StandsInv ↔ s.StringInv ∧ s.SweepInv := by
  unfold State.StandsInv State.StringInv State.HeldInv
  rw [forall_and]
  tauto

theorem standsInv_of_keeps (inv : s.StandsInv) (kept : Keeps [.rosters, .places, .scores, .held, .sweeps] s t) : t.StandsInv := by
  obtain ⟨rosters, scores, held, sweeps⟩ := inv
  exact ⟨rosterInv_of_keeps rosters (kept.mono (by simp)), kept .scores (by simp) scores, kept .held (by simp) held, kept .sweeps (by simp) sweeps⟩

/-- Settles O58: each law on its own, over the acts of the commands. -/
theorem everyStepKeepsStringsAndSweeps : Obligations.EveryStepKeepsStringsAndSweeps := by
  intro s t strings sweeps next
  rw [← standsInv_iff]
  refine step_cases next ((standsInv_iff s).mpr ⟨strings, sweeps⟩) (fun s rest inv => standsInv_of_keeps inv (keeps_setPending Keeps.refl rest))
    (fun s inv => standsInv_of_keeps inv (keeps_idle s (by simp))) (fun s warm inv => ?_) fun c s t starts next inv => ?_
  · have values : (s.startValues warm).StandsInv :=
      ⟨rosterInv_startValues inv.1 warm, fun i => by rw [State.str_startValues]; exact scoreInv_started _, heldInv_startValues s warm,
        sweepInv_startValues s warm⟩
    exact standsInv_of_keeps values (keeps_start s warm (by simp))
  · obtain ⟨rosters, scores, held, sweeps⟩ := inv
    have kept : Keeps [.scores, .sweeps] s t := exec_keeps next starts (by simp) (by simp) (by simp) (by simp) (by simp) (fun _ => sweeps) (by simp)
    exact ⟨exec_keeps_rosterInv next starts rosters, kept .scores (by simp) scores, exec_keeps_heldInv next starts held, kept .sweeps (by simp) sweeps⟩

/-! ## O57: figures, lines and notices -/

theorem lineInv_of_keeps (inv : s.LineInv) (kept : Keeps [.lines] s t) : t.LineInv := by
  have same : t.lineLevels = s.lineLevels := kept .lines (by simp)
  simp only [State.lineLevels, Prod.mk.injEq] at same
  obtain ⟨alarm, low, limit, pins, power⟩ := same
  simpa only [State.LineInv, alarm, low, limit, pins, power] using inv

/-- What the recorded levels are once the lines have been taken. -/
theorem takeAlarm_alarm (s : State) (a : Bool) : (s.takeAlarm a).sweeps.alarm = a := by
  by_cases same : a = s.sweeps.alarm
  · rw [takeAlarm_same same, same]
  · cases a
    · rw [takeAlarm_deasserted same]
      rfl
    · rw [takeAlarm_asserted same]
      split
      · rfl
      · have kept : Keeps [.lines] (s.setSweeps { s.sweeps with alarm := true }) (s.setSweeps { s.sweeps with alarm := true }).startEvacuation :=
          keeps_startEvacuation Keeps.refl
        exact congrArg Prod.fst (kept .lines (by simp))

theorem takeSupplyLow_supply (s : State) (a : Bool) :
    (s.takeSupplyLow a).supply.lowLevel = a ∧ (s.takeSupplyLow a).supply.limitLevel = s.supply.limitLevel := by
  unfold State.takeSupplyLow
  split
  case isTrue same => exact ⟨same.symm, rfl⟩
  case isFalse =>
    split
    case isTrue asserted =>
      rw [State.supplyLowAsserted, State.post_supply]
      exact ⟨asserted.symm, rfl⟩
    case isFalse deasserted =>
      have supply : s.supplyLowDeasserted.supply = { s.supply with lowLevel := false } := by
        rw [State.supplyLowDeasserted, State.startPass, State.setArb_supply, State.post_supply]
        rfl
      rw [supply]
      exact ⟨by simpa using deasserted, rfl⟩

theorem takeCurrentLimit_supply (s : State) (a : Bool) :
    (s.takeCurrentLimit a).supply.limitLevel = a ∧ (s.takeCurrentLimit a).supply.lowLevel = s.supply.lowLevel := by
  unfold State.takeCurrentLimit
  split
  case isTrue same => exact ⟨same.symm, rfl⟩
  case isFalse =>
    split
    case isTrue asserted => exact ⟨asserted.symm, rfl⟩
    case isFalse deasserted => exact ⟨by simpa using deasserted, rfl⟩

/-- The levels that the lines are found at when they are read stand recorded (R119, R120, R153). -/
theorem lineInv_readLines (on : s.power.codeMatches = true) : s.readLines.LineInv := by
  intro _
  have limit : Changes [.supply, .strings] s (s.takeCurrentLimit s.pins.currentLimit) := by simp
  generalize first : s.takeCurrentLimit s.pins.currentLimit = a at limit
  have low : Changes [.arb, .supply, .link, .notices, .counters] a (a.takeSupplyLow a.pins.supplyLow) := by simp
  generalize second : a.takeSupplyLow a.pins.supplyLow = b at low
  have alarm : Changes [.units, .dir, .arb, .sweeps, .link, .notices, .counters] b (b.takeAlarm b.pins.alarm) := by simp
  have read : s.readLines = b.takeAlarm b.pins.alarm := by rw [State.readLines, first, second]
  have pinsA : a.pins = s.pins := limit .pins (by decide)
  have pinsB : b.pins = a.pins := low .pins (by decide)
  have pins : s.readLines.pins = b.pins := by rw [read]; exact alarm .pins (by decide)
  have supply : s.readLines.supply = b.supply := by rw [read]; exact alarm .supply (by decide)
  have power : s.readLines.power = s.power := by
    rw [read]
    exact (alarm .power (by decide)).trans ((low .power (by decide)).trans (limit .power (by decide)))
  have levelA := takeCurrentLimit_supply s s.pins.currentLimit
  have levelB := takeSupplyLow_supply a a.pins.supplyLow
  rw [first] at levelA
  rw [second] at levelB
  rw [pins, supply, power]
  exact ⟨by rw [read, takeAlarm_alarm], by rw [levelB.1, pinsB], by rw [levelB.2, levelA.1, pinsB, pinsA], on⟩

theorem lineInv_start (s : State) (warm : Bool) : (s.start warm).LineInv := by
  unfold State.start
  dsimp only
  refine lineInv_readLines ?_
  have kept : Keeps [.lines] (s.startValues warm)
      (allStrings.foldl State.firstRound ((s.startValues warm).post { kind := .start, code := .start warm })) :=
    (keeps_post Keeps.refl _).trans (Keeps.foldl (fun _ i => keeps_firstRound Keeps.refl i) _ _)
  have same := kept .lines (by simp)
  simp only [Law.kept, State.lineLevels, Prod.mk.injEq] at same
  obtain ⟨-, -, -, -, power⟩ := same
  rw [power]
  rfl

/-- A change of a line's level is recorded while main power is up, and a part without power has none to record. -/
theorem lineInv_line (inv : s.LineInv) {x : Pins} {act : State → State} (same : (act (s.setPins x)).pins = x ∧ (act (s.setPins x)).power = s.power)
    (recorded : s.power.on = true → (act (s.setPins x)).sweeps.alarm = x.alarm
      ∧ (act (s.setPins x)).supply.lowLevel = x.supplyLow ∧ (act (s.setPins x)).supply.limitLevel = x.currentLimit) :
    ((s.setPins x).whenOn act).LineInv := by
  obtain ⟨pins, power'⟩ := same
  by_cases power : s.power.on = true
  · have acts : (s.setPins x).whenOn act = act (s.setPins x) := if_pos power
    obtain ⟨alarm, low, limit⟩ := recorded power
    intro _
    rw [acts, pins, power']
    exact ⟨alarm, low, limit, (inv power).2.2.2⟩
  · have waits : (s.setPins x).whenOn act = s.setPins x := if_neg power
    rw [waits]
    exact fun up => absurd up power

theorem exec_keeps_lineInv {c : Instr} (next : exec c s = .next t) (start : ¬isStart c) (inv : s.LineInv) : t.LineInv := by
  by_cases line : movesLine c
  · cases c
    case alarmLevelChange a =>
      cases next
      have same : Changes [.units, .dir, .arb, .sweeps, .link, .notices, .counters] (s.setPins { s.pins with alarm := a })
        ((s.setPins { s.pins with alarm := a }).takeAlarm a) := by simp
      refine lineInv_line inv ⟨same .pins (by decide), same .power (by decide)⟩ fun on => ?_
      obtain ⟨-, low, limit, -⟩ := inv on
      rw [takeAlarm_alarm, show State.supply _ = s.supply from same .supply (by decide)]
      exact ⟨rfl, low, limit⟩
    case supplyLowChange a =>
      cases next
      have same : Changes [.arb, .supply, .link, .notices, .counters] (s.setPins { s.pins with supplyLow := a })
        ((s.setPins { s.pins with supplyLow := a }).takeSupplyLow a) := by simp
      refine lineInv_line inv ⟨same .pins (by decide), same .power (by decide)⟩ fun on => ?_
      obtain ⟨alarm, -, limit, -⟩ := inv on
      obtain ⟨low, limit'⟩ := takeSupplyLow_supply (s.setPins { s.pins with supplyLow := a }) a
      rw [show State.sweeps _ = s.sweeps from same .sweeps (by decide)]
      exact ⟨alarm, low, limit'.trans limit⟩
    case currentLimitChange a =>
      cases next
      have same : Changes [.supply, .strings] (s.setPins { s.pins with currentLimit := a })
        ((s.setPins { s.pins with currentLimit := a }).takeCurrentLimit a) := by simp
      refine lineInv_line inv ⟨same .pins (by decide), same .power (by decide)⟩ fun on => ?_
      obtain ⟨alarm, low, -⟩ := inv on
      obtain ⟨limit, low'⟩ := takeCurrentLimit_supply (s.setPins { s.pins with currentLimit := a }) a
      rw [show State.sweeps _ = s.sweeps from same .sweeps (by decide)]
      exact ⟨alarm, low'.trans low, limit⟩
    case mainPowerLoss =>
      cases next
      unfold State.powerLoss
      split
      · exact fun up => absurd up (by simp [State.setPower])
      · exact inv
    case retLoss =>
      cases next
      unfold State.retLoss
      split
      · exact inv
      case isFalse off => exact fun up => absurd up off
    all_goals exact False.elim line
  · exact lineInv_of_keeps inv (exec_keeps next start (by simp) (by simp) (by simp) (by simp) (by simp) (by simp) fun _ => line)

/-- The laws of the figures, of the account and of the notices. -/
theorem figures_of_keeps (kept : Keeps [.figures, .supply, .notices] s t) (inv : s.SupplyInv ∧ s.FiguresInv ∧ s.NoticeInv) :
    t.SupplyInv ∧ t.FiguresInv ∧ t.NoticeInv :=
  ⟨kept .supply (by simp) inv.1, kept .figures (by simp) inv.2.1, kept .notices (by simp) inv.2.2⟩

/-- Settles O57: the laws of the figures go with those of the notices, and the recorded lines with the pins. -/
theorem everyStepKeepsTheFigures : Obligations.EveryStepKeepsTheFigures := by
  intro s t supply figures notices lines next
  have both : (t.SupplyInv ∧ t.FiguresInv ∧ t.NoticeInv) ∧ t.LineInv := by
    refine step_cases (P := fun s => (s.SupplyInv ∧ s.FiguresInv ∧ s.NoticeInv) ∧ s.LineInv) next ⟨⟨supply, figures, notices⟩, lines⟩
      (fun s rest inv => ?_) (fun s inv => ?_) (fun s warm inv => ?_) fun c s t starts next inv => ?_
    · exact ⟨figures_of_keeps (keeps_setPending Keeps.refl rest) inv.1, lineInv_of_keeps inv.2 (keeps_setPending Keeps.refl rest)⟩
    · exact ⟨figures_of_keeps (keeps_idle s (by simp)) inv.1, lineInv_of_keeps inv.2 (keeps_idle s (by simp))⟩
    · obtain ⟨⟨supply, figures, -⟩, -⟩ := inv
      exact ⟨figures_of_keeps (keeps_start s warm (by simp))
        ⟨supplyInv_startValues supply warm, figuresInv_startValues figures warm, noticeInv_startValues s warm⟩, lineInv_start s warm⟩
    · exact ⟨figures_of_keeps (exec_keeps next starts (by simp) (by simp) (by simp) (by simp) (by simp) (by simp) (by simp)) inv.1,
        exec_keeps_lineInv next starts inv.2⟩
  obtain ⟨⟨supply, figures, notices⟩, lines⟩ := both
  exact ⟨supply, figures, notices, lines⟩

/-! ## O60: a cold start -/

/-- Settles O60: a cold start has no unit, no band, no record and no notice, and figures within their ranges. -/
theorem resetMeetsEveryInvariant : Obligations.ResetMeetsEveryInvariant := by
  have cold : ∀ u, State.reset.unit u = .cold := fun u => by
    by_cases unit : isUnit u
    · rw [State.unit, dif_pos unit]
      exact Vector.getElem_replicate ..
    · exact State.unit_of_not_isUnit _ unit
  have empty : ∀ i, (State.reset.str i) = .idle := fun i => by cases i <;> rfl
  have nowhere : ∀ u, State.reset.unitNode u = none := fun u => by rw [State.unitNode, cold]; rfl
  refine ⟨⟨by decide, by decide, by decide⟩, by unfold State.FiguresInv; decide, by unfold State.NoticeInv; decide, by unfold State.LineInv; decide,
    ⟨⟨fun i => ?_, fun u v _ _ some_ => absurd (nowhere u) some_⟩, fun i => ?_⟩, ⟨passInv_cold (by decide), passInv_cold (by decide)⟩, ?_⟩
  · rw [empty]
    exact ⟨List.Pairwise.nil, fun a => ⟨fun mem => absurd mem (by simp [StringCtl.idle]), by simp [StringCtl.idle, nowhere]⟩⟩
  · rw [empty]
    exact ⟨by unfold StringCtl.ScoreInv; decide, by simp [StringCtl.idle]⟩
  · refine (tenancyInv_iff _).mpr ⟨⟨⟨List.Pairwise.nil, by decide⟩, fun u b _ => ?_, by simp [State.reset]⟩,
      ⟨by decide, by decide, List.nodup_nil, by decide, by decide, by decide⟩, fun u _ => ?_, fun u => ?_, by simp [State.reset], by simp [State.reset]⟩
    · rw [cold]; simp [UnitRecord.cold, State.reset]
    · rw [cold]; exact sound_cold.1
    · rw [cold]; rfl

end Sys2Proof.Machine
end


section
/-! PROOF. O19: every good frame is answered. The return of the link and the owner's act leave the Desk Link as it is, but for its state and its age timer. -/

set_option Elab.async false

namespace Sys2Proof.Machine

variable {s : State}

/-- The return of the link leaves it LINKED, and otherwise touches its age timer alone (R197). -/
theorem linkReturn_link (s : State) : ∃ timer, s.linkReturn.link = { s.link with state := .linked, ageTimer := timer } := by
  unfold State.linkReturn
  split
  · obtain ⟨timer, posted⟩ := State.post_link (s.setLink { s.link with state := .linked })
      { kind := .linkState, code := .link .linked, value := some s.provisionalCount }
    let limit := ((s.setLink { s.link with state := .linked }).post
      { kind := .linkState, code := .link .linked, value := some s.provisionalCount }).params.link.ageLimit
    exact ⟨.running (limit * 1000), congrArg (fun l : DeskLink => { l with ageTimer := .running (limit * 1000) }) posted⟩
  case isFalse linked =>
    have state : s.link.state = .linked := by
      cases state : s.link.state with
      | linked => rfl
      | standalone => exact absurd state linked
    exact ⟨s.link.ageTimer, by rw [← state]⟩

/-- The Desk Link after a frame has been taken in hand and answered (R186, R187). -/
theorem takeInHand_link (s : State) (f : Frame) :
    ∃ timer status flags content, (s.takeInHand f (requestAct f)).link =
        { s.link with
          inHand := some f, state := .linked, ageTimer := timer, overrun := false
          reply := some (Frame.make f.tag (f.type + 0x80) ([BitVec.ofNat 8 (Status.code status), flags] ++ content)) }
      ∧ flags = BitVec.ofNat 8 (bits [s.link.overrun, !(s.takeInHand f (requestAct f)).notices.stored.isEmpty, s.link.state == .standalone]) := by
  obtain ⟨timer, returned⟩ := linkReturn_link (s.setLink { s.link with inHand := some f })
  generalize taken : (s.setLink { s.link with inHand := some f }).linkReturn = q at returned
  have kept : Keeps [.link] q (requestAct f q).1 := keeps_requestAct Keeps.refl f (by simp) (by simp) (by simp)
  obtain ⟨timer', acted⟩ := kept .link (by simp)
  rw [returned] at acted
  have answered : s.takeInHand f (requestAct f) = (requestAct f q).1.formReply f (requestAct f q).2 (s.link.state == .standalone) := by
    rw [State.takeInHand, taken]
  refine ⟨timer', (requestAct f q).2.status, BitVec.ofNat 8 ((requestAct f q).1.linkFlags (s.link.state == .standalone)), (requestAct f q).2.content, ?_, ?_⟩
  · rw [answered]
    unfold State.formReply State.replyBody
    rw [State.setLink_link, acted]
    rfl
  · rw [answered, State.linkFlags, acted]
    rfl

theorem bits_toNat (a b c : Bool) : (BitVec.ofNat 8 (bits [a, b, c])).toNat = a.toNat + 2 * b.toNat + 4 * c.toNat := by
  cases a <;> cases b <;> cases c <;> rfl

/-- Settles O19: whichever the type, the owner's act leaves the reply to be formed from the frame. -/
theorem everyGoodFrameIsAnswered : Obligations.EveryGoodFrameIsAnswered := by
  intro s f rest on first free good
  obtain ⟨timer, status, flags, content, link, marks⟩ := takeInHand_link (s.setLink { s.link with completed := rest }) f
  refine ⟨(s.setLink { s.link with completed := rest }).takeInHand f (requestAct f), _, status, flags, content, ?_, congrArg DeskLink.reply link, ?_⟩
  · rw [exec_frameComplete on, frameComplete_eq first]
    exact congrArg Host.Outcome.next (placeFrame_handle (s := s.setLink { s.link with completed := rest }) free good)
  · rw [link]
    refine ⟨rfl, rfl, rfl, rfl, rfl, rfl, rfl, Frame.make_good _ _ _, rfl, ?_⟩
    rw [marks]
    exact bits_toNat _ _ _

end Sys2Proof.Machine
end


section
/-! PROOF. What a byte names (R207), and the codes of the reports (R209). -/

set_option Elab.async false

namespace Sys2Proof.Machine

/-! ## Bytes that name -/

theorem string?_eq_some_iff (b : Byte) (i : StringId) : string? b = some i ↔ b.toNat = stringCode i := by
  unfold string?
  split <;> cases i <;> simp_all [stringCode]

theorem string?_eq_none_iff (b : Byte) : string? b = none ↔ 3 < b.toNat := by
  unfold string?
  generalize b.toNat = n
  rcases n with _ | _ | _ | _ | n <;> simp

theorem kind?_eq_some_iff (b : Byte) (k : UnitKind) : kind? b = some k ↔ b.toNat = kindCode k := by
  unfold kind?
  split <;> cases k <;> simp_all [kindCode]

theorem kind?_eq_none_iff (b : Byte) : kind? b = none ↔ 1 < b.toNat := by
  unfold kind?
  generalize b.toNat = n
  rcases n with _ | _ | n <;> simp

theorem mode?_eq_some_iff (b : Byte) (m : UnitMode) : mode? b = some m ↔ b.toNat = modeCode m := by
  unfold mode?
  split <;> cases m <;> simp_all [modeCode]

theorem mode?_eq_none_iff (b : Byte) : mode? b = none ↔ 2 < b.toNat := by
  unfold mode?
  generalize b.toNat = n
  rcases n with _ | _ | _ | n <;> simp

theorem filter?_eq_some_iff (b : Byte) (f : KindFilter) : filter? b = some f ↔ b.toNat = filterCode f := by
  unfold filter?
  split <;> cases f <;> simp_all [filterCode]

theorem filter?_eq_none_iff (b : Byte) : filter? b = none ↔ 2 < b.toNat := by
  unfold filter?
  generalize b.toNat = n
  rcases n with _ | _ | _ | n <;> simp

theorem action?_eq_some_iff (b : Byte) (a : StaffAction) : action? b = some a ↔ b.toNat = actionCode a := by
  unfold action?
  split <;> cases a <;> simp_all [actionCode]

theorem action?_eq_none_iff (b : Byte) : action? b = none ↔ 2 < b.toNat := by
  unfold action?
  generalize b.toNat = n
  rcases n with _ | _ | _ | n <;> simp

theorem slot?_eq_some_iff (b : Byte) (k : SlotId) :
    slot? b = some k ↔ b.toNat = (match k with | .evacuation => 0 | .closing => 1) := by
  unfold slot?
  split <;> cases k <;> simp_all

theorem slot?_eq_none_iff (b : Byte) : slot? b = none ↔ 1 < b.toNat := by
  unfold slot?
  generalize b.toNat = n
  rcases n with _ | _ | n <;> simp

/-! ## Codes in reports -/

theorem intentBytes_eq (i : BaseIntent) : intentBytes i = intentFields i.cause i.ret := by
  unfold intentBytes intentFields
  rw [u8_stateCode]
  cases i.cause <;> rfl

theorem bits_four (a b c d : Bool) : bits [a, b, c, d] = a.toNat + 2 * b.toNat + 4 * c.toNat + 8 * d.toNat := by
  simp only [bits]
  omega

theorem movement_eq (s : State) (u : Nat) : s.movement u = s.movementOf u := rfl

theorem sized_eq_elim {α : Type} (n : Nat) (enc : α → List Byte) (x : Option α) : sized n enc x = x.elim (zeros n) enc := by
  cases x <;> rfl

theorem sized_intent (x : Option Intent) :
    sized 3 intentBytes (x.map fun i => ⟨i.cause, i.ret⟩) = x.elim (zeros 3) fun i => intentFields i.cause i.ret := by
  cases x with
  | none => rfl
  | some i => exact intentBytes_eq ⟨i.cause, i.ret⟩

theorem sized_baseIntent (x : Option BaseIntent) :
    sized 3 intentBytes x = x.elim (zeros 3) fun i => intentFields i.cause i.ret := by
  cases x with
  | none => rfl
  | some i => exact intentBytes_eq i

theorem u8_doorCode (d : Option Door) : u8 (doorCode d) = place [some Door.opened, some .closed, none] d := by
  rcases d with _ | d
  · rfl
  · cases d <;> rfl

theorem u8_lastCode (x : Option Completion) :
    u8 (lastCode x) = place [none, some Completion.done, some .doneLate, some .refusedByNode, some .jammed, some .uncertain] x := by
  rcases x with _ | o
  · rfl
  · cases o <;> rfl

theorem u8_presenceCode (p : Presence) : u8 (presenceCode p) = place [Presence.absent, .present, .silent] p := by
  cases p <;> rfl

theorem configBytes_eq (c : UnitConfig) : configBytes c = kindByte c.kind ++ place [StringId.a, .b, .c, .d] c.string ++ u8 c.node ++ u8 c.zone
    ++ place [UnitMode.single, .day, .freeUse] c.mode ++ u8 c.interval := by
  unfold configBytes
  rw [u8_kindCode]
  generalize c.string = i
  generalize c.mode = m
  cases i <;> cases m <;> rfl

/-- What a node that is not on the roster reports: ABSENT, with no mark (R209). -/
theorem presence_added (x : Option NodeRecord) (addr : Nat) :
    (x.getD (NodeRecord.added addr)).presence = x.elim .absent (·.presence) := by
  cases x <;> rfl

theorem marks_added (x : Option NodeRecord) (addr : Nat) :
    bits [(x.getD (NodeRecord.added addr)).readerMark, (x.getD (NodeRecord.added addr)).actuatorMark]
      = (x.elim false (·.readerMark)).toNat + 2 * (x.elim false (·.actuatorMark)).toNat := by
  cases x with
  | none => rfl
  | some n => simp only [bits, Option.getD_some, Option.elim_some, Nat.mul_zero, Nat.add_zero]

theorem unitReport_eq_unitBytes (s : State) (u : Nat) : s.unitReport u = s.unitBytes u := by
  simp only [State.unitReport, State.unitBytes]
  generalize s.unit u = r
  cases r.config with
  | none => simp only [u8_stateCode, zeros]
  | some c =>
    rw [sized_intent, sized_baseIntent]
    simp only [u8_stateCode, bits_four, movement_eq, u8_doorCode, u8_lastCode, u8_presenceCode,
      presence_added, marks_added, configBytes_eq, sized_eq_elim, List.append_assoc, Bool.toNat_true]

theorem unitEntry_eq_listedUnit (s : State) (u : Nat) : s.unitEntry u = s.listedUnit u := by
  simp only [State.unitEntry, State.listedUnit]
  generalize s.unit u = r
  cases r.config with
  | none =>
    simp only [sized_eq_elim, u8_stateCode, bits, Option.isSome_none, Bool.toNat_false, Option.elim_none, List.append_assoc,
      Nat.mul_zero, Nat.zero_add, Nat.add_zero, ← Nat.mul_assoc]
    rfl
  | some c =>
    simp only [sized_eq_elim, u8_stateCode, u8_kindCode, bits, Option.isSome_some, Bool.toNat_true, Option.elim_some, List.append_assoc,
      Nat.mul_zero, Nat.add_zero, Nat.mul_add, ← Nat.mul_assoc, ← Nat.add_assoc]

end Sys2Proof.Machine
end

section
/-! PROOF. The requests of one unit: O27, O30, O31 (R21, R24 to R27). -/

set_option Elab.async false

namespace Sys2Proof.Machine

variable {s : State}

/-! ## CONFIGURE_UNIT's checks -/

/-- The six fields are in their ranges, and the mode suits the kind (R21, check 2). -/
def FieldsSound (kind string node zone mode : Byte) : Prop :=
  kind.toNat ≤ 1 ∧ string.toNat ≤ 3 ∧ (1 ≤ node.toNat ∧ node.toNat ≤ 60) ∧ (1 ≤ zone.toNat ∧ zone.toNat ≤ 15)
    ∧ mode.toNat ≤ 2 ∧ ¬(mode.toNat = 2 ∧ kind.toNat = 0)

/-- The configuration that six sound fields give. -/
theorem unitConfig?_of_sound {kind string node zone mode interval : Byte} (sound : FieldsSound kind string node zone mode) :
    ∃ c, unitConfig? kind string node zone mode interval = some c ∧ kind? kind = some c.kind ∧ string? string = some c.string
      ∧ mode? mode = some c.mode ∧ c.node = node.toNat ∧ c.zone = zone.toNat ∧ c.interval = interval.toNat := by
  obtain ⟨kinds, strings, ⟨low, high⟩, ⟨lowZone, highZone⟩, modes, suits⟩ := sound
  obtain ⟨k, hk⟩ := Option.ne_none_iff_exists'.mp (mt (kind?_eq_none_iff kind).mp (not_lt.mpr kinds))
  obtain ⟨i, hi⟩ := Option.ne_none_iff_exists'.mp (mt (string?_eq_none_iff string).mp (not_lt.mpr strings))
  obtain ⟨m, hm⟩ := Option.ne_none_iff_exists'.mp (mt (mode?_eq_none_iff mode).mp (not_lt.mpr modes))
  have suits' : ¬(m = .freeUse ∧ k = .locker) := by
    rintro ⟨rfl, rfl⟩
    exact suits ⟨(mode?_eq_some_iff _ _).mp hm, (kind?_eq_some_iff _ _).mp hk⟩
  refine ⟨⟨k, i, node.toNat, zone.toNat, m, interval.toNat⟩, ?_, hk, hi, hm, rfl, rfl, rfl⟩
  simp only [unitConfig?, hk, hi, hm]
  exact if_pos ⟨low, high, lowZone, highZone, suits'⟩

theorem unitConfig?_of_unsound {kind string node zone mode interval : Byte} (unsound : ¬FieldsSound kind string node zone mode) :
    unitConfig? kind string node zone mode interval = none := by
  unfold unitConfig?
  split
  case h_1 k i m hk hi hm =>
    rw [kind?_eq_some_iff] at hk
    rw [string?_eq_some_iff] at hi
    rw [mode?_eq_some_iff] at hm
    refine if_neg fun ⟨low, high, lowZone, highZone, suits⟩ => unsound ⟨?_, ?_, ⟨low, high⟩, ⟨lowZone, highZone⟩, ?_, fun ⟨free, locker⟩ => suits ?_⟩
    · rw [hk]; cases k <;> decide
    · rw [hi]; cases i <;> decide
    · rw [hm]; cases m <;> decide
    · rw [hm] at free
      rw [hk] at locker
      constructor
      · cases m <;> first | rfl | cases free
      · cases k <;> first | rfl | cases locker
  · rfl

theorem exec_configureUnit (on : s.power.on = true) (tag unit kind string node zone mode interval : Byte) :
    let i := Instr.configureUnit tag unit kind string node zone mode interval
    exec i s = .next (s.answered i (configureUnit unit kind string node zone mode interval (s.taken i))) :=
  congrArg Host.Outcome.next (whenOn_takeInHand on rfl _)

theorem State.addressTaken_iff (s : State) (u : Nat) (i : StringId) (addr : Nat) :
    s.addressTaken u i addr = true ↔ ∃ v, isUnit v ∧ v ≠ u ∧ s.unitNode v = some (i, addr) := by
  rw [← not_iff_not, Bool.not_eq_true, addressTaken_eq_false_iff]
  simp only [not_exists, not_and]

theorem State.unitNode_taken (s : State) (i : Instr) (u : Nat) : (s.taken i).unitNode u = s.unitNode u := by
  rw [State.unitNode, State.taken_unit, State.unitNode]

theorem State.addressTaken_taken (s : State) (j : Instr) (u : Nat) (i : StringId) (addr : Nat) :
    (s.taken j).addressTaken u i addr = s.addressTaken u i addr := by
  simp only [State.addressTaken, State.unitNode_taken]

/-- With its number and its fields sound, the request meets the three checks on the state (R21). -/
theorem configureUnit_of_sound {unit kind string node zone mode interval : Byte} {c : UnitConfig} (one : isUnit unit.toNat)
    (config : unitConfig? kind string node zone mode interval = some c) (s : State) :
    configureUnit unit kind string node zone mode interval s =
      if s.arb.service ≠ .quiesced then s.refuse .notQuiesced
      else if (s.unit unit.toNat).state ∉ [UnitState.unconfigured, .vacant, .withdrawn] then s.refuse .unitInUse
      else if s.addressTaken unit.toNat c.string c.node then s.refuse .addressTaken
      else (s.applyConfig unit.toNat c).ok [] := by
  rw [configureUnit, if_neg (not_not.mpr one), config]
  refine ite_congr rfl (fun _ => rfl) fun _ => if_congr (not_congr ?_) rfl rfl
  simp only [List.mem_cons, List.not_mem_nil, or_false]

/-- Settles O27: each check in its turn. -/
theorem configureUnitIsChecked : Obligations.ConfigureUnitIsChecked := by
  intro s tag unit kind string node zone mode interval on i u sound taken refused
  have answers : exec i s = .next (s.answered i (configureUnit unit kind string node zone mode interval (s.taken i))) :=
    exec_configureUnit on tag unit kind string node zone mode interval
  have refuses : ∀ {st}, configureUnit unit kind string node zone mode interval (s.taken i) = (s.taken i).refuse st → refused st :=
    fun h => by rw [h] at answers; exact answers
  have service : (s.taken i).arb.service = s.arb.service := by rw [State.taken_arb]
  have state : ((s.taken i).unit u).state = (s.unit u).state := by rw [State.taken_unit]
  have checks : isUnit u → sound → ∃ c : UnitConfig,
      ((s.taken i).addressTaken u c.string c.node = true ↔ taken) ∧ configureUnit unit kind string node zone mode interval (s.taken i) =
        if s.arb.service ≠ .quiesced then (s.taken i).refuse .notQuiesced
        else if (s.unit u).state ∉ [UnitState.unconfigured, .vacant, .withdrawn] then (s.taken i).refuse .unitInUse
        else if (s.taken i).addressTaken u c.string c.node then (s.taken i).refuse .addressTaken
        else ((s.taken i).applyConfig u c).ok [] := by
    intro one good
    obtain ⟨c, config, -, place, -, addr, -⟩ := unitConfig?_of_sound (interval := interval) good
    refine ⟨c, ?_, by rw [configureUnit_of_sound one config, service, state]⟩
    rw [State.addressTaken_taken, State.addressTaken_iff, addr]
    exact ⟨fun ⟨v, hv, ne, at_⟩ => ⟨v, c.string, hv, ne, place, at_⟩,
      fun ⟨v, j, hv, ne, named, at_⟩ => ⟨v, hv, ne, by rw [place, Option.some.injEq] at named; rw [named]; exact at_⟩⟩
  refine ⟨fun other => refuses (if_pos other), fun one unsound => refuses ?_, fun one good busy => refuses ?_, fun one good quiet used => refuses ?_,
    fun one good quiet free shared => refuses ?_, fun one good quiet free alone => ?_⟩
  · rw [configureUnit, if_neg (not_not.mpr one), unitConfig?_of_unsound unsound]
  · obtain ⟨c, -, is⟩ := checks one good
    rw [is, if_pos busy]
  · obtain ⟨c, -, is⟩ := checks one good
    rw [is, if_neg (not_not.mpr quiet), if_pos used]
  · obtain ⟨c, meets, is⟩ := checks one good
    rw [is, if_neg (not_not.mpr quiet), if_neg (not_not.mpr free), if_pos (meets.mpr shared)]
  · obtain ⟨c, meets, is⟩ := checks one good
    rw [is, if_neg (not_not.mpr quiet), if_neg (not_not.mpr free), if_neg (mt meets.mp alone)] at answers
    exact ⟨(s.taken i).applyConfig u c, answers⟩

/-! ## WITHDRAW_UNIT, RESTORE_UNIT and MARK_CLEAN -/

theorem exec_withdrawUnit (on : s.power.on = true) (tag unit : Byte) :
    let i := Instr.withdrawUnit tag unit
    exec i s = .next (s.answered i (withdrawUnit unit (s.taken i))) := congrArg Host.Outcome.next (whenOn_takeInHand on rfl _)

theorem exec_restoreUnit (on : s.power.on = true) (tag unit : Byte) :
    let i := Instr.restoreUnit tag unit
    exec i s = .next (s.answered i (restoreUnit unit (s.taken i))) := congrArg Host.Outcome.next (whenOn_takeInHand on rfl _)

theorem exec_markClean (on : s.power.on = true) (tag unit : Byte) :
    let i := Instr.markClean tag unit
    exec i s = .next (s.answered i (markClean unit (s.taken i))) := congrArg Host.Outcome.next (whenOn_takeInHand on rfl _)

/-- Settles O30: the target states of the three requests are entered without a notice. -/
theorem unitsLeaveAndReturnToService : Obligations.UnitsLeaveAndReturnToService := by
  intro s tag unit on u r back w e c
  refine ⟨?_, ?_, ?_⟩
  · rw [exec_withdrawUnit on, withdrawUnit, State.answered_ite]
    refine congrArg Host.Outcome.next (ite_congr rfl (fun _ => rfl) fun one => ?_)
    rw [State.enter_withdrawn_eq _ (not_not.mp one), State.taken_unit]
    change s.answered w (match r.state with | .vacant => _ | .withdrawn => _ | .unconfigured => _ | _ => _) = _
    cases r.state <;> rfl
  · rw [exec_restoreUnit on, restoreUnit, State.answered_ite]
    refine congrArg Host.Outcome.next ?_
    by_cases one : isUnit u
    · rw [if_neg (not_not.mpr one), if_neg (not_not.mpr one), State.answered_ite, State.taken_unit]
      refine if_congr Iff.rfl ?_ rfl
      rw [State.answered_ok, State.enter_vacant_eq _ one, State.taken_unit]
      rfl
    · rw [if_pos one, if_pos one]
      rfl
  · rw [exec_markClean on, markClean, State.answered_ite]
    refine congrArg Host.Outcome.next ?_
    by_cases one : isUnit u
    · rw [if_neg (not_not.mpr one), if_neg (not_not.mpr one), State.answered_ite, State.taken_unit]
      refine if_congr Iff.rfl ?_ rfl
      rw [State.answered_ok, State.cleanUnit_eq _ one, State.taken_unit]
      rfl
    · rw [if_pos one, if_pos one]
      rfl

/-! ## QUERY_UNIT and LIST_UNITS -/

theorem exec_queryUnit (on : s.power.on = true) (tag unit : Byte) :
    let i := Instr.queryUnit tag unit
    exec i s = .next (s.answered i (queryUnit unit (s.taken i))) := congrArg Host.Outcome.next (whenOn_takeInHand on rfl _)

theorem exec_listUnits (on : s.power.on = true) (tag : Byte) (states : BitVec 16) (filter zone start : Byte) :
    let i := Instr.listUnits tag states filter zone start
    exec i s = .next (s.answered i (listUnits states filter zone start (s.taken i))) := congrArg Host.Outcome.next (whenOn_takeInHand on rfl _)

theorem State.unitBytes_taken (s : State) (i : Instr) (u : Nat) : (s.taken i).unitBytes u = s.unitBytes u := by
  simp only [State.unitBytes, State.taken_unit, State.node?, State.taken_str, State.movementOf, State.taken_strings, State.taken_arb]

theorem State.listedUnit_taken (s : State) (i : Instr) (u : Nat) : (s.taken i).listedUnit u = s.listedUnit u := by
  simp only [State.listedUnit, State.taken_unit]

theorem lowTwelve_eq_zero_iff (states : BitVec 16) : states.toNat % 4096 = 0 ↔ ∀ n, n < 12 → states.getLsbD n = false := by
  constructor
  · intro zero n low
    have bit : (states.toNat % 2 ^ 12).testBit n = false := by
      rw [show (2 : Nat) ^ 12 = 4096 from rfl, zero, Nat.zero_testBit]
    rwa [Nat.testBit_mod_two_pow, decide_eq_true low, Bool.true_and] at bit
  · intro clear
    refine Nat.zero_of_testBit_eq_false fun n => ?_
    rw [show 4096 = 2 ^ 12 from rfl, Nat.testBit_mod_two_pow]
    by_cases low : n < 12
    · rw [decide_eq_true low, Bool.true_and]
      exact clear n low
    · rw [decide_eq_false low, Bool.false_and]

/-- Whether the byte of a request lets a kind pass is what its filter says (R207). -/
theorem filter?_passes {b : Byte} {f : KindFilter} (named : filter? b = some f) (k : UnitKind) :
    f.passes k = (b == 2 || (b == 0 && k == .cabin) || (b == 1 && k == .locker)) := by
  have b_eq : b = BitVec.ofNat 8 (filterCode f) := BitVec.eq_of_toNat_eq (by
    rw [(filter?_eq_some_iff b f).mp named]
    cases f <;> rfl)
  subst b_eq
  cases f <;> cases k <;> rfl

/-- Settles O31: the report and the list, from the tables as they stand. -/
theorem unitsAreReported : Obligations.UnitsAreReported := by
  intro s tag unit states filter zone start on q l kindPasses fits found
  constructor
  · rw [exec_queryUnit on, queryUnit, State.answered_ite, State.answered_ok, unitReport_eq_unitBytes, State.unitBytes_taken]
    exact congrArg Host.Outcome.next (ite_not _ _ _)
  · rw [exec_listUnits on, listUnits, State.answered_ite]
    refine congrArg Host.Outcome.next (if_congr Iff.rfl rfl ?_)
    cases named : filter? filter with
    | none => exact (if_pos (Or.inr (Or.inr ((filter?_eq_none_iff filter).mp named)))).symm
    | some f =>
      have low : ¬2 < filter.toNat := fun high => by
        rw [(filter?_eq_none_iff filter).mpr high] at named
        cases named
      have everywhere : (zone.toNat == 0) = (zone == 0) := by
        rw [Bool.eq_iff_iff, beq_iff_eq, beq_iff_eq, ← BitVec.toNat_inj]
        rfl
      have matched : ∀ u, (s.taken l).unitMatches states f zone.toNat u = fits u := by
        intro u
        simp only [State.unitMatches, State.taken_unit, fits, kindPasses, filter?_passes named]
        cases (s.unit u).config <;> simp only [everywhere]
      have list : (unitNumbers.filter fun u => decide (start.toNat ≤ u) && (s.taken l).unitMatches states f zone.toNat u) = found :=
        List.filter_congr fun u _ => by rw [matched]
      have content : ∀ us : List Nat, entries (s.taken l).unitEntry us = u8 us.length ++ (us.map s.listedUnit).flatten := by
        intro us
        rw [entries, funext fun u => (unitEntry_eq_listedUnit (s.taken l) u).trans (s.listedUnit_taken l u)]
      dsimp only
      rw [State.answered_ite, list, content]
      refine if_congr ?_ rfl rfl
      rw [lowTwelve_eq_zero_iff, or_iff_left low]

end Sys2Proof.Machine
end


section
/-! PROOF. The dispatch requests: O37, O40 (R83 to R87, R96, R103 to R105). -/

set_option Elab.async false

namespace Sys2Proof.Machine

variable {s : State}

/-! ## An admission and a release at once -/

theorem recordCause_direction (origin : Origin) (semantics : Option StaffAction) :
    (recordCause origin semantics).direction
      = if recordCause origin semantics = .guestLock ∨ recordCause origin semantics = .staffLock then .lock else .unlock := by
  cases recordCause origin semantics <;> rfl

theorem State.setUnit_arb (s : State) (u : Nat) (r : UnitRecord) : (s.setUnit u r).arb = s.arb :=
  (show Changes [.units] s (s.setUnit u r) by simp) .arb (by decide)

theorem State.setUnit_time (s : State) (u : Nat) (r : UnitRecord) : (s.setUnit u r).time = s.time :=
  (show Changes [.units] s (s.setUnit u r) by simp) .time (by decide)

theorem State.admitRecord_eq (s : State) (u : Nat) (origin : Origin) (semantics : Option StaffAction) (band : Option BandId) (tag : Option Nat) :
    s.admitRecord u origin semantics band tag = s.recordTaken u (recordCause origin semantics) origin semantics band tag := by
  simp only [State.admitRecord, takeIntent_eq, State.setUnit_arb, recordCause_direction]
  rfl

/-- The holder is removed, the state entered and the tag moved on; the notice names the unit as it was (R86). -/
theorem State.freeAtOnce_eq (s : State) {u : Nat} (unit : isUnit u) :
    s.freeAtOnce u =
      ({ s.setUnit u { (s.unit u).freed with state := (s.unit u).adjusted .vacant } with
          dir := s.dirWithout u, arb := { s.arb with nextTag := advanceTag s.arb.nextTag s.arb.demands } } : State).post
        (s.unitNotice .demandDone u (s.unit u).holder (.demand .done) (some s.arb.nextTag)) := by
  have rests : (s.unit u).adjusted .vacant ≠ .cleaning := by
    rcases (s.unit u).adjusted_vacant with state | state <;> simp [state]
  simp only [State.freeAtOnce, State.enter_vacant_removeHolder s unit]
  rw [State.enters_of_ne _ _ (by exact rests)]
  simp only [State.nextTag, State.postDemandDone, State.postUnit_eq, State.setUnit_arb]
  have record : ∀ (d : List Band) (a : Arbiter) (q : UnitRecord), ({ s.setUnit u q with dir := d, arb := a } : State).unit u = q :=
    fun d a q => s.unit_setUnit_self unit q
  have config : ({ (s.unit u).freed with state := (s.unit u).adjusted .vacant } : UnitRecord).config = (s.unit u).config :=
    (s.unit u).freed_config
  refine congrArg (State.post _) ?_
  unfold State.unitNotice
  change NoticeData.mk _ _ _ (Option.map _ (State.unit { s.setUnit u _ with dir := s.dirWithout u, arb := _ } u).config)
    (Option.map _ (State.unit { s.setUnit u _ with dir := s.dirWithout u, arb := _ } u).config) _ _ = _
  rw [record, config]

theorem State.admitDemand_eq (s : State) (u : Nat) (a : StaffAction) :
    s.admitDemand u a
      = { s.recordTaken u (recordCause .staff (some a)) .staff (some a) none (some s.arb.nextTag) with
          arb := { (s.recordTaken u (recordCause .staff (some a)) .staff (some a) none (some s.arb.nextTag)).arb with
            demands := s.arb.demands ++ [{ tag := s.arb.nextTag, unit := u, action := a, inFlight := false }]
            nextTag := advanceTag s.arb.nextTag (s.arb.demands ++ [{ tag := s.arb.nextTag, unit := u, action := a, inFlight := false }]) } } := by
  rw [State.admitDemand, s.admitRecord_eq]
  rfl

/-! ## DEMAND -/

theorem State.unitNotice_taken (s : State) (i : Instr) (kind : NoticeKind) (u : Nat) (band : Option BandId) (code : NoticeCode) (value : Option Nat) :
    (s.taken i).unitNotice kind u band code value = s.unitNotice kind u band code value := by
  rw [State.unitNotice, State.taken_unit, State.unitNotice]

theorem exec_demand (on : s.power.on = true) (tag unit action : Byte) :
    let i := Instr.demand tag unit action
    exec i s = .next (s.answered i (demand unit action (s.taken i))) := congrArg Host.Outcome.next (whenOn_takeInHand on rfl _)

/-- The action a byte up to 2 names (R207). -/
theorem action?_of_le {b : Byte} (le : b.toNat ≤ 2) :
    action? b = some (if b = 0 then .openUnit else if b = 1 then .lockUnit else .freeUnit) := by
  rw [action?_eq_some_iff]
  obtain zero | one | two : b = 0 ∨ b = 1 ∨ b = 2 := by bv_omega
  · rw [zero]; rfl
  · rw [one]; rfl
  · rw [two]; rfl

/-- DEMAND at a unit with a named action: the checks that remain, in their order (R84). -/
theorem demand_of_action {unit action : Byte} {a : StaffAction} (one : isUnit unit.toNat) (named : action? action = some a) (s : State) :
    demand unit action s =
      if (s.unit unit.toNat).state = .locking ∨ (s.unit unit.toNat).state = .unlocking then s.refuse .unitBusy
      else if a.allowed (s.unit unit.toNat).state = false then s.refuse .badState
      else if a = .freeUnit ∧ (s.unit unit.toNat).state = .openHeld then (s.freeAtOnce unit.toNat).ok (u8 s.arb.nextTag)
      else if Config.demandCapacity ≤ s.arb.demands.length then s.refuse .demandLimit
      else if s.queueFull then s.refuse .queueFull
      else (s.admitDemand unit.toNat a).ok (u8 s.arb.nextTag) := by
  rw [demand, if_neg (not_not.mpr one), named]

theorem StaffAction.allowed_iff (a : StaffAction) (st : UnitState) :
    a.allowed st = true ↔ st ∈ (match a with
      | .openUnit => [UnitState.held, .jammed, .forfeited, .occupied, .withdrawn]
      | .lockUnit => [.openHeld]
      | .freeUnit => [.held, .jammed, .forfeited, .verify, .openHeld]) := by
  cases a <;> cases st <;> decide

/-- Settles O37. -/
theorem demandIsCheckedAndTaken : Obligations.DemandIsCheckedAndTaken := by
  intro s tag unit action on few i o u r next act cause allowed busy atOnce refused
  have answers : exec i s = .next (s.answered i (demand unit action o)) := exec_demand on tag unit action
  have refuses : ∀ {st}, demand unit action o = o.refuse st → refused st := fun h => by rw [h] at answers; exact answers
  have arb : o.arb = s.arb := State.taken_arb s i
  have record : o.unit u = r := State.taken_unit s i u
  have busy_iff : busy ↔ (r.state = .locking ∨ r.state = .unlocking) := by simp [busy]
  have checks : isUnit u → action.toNat ≤ 2 → demand unit action o =
      if r.state = .locking ∨ r.state = .unlocking then o.refuse .unitBusy
      else if act.allowed r.state = false then o.refuse .badState
      else if act = .freeUnit ∧ r.state = .openHeld then (o.freeAtOnce u).ok (u8 next)
      else if 8 ≤ s.arb.demands.length then o.refuse .demandLimit
      else if o.queueFull then o.refuse .queueFull
      else (o.admitDemand u act).ok (u8 next) := fun one known => by
    rw [demand_of_action one (action?_of_le known), record, arb]
  have permits : r.state ∈ allowed ↔ act.allowed r.state = true := by
    rw [StaffAction.allowed_iff]
    simp only [allowed, act]
    split
    · exact Iff.rfl
    · split <;> exact Iff.rfl
  have free : action.toNat ≤ 2 → (act = .freeUnit ∧ r.state = .openHeld ↔ atOnce) := fun known => by
    refine and_congr_left fun _ => ?_
    obtain zero | one | two : action = 0 ∨ action = 1 ∨ action = 2 := by bv_omega
    · simp [act, zero]
    · simp [act, one]
    · simp [act, two]
  have rests : r.state ∈ allowed → ¬(r.state = .locking ∨ r.state = .unlocking) := fun mem =>
    (StaffAction.rests_of_allowed (permits.mp mem)).2
  refine ⟨fun other => refuses (if_pos other), fun one high => refuses ?_, fun one known moving => refuses ?_, fun one known still odd => refuses ?_,
    fun one known mem now => ?_, fun one known mem later => ?_⟩
  · rw [demand, if_neg (not_not.mpr one), (action?_eq_none_iff action).mpr high]
  · rw [checks one known, if_pos (busy_iff.mp moving)]
  · rw [checks one known, if_neg (mt busy_iff.mpr still), if_pos (by simpa using mt permits.mpr odd)]
  · rw [checks one known, if_neg (rests mem), if_neg (by simp [permits.mp mem]), if_pos ((free known).mpr now), o.freeAtOnce_eq one, arb, record,
      State.dirWithout_congr (State.taken_dir s i) (by rw [record]), State.unitNotice_taken] at answers
    exact ⟨_, advanceTag_spec next (lt_of_le_of_lt few (by decide)), answers⟩
  · rw [checks one known, if_neg (rests mem), if_neg (by simp [permits.mp mem]), if_neg (mt (free known).mp later)] at answers
    by_cases many : s.arb.demands.length = 8
    · rw [if_pos many]
      rw [if_pos (by omega)] at answers
      exact answers
    · rw [if_neg many]
      rw [if_neg (by omega)] at answers
      have full : o.queueFull = true ↔ 32 ≤ s.arb.queue.length := by
        rw [State.queueFull, arb]
        exact decide_eq_true_iff
      by_cases long : 32 ≤ s.arb.queue.length
      · rw [if_pos long]
        rw [if_pos (full.mpr long)] at answers
        exact answers
      · rw [if_neg long]
        rw [if_neg (mt full.mp long)] at answers
        have causes : recordCause .staff (some act) = cause := by
          simp only [act, cause]
          split
          · rfl
          · split <;> rfl
        have admitted : o.admitDemand u act
            = { o.recordTaken u cause .staff (some act) none (some next) with
                arb := { (o.recordTaken u cause .staff (some act) none (some next)).arb with
                  demands := s.arb.demands ++ [{ tag := next, unit := u, action := act, inFlight := false }]
                  nextTag := advanceTag next (s.arb.demands ++ [{ tag := next, unit := u, action := act, inFlight := false }]) } } := by
          rw [State.admitDemand_eq, causes, arb]
        rw [admitted] at answers
        exact ⟨_, advanceTag_spec next (by rw [List.length_append]; exact lt_of_le_of_lt (Nat.add_le_add_right few 1) (by decide)), answers⟩

/-! ## QUIESCE, RESUME and closing urgency -/

theorem exec_quiesce (on : s.power.on = true) (tag : Byte) :
    let i := Instr.quiesce tag
    exec i s = .next (s.answered i (quiesce (s.taken i))) := congrArg Host.Outcome.next (whenOn_takeInHand on rfl _)

theorem exec_resume (on : s.power.on = true) (tag : Byte) :
    let i := Instr.resume tag
    exec i s = .next (s.answered i (resume (s.taken i))) := congrArg Host.Outcome.next (whenOn_takeInHand on rfl _)

/-- Settles O40. -/
theorem serviceStopsAndResumes : Obligations.ServiceStopsAndResumes := by
  intro s tag on q r stand
  have arb : (s.taken q).arb = s.arb := State.taken_arb s q
  refine ⟨?_, ?_, ?_⟩
  · rw [exec_quiesce on]
    refine congrArg Host.Outcome.next ?_
    rw [quiesce, arb]
    cases s.arb.service with
    | quiescing => rfl
    | quiesced => rfl
    | running =>
      have flying : (s.taken q).inFlightCount = 0 ↔ ¬∃ i ∈ allStrings, (s.str i).inFlight ≠ none := by
        rw [State.inFlightCount_eq_zero_iff]
        simp only [State.taken_str, not_exists, not_and, not_not]
      dsimp only
      rw [State.answered_ite, State.enterQuiesced, arb]
      by_cases some_ : ∃ i ∈ allStrings, (s.str i).inFlight ≠ none
      · rw [if_neg (fun zero => flying.mp zero some_), if_pos some_]
        rfl
      · rw [if_pos (flying.mpr some_), if_neg some_]
        rfl
  · rw [exec_resume on]
    refine congrArg Host.Outcome.next ?_
    rw [resume, State.answered_ite, State.taken_arb]
    exact if_congr Iff.rfl rfl rfl
  · refine (next_whenOn on _).trans (congrArg Host.Outcome.next ?_)
    rw [State.urgencyExpiry]
    cases s.arb.urgencyTimer <;> rfl

end Sys2Proof.Machine
end


section
/-! PROOF. The reports of dispatch, supply and strings: O41 (R106, R122, R150). -/

set_option Elab.async false

namespace Sys2Proof.Machine

variable {s : State}

/-! ## The items of QUERY_DISPATCH (R106) -/

theorem bits_three (a b c : Bool) : bits [a, b, c] = a.toNat + 2 * b.toNat + 4 * c.toNat := by
  simp only [bits]
  omega

theorem State.recordEntry_eq (s : State) (r : ActRecord) :
    s.recordEntry r = u8 (r.semantics.isSome.toNat + 2 * r.band.isSome.toNat + 4 * r.tag.isSome.toNat) ++ u8 r.unit ++ u8 (directionCode r.direction)
      ++ u8 (originCode r.origin) ++ u8 (r.semantics.elim 0 actionCode) ++ u32 (r.band.elim 0 (·.toNat)) ++ u8 (r.tag.getD 0)
      ++ u32 (s.time.timebase - r.enqueuedAt).toNat := by
  have semantics : sized 1 (fun a => u8 (actionCode a)) r.semantics = u8 (r.semantics.elim 0 actionCode) := by cases r.semantics <;> rfl
  have band : sized 4 (fun b : BandId => u32 b.toNat) r.band = u32 (r.band.elim 0 (·.toNat)) := by cases r.band <;> rfl
  have tag : sized 1 u8 r.tag = u8 (r.tag.getD 0) := by cases r.tag <;> rfl
  rw [State.recordEntry, bits_three, semantics, band, tag]
  rfl

theorem State.offersFor_eq (s : State) (i : StringId) :
    entries (fun x : Nat × Origin => u8 x.1 ++ u8 (originCode x.2)) (s.offersFor i)
      = entries id ((((s.slot .evacuation).offers.get i).toList.map fun o => u8 o.unit ++ u8 3)
          ++ (((s.slot .closing).offers.get i).toList.map fun o => u8 o.unit ++ u8 4)) := by
  cases evacuation : (s.slot .evacuation).offers.get i <;> cases closing : (s.slot .closing).offers.get i <;>
    simp [State.offersFor, evacuation, closing, entries, slotOrigin, originCode]

theorem State.stringInhibit_eq (s : State) (i : StringId) :
    s.stringInhibit i = match (s.str i).state with | .degraded => u8 1 ++ u8 3 | .off => u8 1 ++ u8 4 | _ => u8 0 ++ u8 0 := by
  rw [State.stringInhibit]
  cases (s.str i).state <;> rfl

theorem State.nextPosition_eq (s : State) (n : Nat) : s.nextPosition n = if s.arb.queue.length < n + 8 then 0 else n + 8 := by
  rw [State.nextPosition, ← ite_not]
  exact if_congr not_le rfl rfl

theorem State.recordEntry_taken (s : State) (i : Instr) : (s.taken i).recordEntry = s.recordEntry :=
  funext fun r => by rw [State.recordEntry, State.ageOf, State.taken_time]; rfl

theorem State.stringDispatch_taken (s : State) (i : Instr) : (s.taken i).stringDispatch = s.stringDispatch :=
  funext fun j => by
    have slots : ∀ k, (s.taken i).slot k = s.slot k := State.slot_congr (s.taken_sweeps i)
    simp only [State.stringDispatch, State.offersFor, State.taken_str, slots]

theorem State.stringInhibit_taken (s : State) (i : Instr) : (s.taken i).stringInhibit = s.stringInhibit :=
  funext fun j => by rw [State.stringInhibit, State.taken_str]; rfl

theorem State.dispatchReport_taken (s : State) (i : Instr) (n : Nat) : (s.taken i).dispatchReport n = s.dispatchReport n := by
  simp only [State.dispatchReport, State.recordEntry_taken, State.stringDispatch_taken, State.stringInhibit_taken, State.nextPosition,
    State.sweepActive, State.slot, State.taken_arb, State.taken_supply, State.taken_sweeps]

/-- The content of a QUERY_DISPATCH reply, item by item (R106). -/
theorem State.dispatchReport_eq (s : State) (n : Nat) :
    s.dispatchReport n = u8 (serviceCode s.arb.service) ++ flag s.arb.urgent ++ optional 4 u32 s.arb.urgencyTimer ++ u8 s.arb.queue.length
      ++ entries s.recordEntry ((s.arb.queue.drop (n - 1)).take 8) ++ u8 (s.nextPosition n)
      ++ entries Demand.entry s.arb.demands
      ++ s.stringDispatch .a ++ s.stringDispatch .b ++ s.stringDispatch .c ++ s.stringDispatch .d
      ++ flag s.supply.lowLevel ++ flag s.supply.throttled ++ flag s.sweeps.alarm ++ flag (s.sweeps.evacuation.state != .inactive)
      ++ s.stringInhibit .a ++ s.stringInhibit .b ++ s.stringInhibit .c ++ s.stringInhibit .d ++ u8 s.arb.nextTag := by
  simp only [State.dispatchReport, allStrings, List.map_cons, List.map_nil, List.flatten_cons, List.flatten_nil, List.append_nil,
    List.append_assoc]
  rfl

/-! ## Flags as received -/

theorem yesNo?_eq_none_iff (b : Byte) : yesNo? b = none ↔ 1 < b.toNat := by
  rw [yesNo?_eq, ite_eq_right_iff]
  simp

theorem yesNo?_eq_some_iff (b : Byte) (yes : Bool) : yesNo? b = some yes ↔ b = if yes then 1 else 0 := by
  rw [yesNo?_eq, ← BitVec.toNat_inj]
  cases yes <;> simp <;> omega

/-! ## The items of QUERY_SUPPLY and QUERY_STRING (R122, R150) -/

theorem State.supplyReport_taken (s : State) (i : Instr) : (s.taken i).supplyReport = s.supplyReport := by
  simp only [State.supplyReport, State.inFlightCount, State.limitedCount, State.ticksToRelease, State.ticksToFit, State.taken_params,
    State.taken_supply, State.taken_strings]

theorem State.unitAt_taken (s : State) (i : Instr) (j : StringId) (addr : Nat) : (s.taken i).unitAt j addr = s.unitAt j addr := by
  have same : (s.taken i).unitNode = s.unitNode := funext (s.unitNode_taken i)
  rw [State.unitAt, same, State.unitAt]

theorem State.nodeEntry_taken (s : State) (i : Instr) (j : StringId) : (s.taken i).nodeEntry j = s.nodeEntry j :=
  funext fun n => by rw [State.nodeEntry, State.unitAt_taken]; rfl

theorem State.stringReport_taken (s : State) (i : Instr) (j : StringId) (n : Nat) : (s.taken i).stringReport j n = s.stringReport j n := by
  simp only [State.stringReport, State.nodeEntry_taken, State.taken_str, State.taken_params]

theorem State.nodeEntry_eq (s : State) (j : StringId) (x : NodeRecord) :
    s.nodeEntry j x = flag x.lastSeq.isSome ++ u8 x.addr ++ u8 ((s.unitAt j x.addr).getD 0) ++ u8 (presenceCode x.presence) ++ u8 x.misses
      ++ u8 (doorCode x.door) ++ u8 (boltCode x.bolt) ++ u8 (insideCode x.inside) ++ u8 (x.lastSeq.getD 0)
      ++ u8 (indicatorCode x.pending) ++ flag x.readerMark ++ flag x.actuatorMark ++ flag x.readerLatch ++ flag x.actuatorLatch := by
  have last : sized 1 u8 x.lastSeq = u8 (x.lastSeq.getD 0) := by cases x.lastSeq <;> rfl
  have presence : u8 (bits [x.lastSeq.isSome]) = flag x.lastSeq.isSome := by cases x.lastSeq <;> rfl
  rw [State.nodeEntry, last, presence]

theorem exec_queryDispatch (on : s.power.on = true) (tag start : Byte) :
    let i := Instr.queryDispatch tag start
    exec i s = .next (s.answered i (queryDispatch start (s.taken i))) := congrArg Host.Outcome.next (whenOn_takeInHand on rfl _)

theorem exec_querySupply (on : s.power.on = true) (tag clear : Byte) :
    let i := Instr.querySupply tag clear
    exec i s = .next (s.answered i (querySupply clear (s.taken i))) := congrArg Host.Outcome.next (whenOn_takeInHand on rfl _)

theorem exec_queryString (on : s.power.on = true) (tag string start clear : Byte) :
    let i := Instr.queryString tag string start clear
    exec i s = .next (s.answered i (queryString string start clear (s.taken i))) := congrArg Host.Outcome.next (whenOn_takeInHand on rfl _)

/-- Settles O41. -/
theorem dispatchSupplyAndStringsAreReported : Obligations.DispatchSupplyAndStringsAreReported := by
  intro s tag start clear string on q p g n age record offer line inhibit here flying ticks fit f
  refine ⟨?_, ?_, fun bad => ?_, fun j named low high yes => ?_⟩
  · rw [exec_queryDispatch on]
    refine congrArg Host.Outcome.next ?_
    rw [queryDispatch, State.answered_ite, State.answered_ok, State.answered_refuse, State.dispatchReport_taken, ← ite_not]
    refine if_congr (by omega) rfl (congrArg _ ?_)
    have records : entries s.recordEntry here = u8 here.length ++ (here.map record).flatten := by
      rw [entries, funext s.recordEntry_eq]
    have lines : ∀ j, s.stringDispatch j = line j := fun j => by
      rw [State.stringDispatch, State.offersFor_eq]
    have inhibits : ∀ j, s.stringInhibit j = inhibit j := s.stringInhibit_eq
    have demands : entries Demand.entry s.arb.demands = u8 s.arb.demands.length
      ++ (s.arb.demands.map fun d => u8 d.tag ++ u8 d.unit ++ u8 (actionCode d.action) ++ flag d.inFlight).flatten := rfl
    rw [State.dispatchReport_eq, records, demands, s.nextPosition_eq]
    simp only [lines, inhibits, List.append_assoc]
    rfl
  · rw [exec_querySupply on]
    refine congrArg Host.Outcome.next ?_
    rw [querySupply, State.supplyReport_taken]
    have report : s.supplyReport = u16 s.supply.account ++ flag s.supply.throttled
        ++ u16 f.kL ++ u16 f.kC ++ u8 f.d ++ u16 f.lw ++ u16 f.hw ++ u16 f.c
        ++ flag s.supply.lowLevel ++ flag s.supply.limitLevel ++ flag s.supply.lowSeen ++ flag s.supply.limitSeen
        ++ u8 (s.strings.toList.countP flying)
        ++ u8 (s.strings.toList.countP fun c => c.inFlight.elim false (·.limited))
        ++ u16 (f.c - s.supply.account)
        ++ u32 (if s.supply.throttled then ticks (s.supply.account - f.lw) else 0)
        ++ fit f.kL ++ fit f.kC := by
      simp only [State.supplyReport, SupplyParams.bytes, List.append_assoc]
      rfl
    cases answer : yesNo? clear with
    | none => exact (if_pos ((yesNo?_eq_none_iff clear).mp answer)).symm
    | some yes =>
      rw [← report, if_neg fun high => by rw [(yesNo?_eq_none_iff clear).mpr high] at answer; cases answer]
      have clear_eq := (yesNo?_eq_some_iff clear yes).mp answer
      cases yes with
      | false => exact congrArg (fun t => p.reply s t .ok s.supplyReport) (if_neg (by rw [clear_eq]; decide)).symm
      | true =>
        refine congrArg (fun t => p.reply s t .ok s.supplyReport) (Eq.trans ?_ (if_pos clear_eq).symm)
        rw [State.setSupply, State.taken_supply]
        rfl
  · rw [exec_queryString on]
    refine congrArg Host.Outcome.next ?_
    rw [queryString]
    cases place : string? string with
    | none => rfl
    | some j =>
      cases answer : yesNo? clear with
      | none => rfl
      | some yes =>
        dsimp only
        rw [State.answered_ite, if_neg fun range => ?_]
        · rfl
        rcases bad with high | low | high | high
        · rw [(string?_eq_none_iff string).mpr high] at place
          cases place
        · omega
        · omega
        · rw [(yesNo?_eq_none_iff clear).mpr high] at answer
          cases answer
  · intro c rest listed node flight cleared
    rw [exec_queryString on]
    refine congrArg Host.Outcome.next ?_
    rw [queryString, yesNo?_eq, named, if_pos yes]
    dsimp only
    rw [if_pos ⟨low, high⟩, State.answered_ok, State.stringReport_taken]
    have report : s.stringReport j start.toNat = u8 (stringStateCode (s.str j).state) ++ u16 (s.str j).score ++ u32 s.roundPeriod
        ++ u8 (s.str j).roundCount ++ flag (s.str j).inRound
        ++ optional 4 u32 (s.str j).recoveryTimer ++ flag s.params.strings.auto ++ (s.str j).inFlightBytes ++ optional 4 u32 (s.str j).gapTimer
        ++ u8 (s.str j).nodes.length ++ entries (s.nodeEntry j) (((s.str j).nodesFrom start.toNat).take 12)
        ++ u8 ((((s.str j).nodesFrom start.toNat).drop 12).head?.elim 0 (·.addr)) := rfl
    rw [report, entries, funext (s.nodeEntry_eq j), State.taken_str]
    refine congrArg₂ (g.reply s · .ok ·) ?_ ?_
    · refine if_congr (by rw [beq_iff_eq, ← BitVec.toNat_inj]; rfl) ?_ rfl
      have latches : (s.str j).clearLatches ((((s.str j).nodesFrom start.toNat).take 12).map (·.addr)) = cleared := by
        simp only [StringCtl.clearLatches, List.contains_iff_mem]
        rfl
      rw [latches, State.setStr, State.setStrings, State.taken_strings]
    · simp only [StringCtl.inFlightBytes, List.append_assoc]
      rfl

end Sys2Proof.Machine
end


section
/-! PROOF. The two starts: O6, O7 (R29 to R31). -/

set_option Elab.async false

namespace Sys2Proof.Machine

variable {s : State}

/-! ## The lines are read -/

theorem exec_currentLimitChange_same (on : s.power.on = true) : exec (.currentLimitChange s.pins.currentLimit) s
    = .next (s.takeCurrentLimit s.pins.currentLimit) := exec_currentLimitChange on _

theorem exec_supplyLowChange_same {a : Bool} (on : s.power.on = true) (same : s.pins.supplyLow = a) :
    exec (.supplyLowChange a) s = .next (s.takeSupplyLow a) := by
  subst same
  exact exec_supplyLowChange on _

theorem exec_alarmLevelChange_same {a : Bool} (on : s.power.on = true) (same : s.pins.alarm = a) :
    exec (.alarmLevelChange a) s = .next (s.takeAlarm a) := by
  subst same
  exact exec_alarmLevelChange on _

/-- Reading the lines is taking the three levels that stand on them. -/
theorem leads_readLines (on : s.power.on = true) :
    Leads [.currentLimitChange s.pins.currentLimit, .supplyLowChange s.pins.supplyLow, .alarmLevelChange s.pins.alarm] s s.readLines := by
  have limited : Changes [.supply, .strings] s (s.takeCurrentLimit s.pins.currentLimit) := by simp
  have low : Changes [.supply, .strings, .arb, .link, .notices, .counters] s
      ((s.takeCurrentLimit s.pins.currentLimit).takeSupplyLow s.pins.supplyLow) := by simp
  have pinsLimited := limited .pins (by decide)
  have pinsLow := low .pins (by decide)
  refine ⟨_, exec_currentLimitChange_same on, _,
    exec_supplyLowChange_same ((congrArg Power.on (limited .power (by decide))).trans on) (congrArg Pins.supplyLow pinsLimited), _,
    exec_alarmLevelChange_same ((congrArg Power.on (low .power (by decide))).trans on) (congrArg Pins.alarm pinsLow), ?_⟩
  simp only [State.readLines]
  rw [pinsLimited, pinsLow]
  rfl

/-! ## The first rounds -/

/-- A free line whose round has addresses left, and which no grant pass holds, takes its next exchange (R130). -/
theorem sendNext_of_free {i : StringId} (free : (s.str i).exchange = none) (going : (s.str i).held = false) (left : (s.str i).roundOver = false) :
    s.sendNext i = s.setStr i (s.str i).chooses := by
  have self : s.setStr i (s.str i) = s := congrArg s.setStrings (PerString.set_get _ _)
  have round : s.settleRound i = s := by
    rw [settleRound_eq, StringCtl.late, StringCtl.settled, left]
    exact self
  rw [State.sendNext, if_neg (by rw [free]; decide), round, chooseNext_eq free, if_neg (by rw [going]; decide)]

/-- A string once its first round has begun: the lowest address is polled (R129, R151). -/
def StringCtl.firstPoll (nodes : List NodeRecord) (period : Nat) : StringCtl :=
  match nodes with
  | [] => .started []
  | n :: rest =>
    { ({ StringCtl.started (n :: rest) with roundTimer := some period, cursor := none, inRound := true } : StringCtl).sends n.addr .poll false with
      cursor := some n.addr }

theorem firstRound_started {i : StringId} {nodes : List NodeRecord} (started : s.str i = .started nodes) :
    s.firstRound i = s.setStr i (StringCtl.firstPoll nodes s.roundPeriod) := by
  have self : s.setStr i (s.str i) = s := congrArg s.setStrings (PerString.set_get _ _)
  cases nodes with
  | nil =>
    rw [State.firstRound, started, if_neg (by decide)]
    rw [started] at self
    exact self.symm
  | cons n rest =>
    rw [State.firstRound, started, if_pos (by rfl), State.beginRound, started, State.roundPeriod_eq,
      sendNext_of_free (by rw [State.str_setStr_self]; rfl) (by rw [State.str_setStr_self]; rfl) (by rw [State.str_setStr_self]; rfl),
      State.str_setStr_self, State.setStr_setStr]
    rfl

/-! ## Settling -/

theorem rosterOf_cold (i : StringId) : rosterOf (Vector.replicate 240 UnitRecord.cold) i = [] := by
  rw [rosterOf_eq, Vector.toList_replicate]
  generalize 240 = n
  induction n with
  | zero => rfl
  | succ n ih => exact ih

/-- The notice of a start is stored in an empty queue, whatever the enables (R202, R206). -/
theorem post_start {s : State} (empty : s.notices.stored = []) (warm : Bool) :
    s.post { kind := .start, code := .start warm } = s.storeNotice { kind := .start, code := .start warm } := by
  rw [State.post, if_neg (by simp [State.kindEnabled]), if_neg (by rw [empty]; decide)]

/-- The values of a cold start, with its notice (R30, R206). -/
theorem coldStart_eq (s : State) :
    (s.startValues false).post { kind := .start, code := .start false } = { State.reset with pins := s.pins, pending := s.pending } := by
  rw [post_start rfl, State.storeNotice]
  simp only [State.startValues, Bool.false_eq_true, if_false, rosterOf_cold, State.setNotices, State.setLink, State.stamp]
  rfl

theorem coldStart_firstRounds (s : State) : allStrings.foldl State.firstRound { State.reset with pins := s.pins, pending := s.pending }
    = { State.reset with pins := s.pins, pending := s.pending } := rfl

/-- Settles O6. -/
theorem powerUpWithoutAMatchStartsCold : Obligations.PowerUpWithoutAMatchStartsCold := by
  intro s mismatch
  refine ⟨s.start s.power.codeMatches, rfl, ?_⟩
  rw [mismatch, State.start, coldStart_eq, coldStart_firstRounds]
  exact leads_readLines (s := { State.reset with pins := s.pins, pending := s.pending }) rfl

/-! ## A warm start -/

theorem State.unitNode_startValues_warm (s : State) (u : Nat) : (s.startValues true).unitNode u = s.unitNode u := by
  rw [State.unitNode, State.unit_startValues_warm]
  rfl

theorem insertNode_le (n : NodeRecord) (nodes : List NodeRecord) (h : (nodes.map (·.addr)).Pairwise (· ≤ ·)) :
    ((insertNode n nodes).map (·.addr)).Pairwise (· ≤ ·) := by
  induction nodes with
  | nil => simp [insertNode]
  | cons x rest ih =>
    rw [List.map_cons, List.pairwise_cons] at h
    obtain ⟨least, sorted⟩ := h
    unfold insertNode
    split
    case isTrue first =>
      rw [List.map_cons, List.map_cons, List.pairwise_cons, List.pairwise_cons]
      refine ⟨fun b hb => ?_, least, sorted⟩
      obtain rfl | hb := List.mem_cons.mp hb
      · exact first.le
      · exact first.le.trans (least b hb)
    case isFalse later =>
      rw [List.map_cons, List.pairwise_cons]
      refine ⟨fun b hb => ?_, ih sorted⟩
      obtain rfl | hb := (mem_insertNode_addrs n rest b).mp hb
      · exact not_lt.mp later
      · exact least b hb

theorem mem_insertNode (n x : NodeRecord) (nodes : List NodeRecord) : x ∈ insertNode n nodes ↔ x = n ∨ x ∈ nodes := by
  induction nodes with
  | nil => simp [insertNode]
  | cons y rest ih =>
    unfold insertNode
    split
    · simp
    · rw [List.mem_cons, ih, List.mem_cons]
      exact or_left_comm

/-- The roster of a start stands in ascending order, of added nodes (R151). -/
theorem rosterOf_sorted (units : Vector UnitRecord 240) (i : StringId) :
    ((rosterOf units i).map (·.addr)).Pairwise (· ≤ ·) ∧ ∀ n ∈ rosterOf units i, n = NodeRecord.added n.addr := by
  rw [rosterOf_eq]
  refine List.foldlRecOn (motive := fun nodes : List NodeRecord => (nodes.map (·.addr)).Pairwise (· ≤ ·) ∧ ∀ n ∈ nodes, n = NodeRecord.added n.addr)
    _ _ ⟨List.Pairwise.nil, by simp⟩ fun nodes ⟨sorted, added⟩ r _ => ?_
  unfold UnitRecord.enterRoster
  split
  case h_1 a _ =>
    refine ⟨insertNode_le _ _ sorted, fun n mem => ?_⟩
    rcases (mem_insertNode _ _ _).mp mem with rfl | mem
    · rfl
    · exact added n mem
  case h_2 => exact ⟨sorted, added⟩

theorem State.mem_rosterOf_iff (s : State) (i : StringId) (a : Nat) :
    a ∈ (rosterOf s.units i).map (·.addr) ↔ ∃ u, isUnit u ∧ s.unitNode u = some (i, a) := by
  rw [rosterOf_eq, (enterRoster_foldl i s.units.toList []).1]
  simp only [List.map_nil, List.not_mem_nil, false_or, State.mem_units_iff, UnitRecord.addrOn_eq_some_iff]
  constructor
  · rintro ⟨r, ⟨u, unit, rfl⟩, place⟩
    exact ⟨u, unit, place⟩
  · rintro ⟨u, unit, place⟩
    exact ⟨_, ⟨u, unit, rfl⟩, place⟩

/-- The values of a warm start, with its notice (R31, R206). -/
def State.warmValues (s : State) : State := (s.startValues true).post { kind := .start, code := .start true }

/-- A warm start, once its first rounds have begun (R31, R151). -/
def State.warmStarted (s : State) : State := allStrings.foldl State.firstRound s.warmValues

/-- A string of a warm start, once its first round has begun. -/
def State.warmString (s : State) (i : StringId) : StringCtl := StringCtl.firstPoll (rosterOf (s.startValues true).units i) s.roundPeriod

theorem State.warmStarted_eq (s : State) :
    s.warmStarted =
      (((s.warmValues.setStr .a (s.warmString .a)).setStr .b (s.warmString .b)).setStr .c (s.warmString .c)).setStr .d (s.warmString .d) := by
  have started : ∀ i, s.warmValues.str i = .started (rosterOf (s.startValues true).units i) :=
    fun i => (State.post_str _ _ i).trans (s.str_startValues true i)
  have params : s.warmValues.params = s.params := State.post_params _ _
  have first : ∀ (t : State) (i : StringId), t.str i = s.warmValues.str i → t.params = s.warmValues.params →
      t.firstRound i = t.setStr i (s.warmString i) := fun t i string same => by
    rw [firstRound_started (string.trans (started i)), State.roundPeriod, same, params]
    rfl
  change ((((s.warmValues.firstRound .a).firstRound .b).firstRound .c).firstRound .d) = _
  rw [first s.warmValues .a rfl rfl, first (s.warmValues.setStr _ _) .b rfl rfl, first ((s.warmValues.setStr _ _).setStr _ _) .c rfl rfl,
    first (((s.warmValues.setStr _ _).setStr _ _).setStr _ _) .d rfl rfl]

theorem State.str_warmStarted (s : State) (i : StringId) : s.warmStarted.str i = s.warmString i := by
  rw [State.warmStarted_eq]
  cases i <;> rfl

theorem changes_warmStarted (s : State) : Changes [.strings] s.warmValues s.warmStarted := by
  rw [State.warmStarted_eq]
  simp

theorem State.warmValues_eq (s : State) : s.warmValues = (s.startValues true).storeNotice { kind := .start, code := .start true } :=
  post_start rfl true

/-- Every string of a warm start, with the nodes that the units name (R31, R151). -/
theorem StringCtl.firstPoll_spec (nodes : List NodeRecord) (period : Nat) :
    let c := StringCtl.firstPoll nodes period
    c.score = 0 ∧ c.inFlight = none ∧ c.roundCount = 0 ∧ c.state = (if c.nodes = [] then .idle else .active)
      ∧ c.recoveryTimer = none ∧ c.settleTimer = none ∧ c.gapTimer = none ∧ c.held = false ∧ c.nodes = nodes
      ∧ c.exchange.map (·.node) = (c.nodes.map (·.addr)).head? := by
  cases nodes <;> exact ⟨rfl, rfl, rfl, rfl, rfl, rfl, rfl, rfl, rfl, rfl⟩

/-- Settles O7. -/
theorem warmStartKeepsWhatIsRetained : Obligations.WarmStartKeepsWhatIsRetained := by
  intro c s start
  have same := changes_warmStarted s
  have values := s.warmValues_eq
  refine ⟨s.warmStarted, s.warmStarted.readLines, ?_, ?_, fun u _ => ?_, ?_⟩
  · rcases start with ⟨rfl, code⟩ | ⟨rfl, on⟩
    · exact congrArg (fun warm => Host.Outcome.next (s.start warm)) code
    · exact next_whenOn on _
  · have pins : s.warmStarted.pins = s.pins := by rw [same .pins (by decide), values]; rfl
    rw [← pins]
    exact leads_readLines (by rw [same .power (by decide), values]; rfl)
  · rw [State.unit_congr (same .units (by decide)), values]
    exact s.unit_startValues_warm u
  · refine ⟨?_, ?_, ?_, ?_, ?_, ?_, ?_, ?_, ?_, ?_, ?_, ?_, ?_, ?_, ?_, fun i => ?_⟩
    · rw [same .dir (by decide), values]; rfl
    · rw [same .params (by decide), values]; rfl
    · rw [same .enables (by decide), values]; rfl
    · rw [same .pins (by decide), values]; rfl
    · rw [same .pending (by decide), values]; rfl
    · rw [same .decisions (by decide), values]; rfl
    · rw [same .arb (by decide), values]; rfl
    · rw [same .supply (by decide), values]; rfl
    · rw [same .sweeps (by decide), values]; rfl
    · rw [same .time (by decide), values]; rfl
    · rw [same .counters (by decide), values]; rfl
    · rw [same .census (by decide), values]; rfl
    · rw [same .power (by decide), values]; rfl
    · rw [same .notices (by decide), values]; rfl
    · rw [same .link (by decide), values]; rfl
    obtain ⟨score, flight, count, state, recovery, settle, gap, held, nodes, exchange⟩ :=
      StringCtl.firstPoll_spec (rosterOf (s.startValues true).units i) s.roundPeriod
    obtain ⟨sorted, added⟩ := rosterOf_sorted (s.startValues true).units i
    rw [s.str_warmStarted]
    refine ⟨score, flight, count, state, recovery, settle, gap, held, ?_, ?_, fun a => ?_, exchange⟩
    · exact (congrArg (fun l : List NodeRecord => (l.map (·.addr)).Pairwise (· ≤ ·)) nodes).mpr sorted
    · exact (congrArg (fun l : List NodeRecord => ∀ n ∈ l, n = NodeRecord.added n.addr) nodes).mpr added
    · refine (congrArg (fun l : List NodeRecord => a ∈ l.map (·.addr)) nodes).to_iff.trans ((s.startValues true).mem_rosterOf_iff i a |>.trans ?_)
      simp only [State.unitNode_startValues_warm]

end Sys2Proof.Machine
end


section
/-! PROOF. The walk of a string: O53 (R157 to R160). -/

set_option Elab.async false

namespace Sys2Proof.Machine

variable {s t : State}

/-! ## A change of a slot stands beside the rest of the tables -/

theorem post_setSlot (s : State) (k : SlotId) (x : SweepSlot) (d : NoticeData) : (s.setSlot k x).post d = (s.post d).setSlot k x := by
  unfold State.post
  by_cases off : (!s.kindEnabled d.kind) = true
  · rw [if_pos off]
    cases k <;> exact if_pos off
  · rw [if_neg off]
    by_cases full : Config.noticeCapacity ≤ s.notices.stored.length
    · rw [if_pos full]
      cases k <;> exact (if_neg off).trans (if_pos full)
    · rw [if_neg full]
      cases k <;> exact (if_neg off).trans (if_neg full)

theorem setUnit_setSlot (s : State) (k : SlotId) (x : SweepSlot) (u : Nat) (r : UnitRecord) :
    (s.setSlot k x).setUnit u r = (s.setUnit u r).setSlot k x := by
  unfold State.setUnit
  cases k <;> split <;> rfl

theorem enters_setSlot (s : State) (k : SlotId) (x : SweepSlot) (u : Nat) (r : UnitRecord) :
    (s.setSlot k x).enters u r = (s.enters u r).setSlot k x := by
  unfold State.enters
  dsimp only
  rw [setUnit_setSlot, post_setSlot]
  split <;> rfl

theorem State.unit_setSlot (s : State) (k : SlotId) (x : SweepSlot) (u : Nat) : (s.setSlot k x).unit u = s.unit u := by cases k <;> rfl

theorem withdrawn_setSlot (s : State) (k : SlotId) (x : SweepSlot) (u : Nat) : (s.setSlot k x).withdrawn u = (s.withdrawn u).setSlot k x := by
  unfold State.withdrawn
  rw [State.unit_setSlot, show (s.setSlot k x).dirWithout u = s.dirWithout u by cases k <;> rfl, show (s.setSlot k x).dir = s.dir by cases k <;> rfl]
  cases (s.unit u).intent with
  | none => rfl
  | some i =>
    dsimp only
    rw [enters_setSlot]
    cases k <;> rfl

theorem guestWithdrawn_setSlot (s : State) (k : SlotId) (x : SweepSlot) (u : Nat) (why : WithdrawReason) :
    (s.setSlot k x).guestWithdrawn u why = (s.guestWithdrawn u why).setSlot k x := by
  have arb : (s.setSlot k x).arb = s.arb := by cases k <;> rfl
  unfold State.guestWithdrawn
  rw [arb]
  cases s.arb.queue.find? fun r => r.unit == u && r.origin != .staff with
  | none => rfl
  | some r =>
    have notice : ∀ c v, (s.setSlot k x).unitNotice .guestWithdrawn u r.band c v = s.unitNotice .guestWithdrawn u r.band c v := fun c v => by
      rw [State.unitNotice, State.unit_setSlot, State.unitNotice]
    have unqueued : ∀ a : Arbiter, ({ s.setSlot k x with arb := a } : State) = ({ s with arb := a } : State).setSlot k x := by cases k <;> exact fun _ => rfl
    dsimp only
    rw [unqueued, withdrawn_setSlot, post_setSlot, notice]

theorem supersede_setSlot (s : State) (k l : SlotId) (x : SweepSlot) (u : Nat) : (s.setSlot k x).supersede l u = (s.supersede l u).setSlot k x := by
  cases l
  · simp only [State.supersede, withdrawGuest_eq_guestWithdrawn, guestWithdrawn_setSlot]
  · rfl

theorem supersede_eq_visited (s : State) (k : SlotId) (u : Nat) : s.supersede k u = s.visited k u := by
  cases k
  · exact withdrawGuest_eq_guestWithdrawn s u .superseded
  · rfl

/-! ## A release at once (R157, R163) -/

theorem releaseByClosing_eq (s : State) (u : Nat) (wasOpen : Bool) :
    s.releaseByClosing u wasOpen =
      (if (s.unit u).holder = none then s
        else s.post (s.unitNotice .unitReleased u (s.unit u).holder (.released wasOpen) (some (s.unit u).dwell))).removeHolder u := by
  unfold State.releaseByClosing
  cases holder : (s.unit u).holder with
  | none => exact (State.removeHolder_of_none holder).symm
  | some b =>
    dsimp only
    rw [State.postUnit_eq]
    rfl

theorem releaseAtOnce_eq_releasedOpen (s : State) (k : SlotId) {u : Nat} (unit : isUnit u) : s.releaseAtOnce k u = s.releasedOpen k u := by
  unfold State.releaseAtOnce State.releasedOpen
  rw [releaseByClosing_eq, State.enter_vacant_removeHolder _ unit]
  dsimp only
  generalize told : (if (s.unit u).holder = none then s
    else s.post (s.unitNotice .unitReleased u (s.unit u).holder (.released true) (some (s.unit u).dwell))) = p
  have record : p.unit u = s.unit u := by
    rw [← told]
    split
    · rfl
    · exact State.post_unit _ _ _
  have dir : p.dirWithout u = s.dirWithout u := State.dirWithout_congr (by
    rw [← told]
    split
    · rfl
    · exact State.post_dir _ _) (by rw [record])
  have slot : p.slot k = s.slot k := by
    rw [← told]
    split
    · rfl
    · exact State.slot_congr (State.post_sweeps _ _) k
  have rests : (s.unit u).adjusted .vacant ≠ .cleaning := by
    rcases (s.unit u).adjusted_vacant with state | state <;> simp [state]
  rw [record, dir, State.enters_of_ne _ _ (by exact rests)]
  have slot' : ∀ d q, ({ p.setUnit u q with dir := d } : State).slot k = s.slot k := fun d q => (State.slot_setUnit p u q k).trans slot
  rw [slot']
  cases k <;> rfl

/-! ## The cursor of a string plays no part in a walk under way -/

theorem State.slot_setCursor (s : State) (k : SlotId) (i : StringId) (c : Option Nat) :
    (s.setCursor k i c).slot k = { s.slot k with cursors := (s.slot k).cursors.set i c } := State.slot_setSlot_self _ _ _

theorem State.setCursor_setCursor (s : State) (k : SlotId) (i : StringId) (c d : Option Nat) : (s.setCursor k i c).setCursor k i d = s.setCursor k i d := by
  rw [State.setCursor, State.slot_setCursor, State.setCursor, State.setSlot_setSlot, State.setCursor, PerString.set_set]

theorem putOffer_setCursor (s : State) (k : SlotId) (i : StringId) (c : Option Nat) (u : Nat) :
    (s.setCursor k i c).putOffer k i u = (s.putOffer k i u).setCursor k i c := by
  cases k
  · rfl
  · have offered : (s.setCursor .closing i c).closingOffered = s.closingOffered := rfl
    unfold State.putOffer State.urgencyAtOffer
    dsimp only
    rw [offered]
    by_cases first : s.closingOffered = false ∧ s.arb.urgent = false
    · rw [if_pos first, if_pos (by exact first)]
      rfl
    · rw [if_neg first, if_neg (by exact first)]
      rfl

theorem releasedOpen_setCursor (s : State) (k : SlotId) (i : StringId) (c : Option Nat) (u : Nat) :
    (s.setCursor k i c).releasedOpen k u = (s.releasedOpen k u).setCursor k i c := by
  have unit : (s.setCursor k i c).unit u = s.unit u := State.unit_setSlot _ _ _ _
  have told : ∀ d : NoticeData, (s.setCursor k i c).post d = (s.post d).setCursor k i c := fun d => by
    rw [State.setCursor, post_setSlot, State.setCursor, State.slot_congr (State.post_sweeps s d)]
  have written : ∀ (p : State) (r : UnitRecord), (p.setCursor k i c).setUnit u r = (p.setUnit u r).setCursor k i c := fun p r => by
    rw [State.setCursor, setUnit_setSlot, State.setCursor, State.slot_setUnit]
  have notice : ∀ band code v, (s.setCursor k i c).unitNotice .unitReleased u band code v = s.unitNotice .unitReleased u band code v :=
    fun band code v => by rw [State.unitNotice, unit, State.unitNotice]
  have dir : (s.setCursor k i c).dirWithout u = s.dirWithout u :=
    State.dirWithout_congr (by cases k <;> rfl) (by rw [unit])
  unfold State.releasedOpen
  dsimp only
  rw [unit, notice, told, dir, ← apply_ite (State.setCursor · k i c), written, State.slot_setCursor]
  generalize (if (s.unit u).holder = none then s
    else s.post (s.unitNotice .unitReleased u (s.unit u).holder (.released true) (some (s.unit u).dwell))) = p
  cases k <;> rfl

theorem State.isUnit_of_unitAt {i : StringId} {a u : Nat} (h : s.unitAt i a = some u) : isUnit u :=
  mem_unitNumbers.mp (List.mem_of_find?_eq_some h)

theorem walkOver_setCursor (k : SlotId) (i : StringId) (as : List Nat) (s : State) (c : Option Nat) :
    walkOver k i as (s.setCursor k i c) = walkOver k i as s := by
  induction as generalizing s c with
  | nil => exact s.setCursor_setCursor k i c none
  | cons a rest ih =>
    have unitAt : (s.setCursor k i c).unitAt i a = s.unitAt i a := by cases k <;> rfl
    have visits : ∀ u, (s.setCursor k i c).visits k u = s.visits k u := fun u => by cases k <;> rfl
    have judge : ∀ u, ((s.setCursor k i c).supersede k u).judge k u = (s.supersede k u).judge k u := fun u => by
      rw [State.setCursor, supersede_setSlot]
      cases k <;> rfl
    have visited : ∀ u, (s.setCursor k i c).supersede k u = (s.supersede k u).setCursor k i c := fun u => by
      rw [State.setCursor, supersede_setSlot, State.setCursor, State.slot_supersede]
    unfold walkOver
    rw [unitAt]
    cases at_ : s.unitAt i a with
    | none => exact ih s c
    | some u =>
      dsimp only
      rw [visits, judge, visited]
      split
      · cases (s.supersede k u).judge k u with
        | passBy => exact ih _ c
        | releaseAtOnce =>
          have unit : isUnit u := State.isUnit_of_unitAt at_
          dsimp only
          rw [releaseAtOnce_eq_releasedOpen _ _ unit, releaseAtOnce_eq_releasedOpen _ _ unit, releasedOpen_setCursor]
          exact ih _ c
        | markForRepeat =>
          have marked : ((s.supersede k u).setCursor k i c).markRepeat k u = ((s.supersede k u).markRepeat k u).setCursor k i c := by cases k <;> rfl
          dsimp only
          rw [marked]
          exact ih _ c
        | offer =>
          dsimp only
          rw [putOffer_setCursor, State.setCursor_setCursor]
      · exact ih s c

/-! ## The walk of a string -/

theorem State.walk_of_walking {k : SlotId} {i : StringId} {c : Nat} (walking : (s.slot k).state = .walking) (free : (s.slot k).offers.get i = none)
    (at_ : (s.slot k).cursors.get i = some c) : s.walk k i = (walkOver k i (s.rosterFrom i c) s).testPass k := by
  unfold State.walk
  dsimp only
  rw [walking, free, at_]

theorem State.walk_of_still {k : SlotId} {i : StringId}
    (still : (s.slot k).state ≠ .walking ∨ (s.slot k).offers.get i ≠ none ∨ (s.slot k).cursors.get i = none) : s.walk k i = s.testPass k := by
  unfold State.walk
  dsimp only
  split
  case h_1 walking free at_ => rcases still with h | h | h <;> simp_all
  case h_2 => rfl

/-- The walk that goes on from an address, when the addresses above it are the rest of an ascending roster. -/
theorem exec_sweepWalk_rest {k : SlotId} {i : StringId} {a : Nat} {rest : List Nat} (on : t.power.on = true)
    (walking : (t.slot k).state = .walking) (free : (t.slot k).offers.get i = none) (above : t.rosterFrom i (a + 1) = rest) :
    exec (.sweepWalk k i) (t.setCursor k i (some (a + 1))) = .next ((walkOver k i rest t).testPass k) := by
  have power : (t.setCursor k i (some (a + 1))).power = t.power := by cases k <;> rfl
  have roster : (t.setCursor k i (some (a + 1))).rosterFrom i (a + 1) = t.rosterFrom i (a + 1) := by cases k <;> rfl
  rw [exec_sweepWalk (by rw [power]; exact on), State.walk_of_walking (c := a + 1) (by rw [State.slot_setCursor]; exact walking)
    (by rw [State.slot_setCursor]; exact free) (by rw [State.slot_setCursor]; exact PerString.get_set_self _ _ _), roster, above,
    walkOver_setCursor]

/-- Above the address that stands first, an ascending list is its rest. -/
theorem filter_above {as : List Nat} {c a : Nat} {rest : List Nat} (sorted : as.Pairwise (· < ·)) (ahead : as.filter (c ≤ ·) = a :: rest) :
    as.filter (a + 1 ≤ ·) = rest := by
  have least : c ≤ a := by
    have : a ∈ as.filter (c ≤ ·) := by rw [ahead]; exact List.mem_cons_self ..
    simpa using (List.mem_filter.mp this).2
  have above : as.filter (a + 1 ≤ ·) = (as.filter (c ≤ ·)).filter (a + 1 ≤ ·) := by
    rw [List.filter_filter]
    refine List.filter_congr fun x _ => ?_
    rw [Bool.eq_iff_iff, Bool.and_eq_true, decide_eq_true_iff, decide_eq_true_iff]
    omega
  have order := sorted.sublist (List.filter_sublist (p := fun x => decide (c ≤ x)))
  rw [ahead, List.pairwise_cons] at order
  rw [above, ahead, List.filter_cons, if_neg (by simp), List.filter_eq_self]
  exact fun x mem => by simpa using order.1 x mem

/-! ## An offer -/

theorem State.closingOffered_eq_false_iff (s : State) : s.closingOffered = false ↔ ∀ j ∈ allStrings, s.sweeps.closing.offers.get j = none := by
  simp [State.closingOffered, PerString.toList, allStrings, PerString.get]

/-- A unit on offer, with the cursor past it (R96, R157, R160). -/
theorem putOffer_eq (s : State) (k : SlotId) (i : StringId) (c : Option Nat) (u : Nat) :
    (s.putOffer k i u).setCursor k i c =
      { s.setSlot k { s.slot k with
          offers := (s.slot k).offers.set i (some { unit := u, offeredAt := s.time.timebase }), cursors := (s.slot k).cursors.set i c } with
        arb := { s.arb with
          grantPass := true
          urgencyTimer := if k = .closing ∧ (s.closingOffered = false ∧ s.arb.urgent = false) then some s.params.time.urgency
            else s.arb.urgencyTimer } } := by
  cases k
  · rfl
  · unfold State.putOffer State.urgencyAtOffer
    by_cases first : s.closingOffered = false ∧ s.arb.urgent = false
    · rw [if_pos first, if_pos ⟨rfl, first⟩]
      rfl
    · rw [if_neg first, if_neg fun both => first both.2]
      rfl

/-- While a string has a candidate on offer, the pass is not over (R164). -/
theorem passTested_of_offered {k : SlotId} {i : StringId} {o : Offer} (offered : (s.slot k).offers.get i = some o) : s.passTested k = s :=
  if_neg fun ⟨_, _, none_, _⟩ => by
    rw [none_] at offered
    cases i <;> cases offered

/-! ## The judgement of a unit -/

theorem State.judge_eq_repeat_iff (s : State) (k : SlotId) (u : Nat) :
    s.judge k u = .markForRepeat ↔
      ((s.unit u).wanted k = true ∧ ¬s.reachable u = true) ∨ (s.unit u).state ∈ [UnitState.locking, .unlocking, .jammed, .verify] := by
  rw [State.judge_eq, State.offerOrRepeat]
  by_cases wanted : (s.unit u).wanted k = true
  · have rests : (s.unit u).state ∉ [UnitState.locking, .unlocking, .jammed, .verify] := fun mem => by
      cases k <;> cases state : (s.unit u).state <;> simp_all [UnitRecord.wanted]
    rw [if_pos wanted]
    cases s.reachable u <;> simp [wanted, rests]
  · rw [if_neg wanted]
    cases k <;> cases (s.unit u).state <;> simp [UnitRecord.unwanted, wanted]

theorem State.judge_eq_release_iff (s : State) (k : SlotId) (u : Nat) :
    s.judge k u = .releaseAtOnce ↔ k = .closing ∧ (s.unit u).state = .openHeld := by
  refine ⟨openHeld_of_judge, fun ⟨closing, state⟩ => ?_⟩
  subst closing
  rw [State.judge_eq, if_neg (by simp [UnitRecord.wanted, state]), state]
  rfl

theorem UnitRecord.wanted_iff (r : UnitRecord) (k : SlotId) : r.wanted k = true ↔
    match k with
    | .closing => r.state ∈ [UnitState.held, .forfeited]
    | .evacuation => r.state ∈ [UnitState.held, .forfeited, .occupied]
        ∨ (r.state ∈ [UnitState.vacant, .openHeld] ∧ r.config.map (·.kind) = some .cabin ∧ r.occupied = true) := by
  have cabin : r.isCabin = true ↔ r.config.map (·.kind) = some .cabin := by
    unfold UnitRecord.isCabin
    cases r.config <;> simp
  cases k
  · simp only [UnitRecord.wanted, Bool.or_eq_true, Bool.and_eq_true, beq_iff_eq, cabin, List.mem_cons, List.not_mem_nil, or_false, or_assoc, and_assoc]
  · simp only [UnitRecord.wanted, Bool.or_eq_true, beq_iff_eq, List.mem_cons, List.not_mem_nil, or_false]

theorem KindFilter.passes_iff (f : KindFilter) (k : UnitKind) :
    f.passes k = true ↔ match f with | .cabins => k = .cabin | .lockers => k = .locker | .both => True := by
  cases f <;> cases k <;> simp [KindFilter.passes]

theorem State.visits_iff (s : State) (k : SlotId) (u : Nat) :
    s.visits k u = true ↔ ∃ c, (s.unit u).config = some c ∧ (s.unit u).state ≠ .withdrawn ∧ ((s.slot k).zone = 0 ∨ c.zone = (s.slot k).zone)
      ∧ (match (s.slot k).filter with | .cabins => c.kind = .cabin | .lockers => c.kind = .locker | .both => True)
      ∧ ((s.slot k).pass ≤ 1 ∨ u ∈ (s.slot k).visit) := by
  unfold State.visits
  dsimp only
  cases (s.unit u).config with
  | none => simp
  | some c =>
    simp only [Bool.and_eq_true, Bool.or_eq_true, bne_iff_ne, beq_iff_eq, KindFilter.passes_iff, decide_eq_true_iff, List.contains_iff_mem,
      Option.some.injEq, exists_eq_left', and_assoc]

/-- Settles O53. -/
theorem walksJudgeUnitsInOrder : Obligations.WalksJudgeUnitsInOrder := by
  constructor
  · intro s k u r x can inside wanted
    refine ⟨?_, ?_, s.judge_eq_release_iff k u, s.visits_iff k u⟩
    · rw [State.judge_eq_offer_iff, State.reachable_iff, UnitRecord.wanted_iff] <;> cases k <;> exact Iff.rfl
    · rw [State.judge_eq_repeat_iff, State.reachable_iff, UnitRecord.wanted_iff] <;> cases k <;> exact Iff.rfl
  · intro s k i on x cursor ahead
    refine ⟨?_, ?_, ?_⟩
    · intro still
      rw [exec_sweepWalk on, State.walk_of_still still, testPass_eq_passTested]
    · intro c walking free at_ none_
      rw [exec_sweepWalk on, State.walk_of_walking walking free at_, testPass_eq_passTested]
      exact congrArg (fun as => Host.Outcome.next ((walkOver k i as s).passTested k)) none_
    · intro c a rest walking free at_ first sorted onward
      have above : s.rosterFrom i (a + 1) = rest := filter_above sorted first
      have walks : exec (.sweepWalk k i) s = .next ((walkOver k i (a :: rest) s).testPass k) := by
        rw [exec_sweepWalk on, State.walk_of_walking walking free at_]
        exact congrArg (fun as => Host.Outcome.next ((walkOver k i as s).testPass k)) first
      have goesOn : ∀ t : State, Changes [.units, .dir, .arb, .sweeps, .link, .notices, .counters] s t → (t.slot k).state = .walking →
          (t.slot k).offers.get i = none → onward t = .next ((walkOver k i rest t).testPass k) := fun t same going open_ =>
        exec_sweepWalk_rest (by rw [same .power (by decide)]; exact on) going open_ (by
          rw [State.rosterFrom, State.str, same .strings (by decide)]
          exact above)
      have passed : walkOver k i (a :: rest) s = walkOver k i rest s → exec (.sweepWalk k i) s = onward s := fun same => by
        rw [walks, same, goesOn s (by simp) walking free]
      refine ⟨fun nobody => passed (by rw [walkOver, nobody]), fun u unitAt => ?_⟩
      intro v first'
      have superseded : v = s.supersede k u := (supersede_eq_visited s k u).symm
      have slot : v.slot k = s.slot k := by rw [superseded, State.slot_supersede]
      have visited : s.visits k u = true → walkOver k i (a :: rest) s = match v.judge k u with
          | .passBy => walkOver k i rest v
          | .releaseAtOnce => walkOver k i rest (v.releaseAtOnce k u)
          | .markForRepeat => walkOver k i rest (v.markRepeat k u)
          | .offer => (v.putOffer k i u).setCursor k i rest.head? := fun visits => by
        rw [walkOver, unitAt]
        dsimp only
        rw [if_pos visits, ← superseded] <;> rfl
      refine ⟨fun passes => passed (by rw [walkOver, unitAt]; exact if_neg (by rw [passes]; decide)), fun visits other => ?_, fun visits offer => ?_⟩
      · have judged : walkOver k i (a :: rest) s = walkOver k i rest (v.judged k u (v.judge k u)) := by
          rw [visited visits]
          cases judge : v.judge k u with
          | passBy => rfl
          | releaseAtOnce => exact congrArg (walkOver k i rest) (releaseAtOnce_eq_releasedOpen v k (State.isUnit_of_unitAt unitAt))
          | markForRepeat => rfl
          | offer => exact absurd judge other
        have kept : Changes [.units, .dir, .arb, .sweeps, .link, .notices, .counters] s (v.judged k u (v.judge k u))
            ∧ ((v.judged k u (v.judge k u)).slot k).state = (s.slot k).state
            ∧ ((v.judged k u (v.judge k u)).slot k).offers = (s.slot k).offers := by
          cases judge : v.judge k u with
          | passBy => exact ⟨by rw [superseded]; simp [State.judged], congrArg SweepSlot.state slot, congrArg SweepSlot.offers slot⟩
          | releaseAtOnce =>
            have release : v.judged k u .releaseAtOnce = v.releaseAtOnce k u :=
              (releaseAtOnce_eq_releasedOpen v k (State.isUnit_of_unitAt unitAt)).symm
            have after : ((v.releaseAtOnce k u).slot k) = { s.slot k with done := (s.slot k).done + 1 } := by
              rw [State.releaseAtOnce, State.slot_setSlot_self, State.slot_release_enter, slot]
            rw [release, after]
            exact ⟨by rw [superseded]; simp, rfl, rfl⟩
          | markForRepeat =>
            have after : ((v.judged k u .markForRepeat).slot k) = { s.slot k with marks := insertUnit u (s.slot k).marks } := by
              rw [State.judged, State.slot_setSlot_self, slot]
            rw [after]
            exact ⟨by rw [superseded]; simp [State.judged], rfl, rfl⟩
          | offer => exact absurd judge other
        obtain ⟨same, going, offers⟩ := kept
        rw [walks, judged, goesOn _ same (going.trans walking) (by rw [offers]; exact free)]
      · have same : Changes [.units, .dir, .arb, .link, .notices, .counters] s v := by rw [superseded]; simp
        have none_ : s.closingOffered = false ↔ ∀ j ∈ allStrings, s.sweeps.closing.offers.get j = none := s.closingOffered_eq_false_iff
        rw [walks, visited visits, offer]
        dsimp only
        rw [putOffer_eq, testPass_eq_passTested, passTested_of_offered (i := i) (o := { unit := u, offeredAt := v.time.timebase }) (by
          cases k <;> exact PerString.get_set_self _ _ _), same .time (by decide), same .params (by decide)]
        cases k with
        | evacuation => rfl
        | closing =>
          have timers : ∀ n : Nat, (if SlotId.closing = .closing ∧ (v.closingOffered = false ∧ v.arb.urgent = false) then some n else v.arb.urgencyTimer)
              = if SlotId.closing = .closing ∧ first' then some n else v.arb.urgencyTimer := fun n =>
            if_congr (and_congr_right fun _ => and_comm.trans (and_congr_right fun _ => none_)) rfl rfl
          rw [timers]

end Sys2Proof.Machine
end


section
/-! PROOF. The requests and the timer of the sweeps: O54 (R155, R156, R164, R165, R168). -/

set_option Elab.async false

namespace Sys2Proof.Machine

variable {s : State}

theorem exec_releaseZone (on : s.power.on = true) (tag zone filter : Byte) :
    let i := Instr.releaseZone tag zone filter
    exec i s = .next (s.answered i (releaseZone zone filter (s.taken i))) := congrArg Host.Outcome.next (whenOn_takeInHand on rfl _)

theorem exec_stopSweep (on : s.power.on = true) (tag : Byte) :
    let i := Instr.stopSweep tag
    exec i s = .next (s.answered i (stopSweep (s.taken i))) := congrArg Host.Outcome.next (whenOn_takeInHand on rfl _)

theorem exec_querySweep (on : s.power.on = true) (tag slot : Byte) :
    let i := Instr.querySweep tag slot
    exec i s = .next (s.answered i (querySweep slot (s.taken i))) := congrArg Host.Outcome.next (whenOn_takeInHand on rfl _)

theorem exec_pauseTimerExpiry (on : s.power.on = true) (k : SlotId) : exec (.pauseTimerExpiry k) s = .next (s.pauseExpiry k) := next_whenOn on _

/-- The filter a byte up to 2 names (R207). -/
theorem filter?_of_le {b : Byte} (le : b.toNat ≤ 2) :
    filter? b = some (if b = 0 then .cabins else if b = 1 then .lockers else .both) := by
  rw [filter?_eq_some_iff]
  obtain zero | one | two : b = 0 ∨ b = 1 ∨ b = 2 := by bv_omega
  · rw [zero]; rfl
  · rw [one]; rfl
  · rw [two]; rfl

/-- The slot a byte up to 1 names (R207). -/
theorem slot?_of_le {b : Byte} (le : b.toNat ≤ 1) : slot? b = some (if b = 0 then .evacuation else .closing) := by
  obtain zero | one : b = 0 ∨ b = 1 := by bv_omega
  · rw [zero]; rfl
  · rw [one]; rfl

/-! ## The next pass -/

/-- Whether a string has a unit in a slot's marks (R164). -/
theorem marksOn_iff (s : State) (marks : List Nat) (j : StringId) :
    (marks.any fun u => (s.unitNode u).elim false (·.1 == j)) = true ↔ ∃ u ∈ marks, (s.unit u).config.map (·.string) = some j := by
  rw [List.any_eq_true]
  refine exists_congr fun u => and_congr_right fun _ => ?_
  rw [State.unitNode]
  cases (s.unit u).config <;> simp

theorem exec_pauseTimerExpiry_next (on : s.power.on = true) {k : SlotId} (paused : (s.slot k).pause ≠ none) :
    let x := s.slot k
    let first := fun j => if ∃ u ∈ x.marks, (s.unit u).config.map (·.string) = some j then s.lowest j else none
    ∃ t, exec (.pauseTimerExpiry k) s = .next t
      ∧ Leads [.sweepWalk k .a, .sweepWalk k .b, .sweepWalk k .c, .sweepWalk k .d]
        (s.setSlot k { x with state := .walking, pass := x.pass + 1, visit := x.marks, marks := [], pause := none
                              cursors := ⟨first .a, first .b, first .c, first .d⟩ }) t := by
  intro x first
  refine ⟨_, exec_pauseTimerExpiry on k, ?_⟩
  have cursor : ∀ j, (if (x.marks.any fun u => (s.unitNode u).elim false (·.1 == j)) = true then s.lowest j else none) = first j :=
    fun j => if_congr (marksOn_iff s x.marks j) rfl rfl
  rw [State.pauseExpiry, if_pos (Option.isSome_iff_ne_none.mpr paused), State.nextPass]
  dsimp only
  simp only [x] at cursor
  rw [cursor, cursor, cursor, cursor]
  exact leads_walkAll (by cases k <;> exact on) k

/-! ## STOP_SWEEP -/

theorem StringCtl.detachClosing_eq (c : StringCtl) :
    c.detachClosing = { c with inFlight := c.inFlight.map fun f => { f with slot := if f.slot = some .closing then none else f.slot } } := by
  unfold StringCtl.detachClosing
  refine congrArg (fun flight => { c with inFlight := flight }) (congrArg (Option.map · c.inFlight) (funext fun f => ?_))
  split <;> rfl

/-! ## QUERY_SWEEP -/

theorem SweepSlot.item_eq {α : Type} (x : SweepSlot) {n : Nat} (enc : α → List Byte) (a : α) (size : (enc a).length = n) :
    x.item n enc a = if x.state = .inactive then List.replicate ((enc a).length + 1) 0#8 else u8 1 ++ enc a := by
  subst size
  unfold SweepSlot.item optional
  by_cases idle : x.state = .inactive
  · rw [if_pos idle, if_pos idle]
    rfl
  · rw [if_neg idle, if_neg idle]

theorem SweepSlot.item_marks (x : SweepSlot) :
    x.item 1 (entries u8) (x.marks.take 32)
      = if x.state = .inactive then [0#8, 0#8] else u8 1 ++ u8 (x.marks.take 32).length ++ ((x.marks.take 32).map u8).flatten := by
  unfold SweepSlot.item optional entries
  by_cases idle : x.state = .inactive
  · rw [if_pos idle, if_pos idle]
    rfl
  · rw [if_neg idle, if_neg idle, List.append_assoc]

theorem State.sweepReport_taken (s : State) (i : Instr) (k : SlotId) : (s.taken i).sweepReport k = s.sweepReport k := by
  have strings : (s.taken i).slotString = s.slotString := funext fun x => funext fun j => by
    simp only [State.slotString, State.ageOf, State.taken_time]
  simp only [State.sweepReport, strings, State.slot_congr (s.taken_sweeps i)]

/-- Settles O54. -/
theorem sweepsStartStopAndGoOn : Obligations.SweepsStartStopAndGoOn := by
  intro s tag zone filter slot on i o e q low walks fresh detach
  have sweeps : ∀ j, (s.taken j).sweeps = s.sweeps := s.taken_sweeps
  have active : ∀ j, (s.taken j).sweepActive .closing = true ↔ s.sweeps.closing.state ≠ .inactive := fun j => by
    simp [State.sweepActive, State.slot]
  refine ⟨fun bad => ?_, fun named small busy => ?_, fun named small free => ?_, ?_, fun k => ?_, fun high => ?_, fun small => ?_⟩
  · rw [exec_releaseZone on]
    refine congrArg Host.Outcome.next ?_
    rw [releaseZone]
    cases answer : filter? filter with
    | none => rfl
    | some f =>
      have named : ¬2 < filter.toNat := fun high => by
        rw [(filter?_eq_none_iff filter).mpr high] at answer
        cases answer
      exact congrArg (s.answered i) (if_pos (bad.resolve_left named))
  · rw [exec_releaseZone on, releaseZone, filter?_of_le named]
    exact congrArg (fun r => Host.Outcome.next (s.answered i r)) ((if_neg (by omega)).trans (if_pos ((active i).mpr busy)))
  · refine ⟨o.startClosing zone.toNat (if filter = 0 then .cabins else if filter = 1 then .lockers else .both) false, ?_, ?_⟩
    · rw [exec_releaseZone on, releaseZone, filter?_of_le named]
      exact congrArg (fun r => Host.Outcome.next (s.answered i r)) ((if_neg (by omega)).trans (if_neg (mt (active i).mp (not_not.mpr free))))
    · have lowest : ∀ j, o.lowest j = low j := fun j => by rw [State.lowest, State.taken_str]
      rw [startClosing_eq, lowest, lowest, lowest, lowest, sweeps i]
      exact leads_walkAll (by rw [State.post_power]; exact (congrArg Power.on (State.taken_power s i)).trans on) .closing
  · rw [exec_stopSweep on, stopSweep, State.answered_ite, ← ite_not]
    refine congrArg Host.Outcome.next (if_congr ?_ rfl ?_)
    · rw [active, not_not]
    · rw [endSweep_eq_sweepEnded, funext StringCtl.detachClosing_eq, State.setStrings, State.taken_strings]
      rfl
  · intro x has first
    refine ⟨fun none_ => ?_, fun some_ => exec_pauseTimerExpiry_next on some_⟩
    rw [exec_pauseTimerExpiry on, State.pauseExpiry, if_neg (by rw [none_]; decide)]
  · rw [exec_querySweep on, querySweep, (slot?_eq_none_iff slot).mpr high]
    rfl
  · intro x idle here marks string
    rw [exec_querySweep on, querySweep, slot?_of_le small]
    refine congrArg (fun bytes => Host.Outcome.next (q.reply s (s.taken q) .ok bytes)) ?_
    have item : ∀ {α : Type} {n : Nat} (enc : α → List Byte) (a : α), (enc a).length = n → x.item n enc a = here (enc a) :=
      x.item_eq
    have strings : ∀ j, s.slotString x j = string j := fun j => by
      rw [State.slotString, item (n := 1) (fun c : Option Nat => u8 (c.getD 0)) (x.cursors.get j) rfl]
      rfl
    have state : u8 (slotStateCode x.state) = u8 (match x.state with | .inactive => 0 | .walking => 1 | .paused => 2) := by
      cases x.state <;> rfl
    have kinds : u8 (filterCode x.filter) = u8 (match x.filter with | .cabins => 0 | .lockers => 1 | .both => 2) := by
      cases x.filter <;> rfl
    refine (s.sweepReport_taken q (if slot = 0 then .evacuation else .closing)).trans ?_
    change u8 (slotStateCode x.state) ++ x.item 1 u8 x.zone ++ x.item 1 (fun f => u8 (filterCode f)) x.filter ++ x.item 1 u8 x.pass
      ++ optional 4 u32 x.pause ++ (allStrings.map (s.slotString x)).flatten
      ++ x.item 1 u8 x.inFlight ++ x.item 2 u16 x.issued ++ x.item 2 u16 x.done ++ x.item 2 u16 x.missed
      ++ x.item 1 u8 x.marks.length ++ x.item 1 (entries u8) (x.marks.take 32) ++ x.item 1 u8 x.visit.length
      ++ optional 7 SweepResult.bytes x.result = _
    rw [x.item_marks, item (n := 1) u8 x.zone rfl, item (n := 1) (fun f => u8 (filterCode f)) x.filter rfl, item (n := 1) u8 x.pass rfl,
      item (n := 1) u8 x.inFlight rfl, item (n := 2) u16 x.issued rfl, item (n := 2) u16 x.done rfl, item (n := 2) u16 x.missed rfl,
      item (n := 1) u8 x.marks.length rfl, item (n := 1) u8 x.visit.length rfl, state, kinds]
    simp only [allStrings, List.map_cons, List.map_nil, List.flatten_cons, List.flatten_nil, List.append_nil, strings, List.append_assoc]
    rfl

end Sys2Proof.Machine
end


section
/-! PROOF. Node replies on the line: O56 (R131, R132, R207, R210, R211). -/

set_option Elab.async false

namespace Sys2Proof.Machine

/-! ## A frame's address, its content and its CRC -/

/-- What stands between the address and the CRC of a node's reply (R210). -/
def NodeReply.content (r : NodeReply) : List Byte :=
  let status := u8 (bits [r.door == .opened, r.bolt == .unlocked, r.bolt == .moving, r.inside == .engaged, r.readerFault,
      r.actuatorFault, r.presentation.isSome])
    ++ u8 (r.presentation.elim 0 (·.1)) ++ u32 (r.presentation.elim 0 (·.2.toNat))
  match r.verdict with
  | none => u8 7 ++ u8 0 ++ status
  | some .accept => u8 9 ++ u8 1 ++ status ++ u8 0 ++ u8 0
  | some .refuse => u8 9 ++ u8 1 ++ status ++ u8 1 ++ u8 (if r.door = .opened then 1 else 2)

theorem replyFrame_eq (node : Nat) (r : NodeReply) :
    replyFrame node r = (BitVec.ofNat 8 node :: r.content) ++ [crc8 (BitVec.ofNat 8 node :: r.content)] := by
  unfold replyFrame NodeReply.content
  dsimp only
  cases r.verdict with
  | none => rfl
  | some v => cases v <;> rfl

theorem judgeReply_append (node : Nat) (cmd : NodeCommand) (addr : Byte) (content : List Byte) (crc : Byte) :
    judgeReply node cmd ((addr :: content) ++ [crc]) =
      if crc ≠ crc8 (addr :: content) then .miss
      else match replyContent? content with
        | none => .miss
        | some r => if addr.toNat ≠ node then .clash else if answers cmd r then .good r else .miss := by
  unfold judgeReply
  rw [List.getLast?_concat, List.dropLast_concat] <;> rfl

/-! ## The status of a reply -/

theorem replyBolt?_flags (a d e f g : Bool) (bolt : Bolt) :
    replyBolt? (BitVec.ofNat 8 (bits [a, bolt == .unlocked, bolt == .moving, d, e, f, g])) = some bolt := by
  revert a d e f g
  cases bolt <;> decide

theorem getLsbD_flags : ∀ a b c d e f g : Bool,
    let flags := BitVec.ofNat 8 (bits [a, b, c, d, e, f, g])
    flags.getLsbD 0 = a ∧ flags.getLsbD 3 = d ∧ flags.getLsbD 4 = e ∧ flags.getLsbD 5 = f ∧ flags.getLsbD 6 = g := by
  decide

/-- The status that a node's six status bytes give (R210). -/
theorem replyStatus?_eq (door : Door) (bolt : Bolt) (inside : InsideBolt) (e f : Bool) (p : Option (Nat × BandId)) (v : Option Verdict)
    (small : ∀ q ∈ p, q.1 < 16) :
    replyStatus? (BitVec.ofNat 8 (bits [door == .opened, bolt == .unlocked, bolt == .moving, inside == .engaged, e, f, p.isSome]))
      (BitVec.ofNat 8 (p.elim 0 (·.1))) (u32 (p.elim 0 (·.2.toNat))) v
      = some { door := door, bolt := bolt, inside := inside, readerFault := e, actuatorFault := f, presentation := p, verdict := v } := by
  obtain ⟨opened, engaged, reader, actuator, shown⟩ :=
    getLsbD_flags (door == .opened) (bolt == .unlocked) (bolt == .moving) (inside == .engaged) e f p.isSome
  rw [replyStatus?, replyBolt?_flags, opened, engaged, reader, actuator, shown]
  have doors : (if (door == .opened) = true then Door.opened else .closed) = door := by cases door <;> rfl
  have bolts : (if (inside == .engaged) = true then InsideBolt.engaged else .free) = inside := by cases inside <;> rfl
  have read : (if p.isSome = true then some ((BitVec.ofNat 8 (p.elim 0 (·.1))).toNat % 16, ofBytes 32 (u32 (p.elim 0 (·.2.toNat)))) else none) = p := by
    cases p with
    | none => rfl
    | some q =>
      have seq : (BitVec.ofNat 8 q.1).toNat % 16 = q.1 := by
        have := small q rfl
        rw [BitVec.toNat_ofNat]
        omega
      exact congrArg₂ (fun x y => some (x, y)) seq (ofBytes_u32 q.2)
  rw [doors, bolts, read]
  rfl

/-- A reply whose seq has 4 bits is read back as it was sent (R210, R211). -/
theorem replyContent?_content (r : NodeReply) (small : ∀ p ∈ r.presentation, p.1 < 16) : replyContent? r.content = some r := by
  obtain ⟨door, bolt, inside, e, f, p, v⟩ := r
  have status := fun v => replyStatus?_eq door bolt inside e f p v small
  cases v with
  | none => exact status none
  | some v =>
    cases v with
    | accept => exact status (some .accept)
    | refuse =>
      have reason : replyVerdict? 1#8 (BitVec.ofNat 8 (if door = .opened then 1 else 2)) = some .refuse := by cases door <;> rfl
      change (replyVerdict? 1#8 (BitVec.ofNat 8 (if door = .opened then 1 else 2))).bind (fun verdict => replyStatus? _ _ _ (some verdict)) = _
      rw [reason]
      exact status (some .refuse)

/-- No content of another length is read (R211). -/
theorem replyContent?_of_length {bs : List Byte} (h : bs.length ≠ 8) (h' : bs.length ≠ 10) : replyContent? bs = none := by
  unfold replyContent?
  split
  · exact absurd rfl h
  · exact absurd rfl h'
  · rfl

theorem NodeReply.content_length (r : NodeReply) : r.content.length = if r.verdict = none then 8 else 10 := by
  unfold NodeReply.content
  cases r.verdict with
  | none => rfl
  | some v => cases v <;> rfl

/-- A frame cut short, or with more behind it, is a miss at every address (R211). -/
theorem judgeReply_of_length {node : Nat} {cmd : NodeCommand} {addr : Byte} {content : List Byte} {crc : Byte} (none_ : replyContent? content = none) :
    judgeReply node cmd ((addr :: content) ++ [crc]) = .miss := by
  rw [judgeReply_append, none_]
  exact ite_self _

/-- With a byte or more behind its end a content is not read: a poll's reply declares its length, and a verdict's is too long (R211). -/
theorem replyContent?_of_more (r : NodeReply) (x : Byte) (more : List Byte) : replyContent? (r.content ++ x :: more) = none := by
  have long := r.content_length
  cases verdict : r.verdict with
  | some v =>
    rw [verdict] at long
    refine replyContent?_of_length ?_ ?_
    · simp [long]
      omega
    · simp [long]
  | none =>
    have first : ∃ tail, r.content = 7#8 :: tail := by
      unfold NodeReply.content
      rw [verdict]
      exact ⟨_, rfl⟩
    obtain ⟨tail, content⟩ := first
    have eight : tail.length = 7 := by
      rw [content, verdict] at long
      exact Nat.succ.inj long
    have other : (tail ++ x :: more).length ≠ 7 := by
      rw [List.length_append, eight, List.length_cons]
      omega
    rw [content, List.cons_append]
    generalize tail ++ x :: more = bs at other
    unfold replyContent?
    split
    case h_1 is =>
      rw [(List.cons.inj is).2] at other
      exact absurd rfl other
    case h_2 is => exact if_neg fun nine => absurd ((List.cons.inj is).1.trans nine.1) (by decide)
    case h_3 => rfl

/-- The verdict that two bytes give (R211). -/
theorem replyVerdict?_eq (v reason : Byte) :
    replyVerdict? v reason = if 1 < v.toNat ∨ 2 < reason.toNat then none else some (if v = 0 then .accept else .refuse) := by
  unfold replyVerdict?
  by_cases high : 2 < reason.toNat
  · rw [if_pos high, if_pos (.inr high)]
  · rw [if_neg high]
    by_cases other : 1 < v.toNat
    · rw [if_pos (.inl other)]
      split <;> first | rfl | omega
    · rw [if_neg (by omega)]
      obtain zero | one : v = 0 ∨ v = 1 := by bv_omega
      · rw [zero]; rfl
      · rw [one]; rfl

/-- Any verdict and reason behind the status bytes of a verdict's reply (R210, R211). -/
theorem replyContent?_verdict {r : NodeReply} (given : r.verdict ≠ none) (small : ∀ p ∈ r.presentation, p.1 < 16) (v reason : Byte) :
    replyContent? (r.content.take 8 ++ [v, reason]) = (replyVerdict? v reason).map fun verdict => { r with verdict := some verdict } := by
  obtain ⟨door, bolt, inside, e, f, p, verdict⟩ := r
  have status := fun v => replyStatus?_eq door bolt inside e f p v small
  have read : replyContent? (NodeReply.content ⟨door, bolt, inside, e, f, p, verdict⟩ |>.take 8 |>.append [v, reason])
      = (replyVerdict? v reason).bind fun w => some ⟨door, bolt, inside, e, f, p, some w⟩ := by
    simp only [← status]
    cases verdict with
    | none => exact absurd rfl given
    | some w => cases w <;> rfl
  refine read.trans ?_
  cases replyVerdict? v reason <;> rfl

/-- Settles O56. -/
theorem lineFramesAreJudged : Obligations.LineFramesAreJudged := by
  refine ⟨by decide +kernel, by decide +kernel, fun node cmd r low small => ?_⟩
  intro kind frame
  have wire : frame = (BitVec.ofNat 8 node :: r.content) ++ [crc8 (BitVec.ofNat 8 node :: r.content)] := replyFrame_eq node r
  have read := replyContent?_content r small
  have addr : (BitVec.ofNat 8 node).toNat = node := by rw [BitVec.toNat_ofNat]; omega
  have long := r.content_length
  have judged : ∀ other, judgeReply other cmd frame = if node ≠ other then .clash else if answers cmd r then .good r else .miss := fun other => by
    rw [wire, judgeReply_append, if_neg (not_not.mpr rfl), read, addr]
  have kinds : kind ↔ answers cmd r = true := by
    cases cmd <;> cases verdict : r.verdict <;> simp [kind, answers, verdict]
  refine ⟨fun right => ?_, fun wrong => ?_, fun other ne => ?_, fun other flip spoils => ?_, fun other => ?_, fun other more some_ => ?_, fun given dir v reason => ?_⟩
  · rw [judged, if_neg (not_not.mpr rfl), if_pos (kinds.mp right)]
  · rw [judged, if_neg (not_not.mpr rfl), if_neg (mt kinds.mpr wrong)]
  · rw [judged, if_pos ne.symm]
  · rw [wire, List.dropLast_concat, List.getLastD_concat, judgeReply_append, if_pos]
    intro same
    have := congrArg (crc8 (BitVec.ofNat 8 node :: r.content) ^^^ ·) same
    simp only [← BitVec.xor_assoc, BitVec.xor_self, BitVec.zero_xor] at this
    exact spoils this
  · have content : r.content ≠ [] := fun none_ => by
      rw [none_] at long
      split at long <;> cases long
    rw [wire, List.dropLast_concat, ← List.dropLast_append_getLast content]
    refine judgeReply_of_length (replyContent?_of_length ?_ ?_) <;> rw [List.length_dropLast, long] <;> split <;> decide
  · rw [wire, ← List.dropLast_append_getLast some_, ← List.append_assoc, List.append_assoc _ _ more.dropLast, List.cons_append]
    exact judgeReply_of_length (replyContent?_of_more r _ _)
  · intro covered
    have first : covered = BitVec.ofNat 8 node :: (r.content.take 8 ++ [v, reason]) := by
      have eight : 8 ≤ r.content.length := by rw [long]; split <;> decide
      change frame.take 9 ++ [v, reason] = _
      rw [wire, List.cons_append, List.take_succ_cons, List.take_append_of_le_length eight, List.cons_append]
    rw [first, judgeReply_append, if_neg (not_not.mpr rfl), replyContent?_verdict given small, replyVerdict?_eq, addr]
    by_cases out : 1 < v.toNat ∨ 2 < reason.toNat
    · rw [if_pos out, if_pos out]
      rfl
    · rw [if_neg out, if_neg out]
      exact (if_neg (not_not.mpr rfl)).trans (if_pos rfl)

end Sys2Proof.Machine
end


section
/-! PROOF. Notices and the census: O55 (R195, R200 to R205). -/

set_option Elab.async false

namespace Sys2Proof.Machine

variable {s : State}

/-! ## Posting (R200, R202) -/

theorem State.post_eq (s : State) (d : NoticeData) :
    s.post d =
      if d.kind ≠ .start ∧ s.enables.getLsbD (noticeKindCode d.kind) = false then s
      else if 64 ≤ s.notices.stored.length then
        { s with
          notices := { s.notices with dropped := min 255 (s.notices.dropped + 1) }
          counters := { s.counters with noticesDropped := min 4294967295 (s.counters.noticesDropped + 1) } }
      else
        { s with
          notices := { s.notices with
            stored := s.notices.stored ++ [{ seq := s.notices.nextSeq, stamp := if s.time.valid then some s.time.second else none, data := d }]
            nextSeq := s.notices.nextSeq + 1, attn := true }
          link := { s.link with ageTimer :=
            if s.notices.stored = [] ∧ s.link.ageTimer = .preset then .running (s.params.link.ageLimit * 1000) else s.link.ageTimer } } := by
  have disabled : (!s.kindEnabled d.kind) = true ↔ d.kind ≠ .start ∧ s.enables.getLsbD (noticeKindCode d.kind) = false := by
    simp [State.kindEnabled]
  have timer : (if s.notices.stored.isEmpty ∧ s.link.ageTimer = .preset then AgeTimer.running (s.params.link.ageLimit * 1000) else s.link.ageTimer)
      = if s.notices.stored = [] ∧ s.link.ageTimer = .preset then .running (s.params.link.ageLimit * 1000) else s.link.ageTimer :=
    if_congr (and_congr_left fun _ => List.isEmpty_iff) rfl rfl
  rw [State.post]
  refine if_congr disabled rfl (if_congr Iff.rfl rfl ?_)
  rw [State.storeNotice, timer]
  rfl

/-! ## The requests of the Notice Queue -/

theorem exec_fetchNotices (on : s.power.on = true) (tag count : Byte) :
    let i := Instr.fetchNotices tag count
    exec i s = .next (s.answered i (fetchNotices count (s.taken i))) := congrArg Host.Outcome.next (whenOn_takeInHand on rfl _)

theorem exec_setNoticeEnables (on : s.power.on = true) (tag : Byte) (marks : BitVec 24) :
    let i := Instr.setNoticeEnables tag marks
    exec i s = .next (s.answered i (setNoticeEnables marks (s.taken i))) := congrArg Host.Outcome.next (whenOn_takeInHand on rfl _)

theorem exec_census (on : s.power.on = true) (tag : Byte) :
    let i := Instr.census tag
    exec i s = .next (s.answered i (census (s.taken i))) := congrArg Host.Outcome.next (whenOn_takeInHand on rfl _)

theorem exec_readCensus (on : s.power.on = true) (tag sect : Byte) :
    let i := Instr.readCensus tag sect
    exec i s = .next (s.answered i (readCensus sect (s.taken i))) := congrArg Host.Outcome.next (whenOn_takeInHand on rfl _)

theorem exec_clearCounters (on : s.power.on = true) (tag selection : Byte) :
    let i := Instr.clearCounters tag selection
    exec i s = .next (s.answered i (clearCounters selection (s.taken i))) := congrArg Host.Outcome.next (whenOn_takeInHand on rfl _)

theorem AgeTimer.afterFetch_eq (t : AgeTimer) (left : List Notice) (limit : Nat) :
    t.afterFetch left.isEmpty limit = match t with
      | .running _ => if left = [] then .preset else .running (limit * 1000)
      | t => t := by
  cases t with
  | running x => exact if_congr List.isEmpty_iff rfl rfl
  | preset => rfl
  | held => rfl

/-! ## The census (R204) -/

theorem State.units_toList (s : State) : s.units.toList = (List.range 240).map fun u => s.unit (u + 1) := by
  refine List.ext_getElem (by simp) fun n h h' => ?_
  have : n < 240 := by simpa using h
  rw [List.getElem_map, List.getElem_range, State.unit, dif_pos ⟨by omega, by omega⟩]
  simp

theorem stateCode_inj {x y : UnitState} : stateCode x = stateCode y ↔ x = y := by cases x <;> cases y <;> decide

theorem State.unitsIn_eq (s : State) (st : UnitState) :
    s.unitsIn st = ((List.range 240).filter fun u => stateCode (s.unit (u + 1)).state == stateCode st).length := by
  rw [State.unitsIn, State.units_toList, List.countP_map, ← List.countP_eq_length_filter]
  refine List.countP_congr fun u _ => ?_
  simp [stateCode_inj]

theorem allUnitStates_codes : allUnitStates.map stateCode = List.range 12 := by decide

/-- A request leaves the link LINKED (R197). -/
theorem State.taken_linked (s : State) (i : Instr) : (s.taken i).link.state = .linked := by
  unfold State.taken
  dsimp only
  split
  case isTrue => 
    obtain ⟨timer, link⟩ := State.post_link { s with link := { s.link with inHand := i.frame?, state := .linked } }
      { kind := .linkState, code := .link .linked, value := some (s.dir.countP (·.provisional)) }
    exact congrArg DeskLink.state link
  case isFalse other =>
    cases state : s.link.state with
    | linked => rfl
    | standalone => exact absurd state other

/-- The summary of the hall, item by item (R204). -/
theorem State.summary_taken (s : State) (i : Instr) :
    (s.taken i).summary =
      { unitCounts := (List.range 12).map fun n => ((List.range 240).filter fun u => stateCode (s.unit (u + 1)).state == n).length
        fill := s.dir.length, provisional := s.dir.countP (·.provisional), queueFill := s.arb.queue.length
        demands := s.arb.demands.length, account := s.supply.account, throttled := s.supply.throttled
        strings := ⟨(s.strings.a.state, s.strings.a.score), (s.strings.b.state, s.strings.b.score),
          (s.strings.c.state, s.strings.c.score), (s.strings.d.state, s.strings.d.score)⟩
        service := s.arb.service, link := .linked
        evacuationActive := s.sweeps.evacuation.state != .inactive, closingActive := s.sweeps.closing.state != .inactive
        notices := (s.taken i).notices.stored.length, dropped := (s.taken i).notices.dropped
        timebase := s.time.timebase, second := s.time.second, valid := s.time.valid } := by
  have counts : allUnitStates.map (s.taken i).unitsIn
      = (List.range 12).map fun n => ((List.range 240).filter fun u => stateCode (s.unit (u + 1)).state == n).length := by
    rw [← allUnitStates_codes, List.map_map]
    refine List.map_congr_left fun st _ => ?_
    rw [State.unitsIn_eq]
    simp only [State.taken_unit, Function.comp_apply]
  simp only [State.summary, counts, State.taken_linked, State.provisionalCount, State.sweepActive, State.slot, State.taken_dir, State.taken_arb,
    State.taken_supply, State.taken_strings, State.taken_sweeps, State.taken_time]
  rfl

theorem nextCensus_eq {n : Nat} (few : n ≤ 65535) : nextCensus n = if n = 65535 then 1 else n + 1 :=
  if_congr (by omega) rfl rfl

/-! ## Clearing (R205) -/

theorem Counters.cleared_eq (n : Counters) (selection : Byte) :
    n.cleared selection =
      let keep := fun k (x : Nat) => if selection.getLsbD k then 0 else x
      { accepted := keep 0 n.accepted, refused := keep 0 n.refused, repeats := keep 0 n.repeats
        dispatched := keep 1 n.dispatched, done := keep 1 n.done, doneLate := keep 1 n.doneLate, jammed := keep 1 n.jammed
        uncertain := keep 1 n.uncertain, refusedByNode := keep 1 n.refusedByNode, limited := keep 1 n.limited
        strings := if selection.getLsbD 2 then ⟨⟨0, 0, 0, 0⟩, ⟨0, 0, 0, 0⟩, ⟨0, 0, 0, 0⟩, ⟨0, 0, 0, 0⟩⟩ else n.strings
        framesBad := keep 3 n.framesBad, overruns := keep 3 n.overruns, noticesDropped := keep 3 n.noticesDropped } := by
  unfold Counters.cleared
  dsimp only
  cases selection.getLsbD 0 <;> cases selection.getLsbD 1 <;> cases selection.getLsbD 2 <;> cases selection.getLsbD 3 <;> rfl

/-- Settles O55. -/
theorem noticesAndCensusAreKept : Obligations.NoticesAndCensusAreKept := by
  refine ⟨fun s d => s.post_eq d, fun s tag count sect selection marks on => ?_⟩
  intro f e c r z enabled number o left given h code
  refine ⟨?_, ?_, fun few => ?_, fun high => ?_, fun named none_ => ?_, fun n m some_ snapshot => ?_, ?_⟩
  · rw [exec_fetchNotices on, fetchNotices, State.answered_ite, State.fetch, State.answered_ok, State.answered_refuse]
    refine congrArg Host.Outcome.next (if_congr (by omega) rfl ?_)
    have limit : (s.taken (Instr.fetchNotices tag count)).params.link.ageLimit = s.params.link.ageLimit := by rw [State.taken_params]
    rw [limit, AgeTimer.afterFetch_eq]
    rfl
  · rw [exec_setNoticeEnables on]
    rfl
  · have timebase : (s.taken (Instr.census tag)).time.timebase = s.time.timebase := by rw [State.taken_time]
    rw [exec_census on, census, State.answered_ok, State.summary_taken, State.taken_census, nextCensus_eq few, timebase]
    rfl
  · rw [exec_readCensus on]
    exact congrArg (fun x => Host.Outcome.next (s.answered r x)) (if_pos high)
  · rw [exec_readCensus on]
    change Host.Outcome.next (s.answered r (readCensus sect (s.taken r))) = Host.Outcome.next (s.answered r ((s.taken r).refuse .badState))
    refine congrArg (fun x => Host.Outcome.next (s.answered r x)) ?_
    rw [readCensus, State.taken_census, if_neg (not_lt.mpr named)]
    cases snapshot : s.census.snapshot with
    | none => rfl
    | some x => exact if_pos (none_.resolve_right (by rw [snapshot]; simp))
  · intro line state reads
    have read : ∀ bytes, sect.toNat ≤ 4 → censusSection? sect n m = some bytes → reads bytes := fun bytes named section_ => by
      have this : exec r s = .next (s.answered r (readCensus sect (s.taken r))) := exec_readCensus on tag sect
      rw [readCensus, State.taken_census, if_neg (not_lt.mpr named), snapshot] at this
      dsimp only at this
      rw [if_neg some_, section_] at this
      exact this
    refine ⟨fun at_ => ?_, fun at_ => ?_, fun at_ => ?_, fun at_ => ?_, fun at_ => ?_⟩ <;> subst at_
    · exact read _ (by decide) rfl
    · exact read _ (by decide) rfl
    · refine read _ (by decide) ?_
      simp [censusSection?, PerString.toList, StringCounters.bytes, line]
    · exact read _ (by decide) rfl
    · refine read _ (by decide) ?_
      simp [censusSection?, PerString.toList, Summary.bytes, state, bits]
  · rw [exec_clearCounters on, clearCounters, State.answered_ite]
    refine congrArg Host.Outcome.next (if_congr ?_ rfl ?_)
    · rw [← BitVec.toNat_inj]
      exact or_congr_left (by simp)
    · rw [State.answered_ok, State.count, Counters.cleared_eq]
      rfl

end Sys2Proof.Machine
end


section
/-! PROOF. What a string does when it goes on (R129, R130), field by field. -/

set_option Elab.async false

namespace Sys2Proof.Machine

variable {s t : State}

/-! ## The next exchange -/

theorem StringCtl.sends_nodes (c : StringCtl) (addr : Nat) (cmd : NodeCommand) (settle : Bool) : (c.sends addr cmd settle).nodes = c.nodes := rfl

/-- A frame to a node that is not ABSENT carries its last seq and its pending code (R130, R148). -/
theorem StringCtl.sends_of_node {c : StringCtl} {addr : Nat} {n : NodeRecord} (node : c.nodes.find? (·.addr == addr) = some n)
    (live : n.presence ≠ .absent) (cmd : NodeCommand) (settle : Bool) :
    (c.sends addr cmd settle).exchange
        = some { node := addr, command := cmd, ack := n.lastSeq, code := n.pending, stale := false, replaced := false }
      ∧ (c.sends addr cmd settle).lineOut = commandFrame addr cmd n.lastSeq n.pending := by
  have found : ((c.nodes.find? (·.addr == addr)).filter (·.presence != .absent)) = some n := by
    rw [node, Option.filter_some, if_pos (by simpa using live)]
  simp only [StringCtl.sends, found]
  exact ⟨rfl, rfl⟩

/-- An actuation whose command has not gone out goes ahead of every poll (R130, R141). -/
theorem StringCtl.chooses_commanding {c : StringCtl} {f : InFlight} (flight : c.inFlight = some f) (phase : f.phase = .commanding) :
    c.chooses = c.sends f.node (.actuate f.direction) false := by
  unfold StringCtl.chooses
  dsimp only
  rw [flight]
  generalize (if c.inRound = true then c.unvisited.head? else none) = visit
  cases visit with
  | none => exact if_pos phase
  | some n => exact if_pos phase

theorem StringCtl.settled_nodes (c : StringCtl) (period : Nat) : (c.settled period).nodes = c.nodes := by
  unfold StringCtl.settled StringCtl.openRound
  dsimp only
  (repeat' split) <;> rfl

theorem StringCtl.settled_inFlight (c : StringCtl) (period : Nat) : (c.settled period).inFlight = c.inFlight := by
  unfold StringCtl.settled StringCtl.openRound
  dsimp only
  (repeat' split) <;> rfl

/-! ## Going on -/

theorem sendNext_of_busy {i : StringId} (busy : (s.str i).exchange.isSome = true) : s.sendNext i = s := if_pos busy

theorem str_sendNext_of_free {i : StringId} (free : (s.str i).exchange = none) (going : (s.str i).held = false) :
    (s.sendNext i).str i = ((s.str i).settled s.roundPeriod).chooses := by
  rw [sendNext_eq_wentOn, wentOn_eq, if_neg (by rw [free]; decide)]
  dsimp only
  rw [State.str, PerString.get_set_self, if_neg (by rw [going]; decide)]

theorem str_sendNext_other (s : State) {i j : StringId} (ne : j ≠ i) : (s.sendNext i).str j = s.str j := by
  rw [sendNext_eq_wentOn, wentOn_eq]
  split
  · rfl
  · rw [State.str, PerString.get_set_other _ ne]
    rfl

/-- A string that goes on keeps its roster. -/
theorem nodes_sendNext (s : State) (i j : StringId) : ((s.sendNext i).str j).nodes = (s.str j).nodes := by
  have chooses : ∀ c : StringCtl, c.chooses.nodes = c.nodes := fun c => by
    unfold StringCtl.chooses StringCtl.sends
    dsimp only
    (repeat' split) <;> rfl
  by_cases same : j = i
  · subst same
    rw [sendNext_eq_wentOn, wentOn_eq]
    split
    · rfl
    · dsimp only
      rw [State.str, PerString.get_set_self]
      split
      · exact StringCtl.settled_nodes _ _
      · rw [chooses, StringCtl.settled_nodes]
  · rw [str_sendNext_other s same]

/-- Going on counts at most an overrun of the string. -/
theorem counters_sendNext (s : State) (i : StringId) : ∃ n, (s.sendNext i).counters = { s.counters with strings := n } := by
  rw [sendNext_eq_wentOn, wentOn_eq]
  split
  · exact ⟨_, rfl⟩
  · exact ⟨_, rfl⟩

end Sys2Proof.Machine
end

section
/-! PROOF. The two grants: O43, O44 (R96, R99 to R101, R112, R161). -/

set_option Elab.async false

namespace Sys2Proof.Machine

variable {s t : State}

/-! ## The dispatch -/

/-- What a dispatch does: the charge, the count, the actuation in flight on its string, and its command as the next exchange (R100, R112, R141). -/
theorem dispatch_spec {u : Nat} {c : UnitConfig} (config : (s.unit u).config = some c)
    (live : ∀ n, s.node? c.string c.node = some n → n.presence ≠ .absent) (direction : Direction) (origin : Origin)
    (semantics : Option StaffAction) (band : Option BandId) (tag : Option Nat) (slot : Option SlotId) :
    let f := s.flightFor u c.node direction origin semantics band tag slot
    let account := s.supply.account + match c.kind with | .locker => s.params.supply.kL | .cabin => s.params.supply.kC
    let t := s.dispatch u direction origin semantics band tag slot
    t.supply = { s.supply with account := account, throttled := s.supply.throttled || decide (s.params.supply.hw ≤ account) }
      ∧ t.counters.dispatched = min 4294967295 (s.counters.dispatched + 1)
      ∧ (t.str c.string).inFlight = some f ∧ (t.str c.string).nodes = (s.str c.string).nodes
      ∧ ((s.str c.string).exchange.isSome = true → t.str c.string = { s.str c.string with inFlight := some f, held := false })
      ∧ (∀ n, (s.str c.string).exchange = none → s.node? c.string c.node = some n →
          (t.str c.string).exchange =
            some { node := c.node, command := .actuate direction, ack := n.lastSeq, code := n.pending, stale := false, replaced := false }
          ∧ (t.str c.string).lineOut = commandFrame c.node (.actuate direction) n.lastSeq n.pending)
      ∧ (∀ j, j ≠ c.string → t.str j = s.str j)
      ∧ Changes [.supply, .strings, .counters] s t := by
  intro f account t
  have eq : t = ((s.charged c).setStr c.string ((s.str c.string).launch f)).sendNext c.string := State.dispatch_eq config _ _ _ _ _ _
  have supply : ∀ a, a = s.supply.account + costOf s.params.supply c.kind → (s.charged c).supply
      = { s.supply with account := a, throttled := s.supply.throttled || decide (s.params.supply.hw ≤ a) } := fun a is => by
    subst is
    rfl
  generalize launched : (s.charged c).setStr c.string ((s.str c.string).launch f) = r at eq
  have str : r.str c.string = (s.str c.string).launch f := by rw [← launched, State.str_setStr_self]
  have other : ∀ j, j ≠ c.string → r.str j = s.str j := fun j ne => by
    rw [← launched, State.str_setStr_other _ ne]
    rfl
  have sent : Changes [.strings, .counters] r t := by rw [eq]; simp
  obtain ⟨_, counters⟩ := counters_sendNext r c.string
  refine ⟨?_, ?_, ?_, ?_, fun busy => ?_, fun n free node => ?_, fun j ne => ?_, ?_⟩
  · rw [sent .supply (by decide), ← launched]
    exact supply account (congrArg (s.supply.account + ·) (by cases c.kind <;> rfl))
  · rw [eq, counters, ← launched]
    rfl
  · rw [eq, State.inFlight_sendNext, str]
    rfl
  · rw [eq, nodes_sendNext, str]
    rfl
  · rw [eq, sendNext_of_busy (by rw [str]; exact busy), str]
    rfl
  · have going : t.str c.string = ((r.str c.string).settled r.roundPeriod).sends c.node (.actuate direction) false := by
      rw [eq, str_sendNext_of_free (by rw [str]; exact free) (by rw [str]; rfl),
        StringCtl.chooses_commanding (f := f) (by rw [StringCtl.settled_inFlight, str]; rfl) rfl]
      rfl
    rw [going]
    exact StringCtl.sends_of_node (by rw [StringCtl.settled_nodes, str]; exact node) (live n node) _ _
  · rw [eq, str_sendNext_other r ne, other j ne]
  · rw [eq, ← launched]
    simp [State.charged]

theorem exec_grantRecord (on : s.power.on = true) : exec .grantRecord s = .next s.lookRecord := next_whenOn on _

theorem exec_grantSweepCandidate (on : s.power.on = true) : exec .grantSweepCandidate s = .next s.lookOffer := next_whenOn on _

/-- With no line held, the end of a pass ends it and does nothing else. -/
theorem passEnded_of_free (free : ∀ i, (s.str i).held = false) : s.passEnded = { s with arb := { s.arb with grantPass := false } } := by
  have release : ∀ i, (s.setArb { s.arb with grantPass := false }).release i = s.setArb { s.arb with grantPass := false } := fun i =>
    if_neg (by rw [show (s.setArb { s.arb with grantPass := false }).str i = s.str i from rfl, free]; decide)
  rw [← endPass_eq_passEnded, State.endPass, allStrings]
  simp only [List.foldl_cons, List.foldl_nil, release]
  rfl

/-- An eligible unit's node is not ABSENT (R97). -/
theorem live_of_eligible {u : Nat} {o : Origin} {c : UnitConfig} (eligible : s.eligible u o = true) (config : (s.unit u).config = some c)
    (n : NodeRecord) (node : s.node? c.string c.node = some n) : n.presence ≠ .absent := by
  obtain ⟨c', n', config', node', -, -, ⟨live, -⟩, -⟩ := (s.eligible_iff u o).mp eligible
  rw [config, Option.some.injEq] at config'
  subst config'
  rw [node, Option.some.injEq] at node'
  exact node' ▸ live

/-- Settles O43. -/
theorem recordsAreGranted : Obligations.RecordsAreGranted := by
  intro s on
  have look := exec_grantRecord on
  refine ⟨fun idle => ?_, fun pass none_ => ?_, passEnded_of_free, fun k i o found => ?_, fun r c pass found config => ?_⟩
  · rw [look, State.lookRecord, if_neg (by rw [idle]; decide)]
  · rw [look, State.lookRecord, if_pos pass, none_, ← endPass_eq_passEnded]
  · rw [look, State.lookRecord, found]
    exact congrArg Host.Outcome.next (ite_self _)
  · intro account f
    obtain ⟨-, eligible⟩ := State.mem_of_firstEligible found
    obtain ⟨supply, count, flight, nodes, busy, free, others, same⟩ :=
      dispatch_spec (s := (s.removeRecord r.unit).demandInFlight r.tag) config (live_of_eligible eligible config) r.direction r.origin r.semantics
        r.band r.tag none
    have demands : (s.arb.demands.map fun d => if some d.tag = r.tag then { d with inFlight := true } else d)
        = s.arb.demands.map fun d => if r.tag = some d.tag then { d with inFlight := true } else d :=
      List.map_congr_left fun d _ => if_congr eq_comm rfl rfl
    refine ⟨s.grant r, ?_, supply, (same .arb (by decide)).trans ?_, count, flight, nodes, busy, free, others, ?_⟩
    · rw [look, State.lookRecord, if_pos pass, found]
    · rw [← demands]
      rfl
    · simp [State.grant]

/-! ## Sweep candidates -/

theorem isUnit_of_config {u : Nat} {c : UnitConfig} (config : (s.unit u).config = some c) : isUnit u := by
  by_contra other
  rw [State.unit_of_not_isUnit _ other] at config
  cases config

theorem offeredElsewhere_iff (p : PerString (Option Offer)) (i : StringId) :
    (p.set i none).toList.any (·.isSome) = true ↔ ∃ j ∈ allStrings, j ≠ i ∧ p.get j ≠ none := by
  cases i <;> simp [PerString.set, PerString.toList, PerString.get, allStrings, Option.isSome_iff_ne_none]

theorem changes_offerTaken (s : State) (k : SlotId) (i : StringId) (u : Nat) : Changes [.units, .arb, .sweeps] s (s.offerTaken k i u) := by
  unfold State.offerTaken
  cases k <;> simp

theorem State.units_offerTaken (s : State) (k : SlotId) (i : StringId) (u : Nat) :
    (s.offerTaken k i u).units = (s.setUnit u ((s.unit u).intends (slotCause k))).units := by
  cases k <;> rfl

theorem State.unit_offerTaken (s : State) {u : Nat} (unit : isUnit u) (k : SlotId) (i : StringId) (v : Nat) :
    (s.offerTaken k i u).unit v = if v = u then (s.unit u).intends (slotCause k) else s.unit v := by
  rw [State.unit_congr (State.units_offerTaken s k i u)]
  split
  case isTrue same => rw [same, State.unit_setUnit_self s unit]
  case isFalse ne => exact State.unit_setUnit_other _ _ ne

theorem State.slot_offerTaken (s : State) (k l : SlotId) (i : StringId) (u : Nat) :
    (s.offerTaken k i u).slot l = if l = k then (s.slot k).issue i else s.slot l := by
  have sweeps : (s.offerTaken k i u).slot l = ((s.setUnit u ((s.unit u).intends (slotCause k))).setSlot k ((s.slot k).issue i)).slot l := by
    cases k <;> rfl
  rw [sweeps]
  split
  case isTrue same => rw [same, State.slot_setSlot_self]
  case isFalse ne => rw [State.slot_setSlot_other _ ne, State.slot_setUnit]

theorem State.offerTaken_arb (s : State) (k : SlotId) (i : StringId) (u : Nat) :
    (s.offerTaken k i u).arb = match k with
      | .evacuation => s.arb
      | .closing => { s.arb with
          urgent := false
          urgencyTimer := if ∃ j ∈ allStrings, j ≠ i ∧ (s.slot k).offers.get j ≠ none then some s.params.time.urgency else none } := by
  have arb : (s.setUnit u ((s.unit u).intends (slotCause k))).arb = s.arb := State.setUnit_arb _ _ _
  have params : (s.setUnit u ((s.unit u).intends (slotCause k))).params = s.params :=
    (show Changes [.units] s (s.setUnit u ((s.unit u).intends (slotCause k))) by simp) .params (by decide)
  cases k
  · exact arb
  · have offered : ((s.setUnit u ((s.unit u).intends .closing)).setSlot .closing ((s.slot .closing).issue i)).closingOffered = true
        ↔ ∃ j ∈ allStrings, j ≠ i ∧ (s.slot .closing).offers.get j ≠ none := offeredElsewhere_iff (s.slot .closing).offers i
    have timer := if_congr (Q := ∃ j ∈ allStrings, j ≠ i ∧ (s.slot .closing).offers.get j ≠ none) offered
      (congrArg (fun p : Params => some p.time.urgency) params) (rfl : (none : Option Nat) = none)
    exact congrArg₂ (fun (a : Arbiter) timer => { a with urgent := false, urgencyTimer := timer }) arb timer

/-- A stale candidate is judged again as at a visit, an offer being marked for repeat (R161). -/
theorem rejudge_eq_judged (s : State) (k : SlotId) (u : Nat) :
    s.rejudge k u = if s.visits k u = true then (s.visited k u).judged k u ((s.visited k u).judge k u) else s := by
  unfold State.rejudge
  refine if_congr Iff.rfl ?_ rfl
  dsimp only
  rw [supersede_eq_visited]
  cases judge : (s.visited k u).judge k u with
  | releaseAtOnce =>
    refine releaseAtOnce_eq_releasedOpen _ k ?_
    by_contra other
    have state := (openHeld_of_judge judge).2
    rw [State.unit_of_not_isUnit _ other] at state
    cases state
  | passBy => rfl
  | markForRepeat => rfl
  | offer => rfl

/-- A candidate taken off its offer, with closing urgency adjusted (R96, R162). -/
theorem clearOffer_urgency (s : State) (k : SlotId) (i : StringId) :
    (match k with | .closing => (s.clearOffer k i).urgencyAtDrop | .evacuation => s.clearOffer k i)
      = { s.setSlot k { s.slot k with offers := (s.slot k).offers.set i none } with
          arb := if k = .closing ∧ ¬∃ j ∈ allStrings, j ≠ i ∧ (s.slot k).offers.get j ≠ none then { s.arb with urgent := false, urgencyTimer := none }
            else s.arb } := by
  cases k
  · rfl
  · have offered : (s.clearOffer .closing i).closingOffered = true ↔ ∃ j ∈ allStrings, j ≠ i ∧ (s.slot .closing).offers.get j ≠ none :=
      offeredElsewhere_iff (s.slot .closing).offers i
    dsimp only
    unfold State.urgencyAtDrop
    by_cases other : ∃ j ∈ allStrings, j ≠ i ∧ (s.slot .closing).offers.get j ≠ none
    · rw [if_pos (offered.mpr other), if_neg (fun both => both.2 other)]
      rfl
    · rw [if_neg (mt offered.mp other), if_pos ⟨rfl, other⟩]
      rfl

theorem State.handBack_eq (s : State) (k : SlotId) (i : StringId) (u : Nat) :
    s.handBack k i u =
      ((({ s.setSlot k { s.slot k with offers := (s.slot k).offers.set i none } with
          arb := if k = .closing ∧ ¬∃ j ∈ allStrings, j ≠ i ∧ (s.slot k).offers.get j ≠ none then { s.arb with urgent := false, urgencyTimer := none }
            else s.arb } : State).rejudge k u).walk k i) := by
  rw [← clearOffer_urgency]
  cases k <;> rfl

/-- Settles O44. -/
theorem sweepCandidatesAreGranted : Obligations.SweepCandidatesAreGranted := by
  intro s on
  have look := exec_grantSweepCandidate on
  refine ⟨fun idle => ?_, fun pass none_ => ?_, fun r found => ?_, fun k i o c pass found config => ?_⟩
  · rw [look, State.lookOffer, if_neg (by rw [idle]; decide)]
  · rw [look, State.lookOffer, if_pos pass, none_, ← endPass_eq_passEnded]
  · rw [look, State.lookOffer, found]
    exact congrArg Host.Outcome.next (ite_self _)
  · intro u moving others off
    obtain ⟨-, eligible⟩ := State.mem_of_firstEligible found
    have accepts : s.acceptsSweep k u = true ↔ s.judge k u = .offer ∧ moving = false := by
      simp only [State.acceptsSweep, Bool.and_eq_true, beq_iff_eq, Bool.not_eq_true', and_assoc, moving, Bool.or_eq_false_iff]
      rfl
    refine ⟨fun accepted => ?_, fun refused => ?_⟩
    · intro account cause f
      have unit : isUnit u := isUnit_of_config config
      have same := changes_offerTaken s k i u
      have configured : ((s.offerTaken k i u).unit u).config = some c := by
        rw [State.unit_offerTaken s unit, if_pos rfl]
        exact config
      have str : ∀ j, (s.offerTaken k i u).str j = s.str j := fun j => by rw [State.str, same .strings (by decide), State.str]
      have node : (s.offerTaken k i u).node? c.string c.node = s.node? c.string c.node := by rw [State.node?, str, State.node?]
      obtain ⟨supply, count, flight, nodes, busy, free, elsewhere, dispatched⟩ :=
        dispatch_spec configured (fun n at_ => live_of_eligible eligible config n (node ▸ at_)) .unlock (slotOrigin k) none none none (some k)
      have supplied : (s.offerTaken k i u).supply = s.supply := same .supply (by decide)
      have params : (s.offerTaken k i u).params = s.params := same .params (by decide)
      have counters : (s.offerTaken k i u).counters = s.counters := same .counters (by decide)
      simp only [supplied, params, counters, str, node] at supply count nodes busy free elsewhere
      have launched : (s.offerTaken k i u).flightFor u c.node .unlock (slotOrigin k) none none none (some k) = f := by
        rw [State.flightFor, supplied]
        cases k <;> rfl
      rw [launched] at flight busy
      refine ⟨s.grantOffer k i u, ?_, ?_⟩
      · rw [look, State.lookOffer, if_pos pass, found]
        exact congrArg Host.Outcome.next (if_pos (accepts.mpr accepted))
      · rw [State.grantOffer_eq]
        refine ⟨supply, fun v => ?_, fun l => ?_, (dispatched .arb (by decide)).trans (s.offerTaken_arb k i u), count, flight, nodes, busy, free,
          elsewhere, ?_⟩
        · rw [State.unit_congr (dispatched .units (by decide)), State.unit_offerTaken s unit]
          cases k <;> rfl
        · rw [State.slot_congr (dispatched .sweeps (by decide)), State.slot_offerTaken]
          rfl
        · exact (same.mono (by decide)).trans (dispatched.mono (by decide))
    · intro b v
      have handed : s.handBack k i u = (b.rejudge k u).walk k i := s.handBack_eq k i u
      refine ⟨s.handBack k i u, ?_, ?_⟩
      · rw [look, State.lookOffer, if_pos pass, found]
        exact congrArg Host.Outcome.next (if_neg (mt accepts.mp refused))
      · rw [handed, ← rejudge_eq_judged]
        refine ⟨_, exec_sweepWalk ?_ k i, rfl⟩
        have same : Changes [.units, .dir, .arb, .sweeps, .link, .notices, .counters] b (b.rejudge k u) := by simp
        rw [same .power (by decide)]
        cases k <;> exact on

end Sys2Proof.Machine
end


section
/-! PROOF. The timers of a string: O46 (R129, R130, R139, R140, R144, R147). -/

set_option Elab.async false

namespace Sys2Proof.Machine

variable {s t : State}

theorem State.setStr_self (s : State) (i : StringId) : s.setStr i (s.str i) = s := congrArg s.setStrings (PerString.set_get _ _)

theorem post_setStr (s : State) (i : StringId) (c : StringCtl) (d : NoticeData) : (s.setStr i c).post d = (s.post d).setStr i c := by
  unfold State.post
  by_cases off : (!s.kindEnabled d.kind) = true
  · rw [if_pos off]
    exact if_pos off
  · rw [if_neg off]
    refine (if_neg off).trans ?_
    by_cases full : Config.noticeCapacity ≤ s.notices.stored.length
    · rw [if_pos full]
      exact if_pos full
    · rw [if_neg full]
      exact if_neg full

theorem post_setArb (s : State) (a : Arbiter) (d : NoticeData) : (s.setArb a).post d = (s.post d).setArb a := by
  unfold State.post
  by_cases off : (!s.kindEnabled d.kind) = true
  · rw [if_pos off]
    exact if_pos off
  · rw [if_neg off]
    refine (if_neg off).trans ?_
    by_cases full : Config.noticeCapacity ≤ s.notices.stored.length
    · rw [if_pos full]
      exact if_pos full
    · rw [if_neg full]
      exact if_neg full

/-! ## A round begins -/

/-- The addresses that a round visits, from its start (R129). -/
def StringCtl.visited (c : StringCtl) : List NodeRecord := c.nodes.filter fun n => c.roundCount = 0 ∨ n.presence ≠ .absent

theorem StringCtl.unvisited_eq_visited {c : StringCtl} (start : c.cursor = none) : c.unvisited = c.visited := by
  unfold StringCtl.unvisited StringCtl.visited
  rw [start]
  refine List.filter_congr fun n _ => ?_
  rw [Bool.eq_iff_iff]
  simp

theorem StringCtl.openRound_eq (c : StringCtl) (period : Nat) :
    c.openRound period =
      if c.visited.isEmpty then { c with roundTimer := some period, cursor := none, inRound := false, roundCount := (c.roundCount + 1) % 4 }
      else { c with roundTimer := some period, cursor := none, inRound := true } := by
  unfold StringCtl.openRound
  dsimp only
  rw [StringCtl.nextVisit_isNone, StringCtl.unvisited_eq_visited rfl]
  rfl

theorem StringCtl.openRound_of_none {c : StringCtl} (none_ : c.visited = []) (period : Nat) :
    c.openRound period
      = { c with roundTimer := some period, cursor := none, inRound := false, roundCount := (c.roundCount + 1) % 4 } := by
  rw [StringCtl.openRound_eq, none_]
  rfl

theorem StringCtl.openRound_of_some {c : StringCtl} (some_ : c.visited ≠ []) (period : Nat) :
    c.openRound period = { c with roundTimer := some period, cursor := none, inRound := true } := by
  rw [StringCtl.openRound_eq, if_neg (by simpa using some_)]

/-- A round that has only begun is not over: it has an address left, or has ended at its start (R129). -/
theorem StringCtl.openRound_not_over (c : StringCtl) (period : Nat) : (c.openRound period).roundOver = false := by
  by_cases none_ : c.visited = []
  · rw [StringCtl.openRound_of_none none_]
    rfl
  · rw [StringCtl.openRound_of_some none_, StringCtl.roundOver, StringCtl.nextVisit_isNone, StringCtl.unvisited_eq_visited rfl]
    exact Bool.and_eq_false_imp.mpr fun _ => Bool.eq_false_iff.mpr (mt List.isEmpty_iff.mp none_)

theorem StringCtl.openRound_line (c : StringCtl) (period : Nat) :
    (c.openRound period).exchange = c.exchange ∧ (c.openRound period).held = c.held ∧ (c.openRound period).inFlight = c.inFlight := by
  rw [StringCtl.openRound_eq]
  split <;> exact ⟨rfl, rfl, rfl⟩

/-- A line that a grant pass holds, with a round that is not over, sends nothing (R147). -/
theorem sendNext_of_held {i : StringId} (held : (s.str i).held = true) (left : (s.str i).roundOver = false) : s.sendNext i = s := by
  cases free : (s.str i).exchange with
  | some x => exact sendNext_of_busy (by rw [free]; rfl)
  | none =>
    have round : s.settleRound i = s := by
      rw [settleRound_eq, StringCtl.late, StringCtl.settled, left]
      exact s.setStr_self i
    rw [State.sendNext, if_neg (by rw [free]; decide), round, chooseNext_eq free, if_pos held, s.setStr_self]

/-- On a busy line, or one held for a grant pass, a round begins without a frame (R129, R147). -/
theorem beginRound_of_waiting {i : StringId} (waits : (s.str i).exchange ≠ none ∨ (s.str i).held = true) :
    s.beginRound i = s.setStr i ((s.str i).openRound s.roundPeriod) := by
  obtain ⟨exchange, held, -⟩ := (s.str i).openRound_line s.roundPeriod
  rw [State.beginRound, State.roundPeriod_eq]
  rcases waits with busy | waits
  · exact sendNext_of_busy (by rw [State.str_setStr_self, exchange]; exact Option.isSome_iff_ne_none.mpr busy)
  · exact sendNext_of_held (by rw [State.str_setStr_self, held]; exact waits) (by rw [State.str_setStr_self]; exact StringCtl.openRound_not_over _ _)

/-- On a free line a round begins with the string's next exchange (R129, R130). -/
theorem beginRound_of_free {i : StringId} (free : (s.str i).exchange = none) (going : (s.str i).held = false) :
    s.beginRound i = s.setStr i ((s.str i).openRound s.roundPeriod).chooses := by
  obtain ⟨exchange, held, -⟩ := (s.str i).openRound_line s.roundPeriod
  rw [State.beginRound, State.roundPeriod_eq, sendNext_of_free (by rw [State.str_setStr_self, exchange]; exact free)
    (by rw [State.str_setStr_self, held]; exact going) (by rw [State.str_setStr_self]; exact StringCtl.openRound_not_over _ _),
    State.str_setStr_self, State.setStr_setStr]

/-! ## The first frame of a round -/

/-- The POLL with which a round visits a node; a probe of an ABSENT node carries neither acknowledgement nor code (R129, R131). -/
def StringCtl.polls (c : StringCtl) (n : NodeRecord) : StringCtl :=
  let ack := if n.presence = .absent then none else n.lastSeq
  let code := if n.presence = .absent then .dark else n.pending
  { c with
    cursor := some n.addr
    exchange := some { node := n.addr, command := .poll, ack := ack, code := code, stale := false, replaced := false }
    lastSettle := false, lineOut := commandFrame n.addr .poll ack code }

theorem StringCtl.sends_poll {c : StringCtl} {n : NodeRecord} (node : c.nodes.find? (·.addr == n.addr) = some n) :
    { c.sends n.addr .poll false with cursor := some n.addr } = c.polls n := by
  unfold StringCtl.sends StringCtl.polls
  rw [node, Option.filter_some]
  by_cases absent : n.presence = .absent
  · simp [absent]
  · simp [absent]

/-- With nothing in flight and a round in progress, the next address is polled (R130). -/
theorem StringCtl.chooses_poll {c : StringCtl} {n : NodeRecord} {rest : List NodeRecord} (still : c.inFlight = none) (inRound : c.inRound = true)
    (left : c.unvisited = n :: rest) (node : c.nodes.find? (·.addr == n.addr) = some n) : c.chooses = c.polls n := by
  rw [← StringCtl.sends_poll node]
  unfold StringCtl.chooses
  dsimp only
  rw [still, inRound, left]
  rfl

/-- With nothing in flight and no round in progress, nothing is sent (R130). -/
theorem StringCtl.chooses_idle {c : StringCtl} (still : c.inFlight = none) (ended : c.inRound = false) : c.chooses = c := by
  unfold StringCtl.chooses
  dsimp only
  rw [still, ended]
  rfl

/-- The record that an address finds, where no other has that address. -/
theorem find?_addr_of_unique {nodes : List NodeRecord} {n : NodeRecord} (mem : n ∈ nodes) (unique : ∀ m ∈ nodes, m.addr = n.addr → m = n) :
    nodes.find? (·.addr == n.addr) = some n := by
  cases found : nodes.find? (·.addr == n.addr) with
  | none => exact absurd (List.find?_eq_none.mp found n mem) (by simp)
  | some m => rw [unique m (List.mem_of_find?_eq_some found) (by simpa using List.find?_some found)]

/-- With nothing in flight a round begins on a free line with the POLL of the first address it visits (R129, R130). -/
theorem beginRound_polls {i : StringId} {n : NodeRecord} {rest : List NodeRecord} (free : (s.str i).exchange = none)
    (going : (s.str i).held = false) (still : (s.str i).inFlight = none) (left : (s.str i).visited = n :: rest)
    (node : (s.str i).nodes.find? (·.addr == n.addr) = some n) :
    s.beginRound i = s.setStr i (({ s.str i with roundTimer := some s.roundPeriod, inRound := true } : StringCtl).polls n) := by
  rw [beginRound_of_free free going, StringCtl.openRound_of_some (by rw [left]; simp)]
  refine congrArg (s.setStr i) ?_
  exact StringCtl.chooses_poll (c := { s.str i with roundTimer := some s.roundPeriod, cursor := none, inRound := true }) still rfl
    ((StringCtl.unvisited_eq_visited rfl).trans left) node

/-- Where it has a node to visit, a round begins as R129 says: the round's figures, and then the string goes on. -/
theorem beginRound_eq_wentOn {i : StringId} (some_ : (s.str i).visited ≠ []) :
    s.beginRound i =
      (s.setStr i ({ s.str i with roundTimer := some s.roundPeriod, cursor := none, inRound := true } : StringCtl)).wentOn i := by
  rw [State.beginRound, State.roundPeriod_eq, StringCtl.openRound_of_some some_, sendNext_eq_wentOn]

/-! ## A string enters a state (R137) -/

theorem enterString_eq_stringEnters (s : State) (i : StringId) (st : StringState) : s.enterString i st = s.stringEnters i st := by
  unfold State.enterString State.stringEnters
  dsimp only
  by_cases same : (s.str i).state = st
  · rw [if_pos same, if_pos same]
  · rw [if_neg same, if_neg same, State.str_setStr_self]
    rfl

theorem stringEnters_of_eq {i : StringId} {st : StringState} (same : (s.str i).state = st) : s.stringEnters i st = s := by
  unfold State.stringEnters
  exact if_pos same

/-- A string enters a state that is new to it, its notice stored ahead of the record. -/
theorem stringEnters_of_ne {i : StringId} {st : StringState} (ne : (s.str i).state ≠ st) :
    s.stringEnters i st =
      let t := (s.post { kind := .stringState, string := some i, code := .string st, value := some (s.str i).score }).setStr i
        { s.str i with state := st }
      if (s.str i).state = .degraded ∨ (s.str i).state = .off then t.setArb { s.arb with grantPass := true } else t := by
  unfold State.stringEnters
  dsimp only
  rw [if_neg ne, show ({ s with strings := s.strings.set i { s.str i with state := st } } : State) = s.setStr i { s.str i with state := st } from rfl,
    post_setStr]
  by_cases leaves : (s.str i).state = .degraded ∨ (s.str i).state = .off
  · rw [if_pos leaves, if_pos leaves, show (State.setStr (s.post _) i _).arb = s.arb from State.post_arb _ _]
    rfl
  · rw [if_neg leaves, if_neg leaves]

/-! ## A restart (R139) -/

/-- A string at a restart, before its first frame. -/
def StringCtl.probing (c : StringCtl) (period : Nat) : StringCtl :=
  { c with
    recoveryTimer := none, score := 0, roundCount := 0, held := false, nodes := c.nodes.map fun n : NodeRecord => { n.gone with lastSeq := none }
    state := .active, roundTimer := some period, inRound := true }

/-- A restart of an OFF string on a free line probes its lowest address (R129, R139). -/
theorem restart_eq {i : StringId} {n : NodeRecord} {rest : List NodeRecord} (off : (s.str i).state = .off)
    (nodes : ((s.str i).probing s.roundPeriod).nodes = n :: rest) (free : (s.str i).exchange = none) (still : (s.str i).inFlight = none) :
    s.restart i =
      ({ s with
          strings := s.strings.set i (((s.str i).probing s.roundPeriod).polls n)
          arb := { s.arb with grantPass := true } } : State).post
        { kind := .stringState, string := some i, code := .string .active, value := some 0 } := by
  have restarted : (s.str i).nodes.map NodeRecord.restarted = n :: rest := nodes
  have absent : ∀ m ∈ n :: rest, m.presence = .absent := fun m mem => by
    rw [← restarted] at mem
    obtain ⟨old, -, rfl⟩ := List.mem_map.mp mem
    rfl
  generalize probed : ({ s.str i with
      recoveryTimer := none, score := 0, roundCount := 0, held := false, nodes := (s.str i).nodes.map NodeRecord.restarted } : StringCtl) = c
  have state : c.state = .off := by rw [← probed]; exact off
  have score : c.score = 0 := by rw [← probed]
  have count : c.roundCount = 0 := by rw [← probed]
  have records : c.nodes = n :: rest := by rw [← probed]; exact restarted
  have line : c.exchange = none := by rw [← probed]; exact free
  have going : c.held = false := by rw [← probed]
  have flight : c.inFlight = none := by rw [← probed]; exact still
  have probing : (s.str i).probing s.roundPeriod =
      { c with state := .active, roundTimer := some s.roundPeriod, inRound := true } := by rw [← probed]; rfl
  have began : s.restart i = ((s.setStr i c).enterString i .active).beginRound i := by rw [← probed]; rfl
  have ne : ((s.setStr i c).str i).state ≠ .active := by
    rw [State.str_setStr_self, state]
    decide
  generalize stored : s.post { kind := .stringState, string := some i, code := .string .active, value := some 0 } = p
  generalize entered : ((p.setStr i { c with state := .active }).setArb { s.arb with grantPass := true }) = u
  have enters : (s.setStr i c).enterString i .active = u := by
    rw [enterString_eq_stringEnters, stringEnters_of_ne ne]
    dsimp only
    rw [State.str_setStr_self, state, score, post_setStr, State.setStr_setStr, stored, if_pos (.inr rfl), ← score]
    exact entered
  have str : u.str i = { c with state := .active } := by
    rw [← entered]
    exact State.str_setStr_self ..
  have params : u.params = s.params := by
    rw [← entered, ← stored]
    exact State.post_params ..
  have period : u.roundPeriod = s.roundPeriod := by
    unfold State.roundPeriod
    rw [params]
  have left : (u.str i).visited = n :: rest := by
    rw [str, ← records]
    exact List.filter_eq_self.mpr fun _ _ => by simp [count]
  have begun : u.beginRound i = u.setStr i (({ u.str i with roundTimer := some u.roundPeriod, inRound := true } : StringCtl).polls n) :=
    beginRound_polls (by rw [str]; exact line) (by rw [str]; exact going) (by rw [str]; exact flight) left
      (by rw [str]; show c.nodes.find? _ = _; rw [records, List.find?_cons_of_pos (by simp)])
  rw [began, enters, begun, str, period, probing]
  generalize ({ c with state := .active, roundTimer := some s.roundPeriod, inRound := true } : StringCtl).polls n = polled
  rw [← entered, show ({ s with strings := s.strings.set i polled, arb := { s.arb with grantPass := true } } : State)
    = (s.setStr i polled).setArb { s.arb with grantPass := true } from rfl, post_setArb, post_setStr, stored,
    ← State.setStr_setStr p i { c with state := .active } polled]
  rfl

/-- The state after a restart (R139), from the record of the string with its probe on the line. -/
def State.restarted (s : State) (i : StringId) (c : StringCtl) : State :=
  ({ s with strings := s.strings.set i c, arb := { s.arb with grantPass := true } } : State).post
    { kind := .stringState, string := some i, code := .string .active, value := some 0 }

/-- A request finds the string as the restart does: its reply is formed last (R140). -/
theorem restarted_taken (s : State) (r : Instr) (i : StringId) (c : StringCtl) :
    ((s.taken r).restarted i c).str i = (s.restarted i c).str i ∧ ((s.taken r).restarted i c).arb = (s.restarted i c).arb := by
  constructor
  · rw [State.restarted, State.restarted, State.post_str, State.post_str]
    exact (State.str_setStr_self (s.taken r) i c).trans (State.str_setStr_self s i c).symm
  · rw [State.restarted, State.restarted, State.post_arb, State.post_arb, State.taken_arb]

theorem exec_restartString (on : s.power.on = true) (tag string : Byte) :
    let i := Instr.restartString tag string
    exec i s = .next (s.answered i (restartString string (s.taken i))) := congrArg Host.Outcome.next (whenOn_takeInHand on rfl _)

/-- Settles O46. -/
theorem stringTimersRunOut : Obligations.StringTimersRunOut := by
  intro s i on c period visited started closed poll probe restarted waiting
  have round : exec (.roundTimerExpiry i) s = .next (s.roundExpiry i) := next_whenOn on _
  have begins : c.roundTimer ≠ none → c.inRound = false → s.roundExpiry i = s.beginRound i := fun running ended => by
    unfold State.roundExpiry
    dsimp only
    rw [if_neg (by simpa using running), if_neg (by rw [show (s.str i).inRound = false from ended]; decide)]
  have open_ : visited ≠ [] → c.openRound s.roundPeriod = { started with cursor := none } := fun some_ => StringCtl.openRound_of_some some_ _
  have shut : visited = [] → c.openRound s.roundPeriod = closed := fun none_ => StringCtl.openRound_of_none none_ _
  refine ⟨fun stopped => ?_, fun running inRound => ?_, fun running ended waits some_ => ?_, fun n rest running ended free going still left unique => ?_,
    fun running ended still none_ => ?_, fun running ended waits none_ => ?_, fun running ended free going some_ => ?_,
    fun running ended free going none_ => ?_, ?_, ?_, fun idle => ?_, fun running waits => ?_, fun tag string => ?_⟩
  · rw [round, State.roundExpiry]
    exact congrArg Host.Outcome.next (if_pos (by simpa using stopped))
  · rw [round, State.roundExpiry]
    exact congrArg Host.Outcome.next ((if_neg (by simpa using running)).trans (if_pos inRound))
  · rw [round, begins running ended, beginRound_of_waiting waits]
    exact congrArg (fun c => Host.Outcome.next (s.setStr i c)) (open_ some_)
  · have mem : n ∈ visited := by
      simp only [visited, left]
      exact List.mem_cons_self ..
    rw [round, begins running ended, beginRound_polls free going still left (find?_addr_of_unique (List.mem_filter.mp mem).1 unique)]
    rfl
  · by_cases waits : c.exchange ≠ none ∨ c.held = true
    · rw [round, begins running ended, beginRound_of_waiting waits]
      exact congrArg (fun c => Host.Outcome.next (s.setStr i c)) (shut none_)
    · obtain ⟨free, going⟩ := not_or.mp waits
      rw [round, begins running ended, beginRound_of_free (not_not.mp free) (Bool.eq_false_iff.mpr going)]
      exact congrArg (fun c => Host.Outcome.next (s.setStr i c)) ((congrArg StringCtl.chooses (shut none_)).trans (StringCtl.chooses_idle still rfl))
  · rw [round, begins running ended, beginRound_of_waiting waits]
    exact congrArg (fun c => Host.Outcome.next (s.setStr i c)) (shut none_)
  · rw [round, begins running ended, beginRound_of_free free going]
    exact congrArg (fun c => Host.Outcome.next (s.setStr i c)) (congrArg StringCtl.chooses (open_ some_))
  · rw [round, begins running ended, beginRound_of_free free going]
    exact congrArg (fun c => Host.Outcome.next (s.setStr i c)) (congrArg StringCtl.chooses (shut none_))
  · refine (next_whenOn on _).trans (congrArg Host.Outcome.next ?_)
    rw [State.settleExpiry, complete_eq_ended s i .jammed false (by decide), ← ite_not]
    exact if_congr (by simp [c]) rfl rfl
  · refine (next_whenOn on _).trans (congrArg Host.Outcome.next ?_)
    rw [State.gapExpiry, ← ite_not]
    exact if_congr (by simp [c]) rfl rfl
  · refine (next_whenOn on _).trans (congrArg Host.Outcome.next (if_neg ?_))
    rintro ⟨running, off⟩
    rcases idle with stopped | up
    · rw [show (s.str i).recoveryTimer = none from stopped] at running
      cases running
    · exact up off
  · obtain ⟨off, some_, free, still⟩ := waits
    obtain ⟨n, rest, nodes⟩ := List.exists_cons_of_ne_nil (l := probe.nodes) (mt List.map_eq_nil_iff.mp some_)
    refine (next_whenOn on _).trans (congrArg Host.Outcome.next ((if_pos ⟨Option.isSome_iff_ne_none.mpr running, off⟩).trans ?_))
    rw [restart_eq off nodes free still]
    simp only [restarted, nodes]
    rfl
  · intro r
    have answers : exec r s = .next (s.answered r (restartString string (s.taken r))) := exec_restartString on tag string
    rw [answers, restartString]
    refine ⟨fun bad => by rw [bad]; rfl, fun named up => ?_, fun named waits => ?_⟩
    · rw [named]
      exact congrArg (fun a => Host.Outcome.next (s.answered r a)) (if_neg (by rw [State.taken_str]; exact up))
    · obtain ⟨off, some_, free, still⟩ := waits
      obtain ⟨n, rest, nodes⟩ := List.exists_cons_of_ne_nil (l := probe.nodes) (mt List.map_eq_nil_iff.mp some_)
      have str : (s.taken r).str i = s.str i := s.taken_str r i
      have period_ : (s.taken r).roundPeriod = s.roundPeriod := by
        unfold State.roundPeriod
        rw [State.taken_params]
      have eq : (s.taken r).restart i = (s.taken r).restarted i (((s.str i).probing s.roundPeriod).polls n) := by
        rw [restart_eq (s := s.taken r) (n := n) (rest := rest) (by rw [str]; exact off) (by rw [str, period_]; exact nodes)
          (by rw [str]; exact free) (by rw [str]; exact still), str, period_]
        rfl
      have same : restarted = s.restarted i (((s.str i).probing s.roundPeriod).polls n) := by
        simp only [restarted, nodes]
        rfl
      obtain ⟨sameStr, sameArb⟩ := restarted_taken s r i (((s.str i).probing s.roundPeriod).polls n)
      refine ⟨(s.taken r).restart i, ?_, ?_, ?_, (changes_restart i (by decide)).mpr ((changes_taken s r).mono (by decide))⟩
      · rw [named]
        exact congrArg (fun a => Host.Outcome.next (s.answered r a)) (if_pos (by rw [str]; exact off))
      · rw [eq, same, sameStr]
      · rw [eq, same, sameArb]

end Sys2Proof.Machine
end


section
/-! PROOF. Candidates dropped, and what an act leaves of the queue (R92, R93, R162). -/

set_option Elab.async false

namespace Sys2Proof.Machine

variable {s t r : State}

/-! ## Candidates dropped (R162) -/

theorem offers_none_iff (x : PerString (Option Offer)) : x = ⟨none, none, none, none⟩ ↔ ∀ j ∈ allStrings, x.get j = none := by
  obtain ⟨a, b, c, d⟩ := x
  simp [allStrings, PerString.get]

theorem withdrawOffer_eq_offOffer (s : State) (k : SlotId) (i : StringId) (mark : Bool) : s.withdrawOffer k i mark = s.offOffer k i mark := by
  unfold State.withdrawOffer State.offOffer
  dsimp only
  cases offered : (s.slot k).offers.get i with
  | none => rfl
  | some o =>
    have off : (s.setSlot k { s.slot k with
          offers := (s.slot k).offers.set i none, marks := if mark then insertUnit o.unit (s.slot k).marks else (s.slot k).marks })
        = if mark then (s.setSlot k { s.slot k with offers := (s.slot k).offers.set i none }).markRepeat k o.unit
          else s.setSlot k { s.slot k with offers := (s.slot k).offers.set i none } := by
      cases mark
      · rfl
      · rw [if_pos rfl, if_pos rfl, State.markRepeat, State.slot_setSlot_self, State.setSlot_setSlot]
    dsimp only
    rw [← off]
    cases k
    · rfl
    · dsimp only
      unfold State.urgencyAtDrop
      have urgency : ∀ x : SweepSlot, (s.setSlot .closing x).closingOffered = false ↔ x.offers = ⟨none, none, none, none⟩ := fun x =>
        (State.closingOffered_eq_false_iff _).trans (offers_none_iff _).symm
      by_cases last : (s.slot .closing).offers.set i none = ⟨none, none, none, none⟩
      · exact (if_neg (Bool.eq_false_iff.mp ((urgency _).mpr last))).trans (if_pos ⟨rfl, last⟩).symm
      · exact (if_pos (by simpa using mt (urgency _).mp last)).trans (if_neg fun both => last both.2).symm

theorem power_offOffer (s : State) (k : SlotId) (i : StringId) (mark : Bool) : (s.offOffer k i mark).power = s.power :=
  withdrawOffer_eq_offOffer s k i mark ▸ (show Changes [.arb, .sweeps] s (s.withdrawOffer k i mark) by simp) .power (by decide)

/-- A drop of a slot's candidate for one unit of a string is the drop of R162 there. -/
theorem drops_dropOffer (on : s.power.on = true) (k : SlotId) (i : StringId) (u : Nat) :
    s.Drops k (if ((s.slot k).offers.get i).elim false (·.unit == u) then some i else none) true (s.dropOffer k i u) := by
  unfold State.dropOffer
  by_cases offered : ((s.slot k).offers.get i).elim false (·.unit == u) = true
  · rw [if_pos offered, if_pos offered, withdrawOffer_eq_offOffer]
    exact ⟨_, exec_sweepWalk ((congrArg Power.on (power_offOffer s k i true)).trans on) k i, rfl⟩
  · rw [if_neg offered, if_neg offered]
    exact rfl

/-- The drop of a string's candidates about an act on the string, and the walks that then resume (R162). -/
theorem stringDrops_dropString (i : StringId) {act : State → State} (on : ∀ t, t.power = s.power → (act t).power.on = true) :
    s.StringDrops i act (s.dropString i act) := by
  unfold State.StringDrops State.dropString
  dsimp only
  rw [withdrawOffer_eq_offOffer, withdrawOffer_eq_offOffer]
  have power : ((s.offOffer .evacuation i true).offOffer .closing i true).power = s.power := by
    rw [power_offOffer, power_offOffer]
  have up := on _ power
  generalize act ((s.offOffer .evacuation i true).offOffer .closing i true) = t at up
  cases evac : s.offered .evacuation i <;> cases closing : s.offered .closing i
  all_goals rw [State.offered] at evac closing; simp only [List.filter, evac, closing]
  · exact rfl
  · exact ⟨_, exec_sweepWalk up _ _, rfl⟩
  · exact ⟨_, exec_sweepWalk up _ _, rfl⟩
  · exact ⟨_, exec_sweepWalk up _ _, _, exec_sweepWalk (by simpa using up) _ _, rfl⟩

/-! ## What is left of the queue -/

/-- From `s` to `t` records leave the queue only of the units `p`, demands are closed, and none of either comes. -/
structure State.Sheds (p : Nat → Prop) (s t : State) : Prop where
  filtered : ∃ q : ActRecord → Bool, t.arb.queue = s.arb.queue.filter q ∧ ∀ r, ¬p r.unit → q r = true
  demands : ∀ d ∈ t.arb.demands, d ∈ s.arb.demands

theorem State.Sheds.queue {p : Nat → Prop} (h : s.Sheds p t) : ∀ r ∈ t.arb.queue, r ∈ s.arb.queue := by
  obtain ⟨q, queue, -⟩ := h.filtered
  exact fun r mem => (List.mem_filter.mp (queue ▸ mem)).1

theorem State.Sheds.kept {p : Nat → Prop} (h : s.Sheds p t) : ∀ r ∈ s.arb.queue, ¬p r.unit → r ∈ t.arb.queue := by
  obtain ⟨q, queue, keeps⟩ := h.filtered
  exact fun r mem other => queue ▸ List.mem_filter.mpr ⟨mem, keeps r other⟩

/-- Where no unit loses a record, the queue stands. -/
theorem State.Sheds.queue_eq (h : s.Sheds (fun _ => False) t) : t.arb.queue = s.arb.queue := by
  obtain ⟨q, queue, keeps⟩ := h.filtered
  rw [queue, List.filter_eq_self]
  exact fun r _ => keeps r id

theorem State.Sheds.of_arb {p : Nat → Prop} (queue : t.arb.queue = s.arb.queue) (demands : t.arb.demands = s.arb.demands) : s.Sheds p t :=
  ⟨⟨fun _ => true, queue.trans (List.filter_eq_self.mpr fun _ _ => rfl).symm, fun _ _ => rfl⟩, fun _ mem => demands ▸ mem⟩

theorem State.Sheds.refl {p : Nat → Prop} : s.Sheds p s := .of_arb rfl rfl

theorem State.Sheds.trans {p : Nat → Prop} (h : r.Sheds p s) (h' : s.Sheds p t) : r.Sheds p t := by
  obtain ⟨q, queue, keeps⟩ := h.filtered
  obtain ⟨q', queue', keeps'⟩ := h'.filtered
  refine ⟨⟨fun x => q x && q' x, ?_, fun x other => by simp [keeps x other, keeps' x other]⟩, fun d mem => h.demands d (h'.demands d mem)⟩
  rw [queue', queue, List.filter_filter]
  exact List.filter_congr fun x _ => Bool.and_comm _ _

/-- The records of one unit are taken out. -/
theorem State.Sheds.of_unit {p : Nat → Prop} {u : Nat} (unit : p u) (queue : t.arb.queue = s.arb.queue.filter (·.unit != u))
    (demands : ∀ d ∈ t.arb.demands, d ∈ s.arb.demands) : s.Sheds p t :=
  ⟨⟨_, queue, fun _ other => bne_iff_ne.mpr fun same => other (same ▸ unit)⟩, demands⟩

theorem Changes.sheds {p : Nat → Prop} {bs : List Block} (same : Changes bs s t) (free : .arb ∉ bs) : s.Sheds p t :=
  .of_arb (congrArg Arbiter.queue (same .arb free)) (congrArg Arbiter.demands (same .arb free))

theorem sheds_foldl {α : Type} {p : Nat → Prop} {f : State → α → State} (h : ∀ (s : State) a, s.Sheds p (f s a)) (xs : List α) (s : State) :
    s.Sheds p (xs.foldl f s) := by
  induction xs generalizing s with
  | nil => exact .refl
  | cons x xs ih => exact (h s x).trans (ih _)

theorem sheds_withdrawGuest {p : Nat → Prop} {u : Nat} (unit : p u) (s : State) (why : WithdrawReason) : s.Sheds p (s.withdrawGuest u why) := by
  unfold State.withdrawGuest
  split
  · exact .refl
  · have off : s.Sheds p (s.removeRecord u) := .of_unit unit rfl fun _ => id
    exact off.trans ((show Changes [.units, .dir, .link, .notices, .counters] _ _ by simp).sheds (by decide))

theorem sheds_releaseAtOnce {p : Nat → Prop} (s : State) (k : SlotId) (u : Nat) : s.Sheds p (s.releaseAtOnce k u) :=
  (show Changes [.units, .dir, .sweeps, .link, .notices, .counters] s (s.releaseAtOnce k u) by simp).sheds (by decide)

theorem sheds_startPass {p : Nat → Prop} (h : s.Sheds p t) : s.Sheds p t.startPass := h.trans (.of_arb rfl rfl)

theorem sheds_endSweep {p : Nat → Prop} (s : State) (k : SlotId) (e : Ending) : s.Sheds p (s.endSweep k e) := by
  have ended : ∀ x d, s.Sheds p ((s.setSlot k x).post d) := fun x d =>
    (show Changes [.sweeps, .link, .notices, .counters] s ((s.setSlot k x).post d) by simp).sheds (by decide)
  cases k <;> exact (ended _ _).trans (.of_arb rfl rfl)

theorem sheds_testPass {p : Nat → Prop} (s : State) (k : SlotId) : s.Sheds p (s.testPass k) := by
  have slot : ∀ x, s.Sheds p (s.setSlot k x) := fun x => (show Changes [.sweeps] s (s.setSlot k x) by simp).sheds (by decide)
  unfold State.testPass
  dsimp only
  split
  · split
    · exact sheds_endSweep ..
    · split
      · exact (slot _).trans (sheds_endSweep ..)
      · exact slot _
  · exact .refl

theorem sheds_putOffer {p : Nat → Prop} (s : State) (k : SlotId) (i : StringId) (u : Nat) : s.Sheds p (s.putOffer k i u) := by
  have urgency : s.Sheds p s.urgencyAtOffer := by
    unfold State.urgencyAtOffer
    split
    · exact .of_arb rfl rfl
    · exact .refl
  cases k
  · exact .of_arb rfl rfl
  · exact urgency.trans (.of_arb rfl rfl)

/-- A walk takes records of units of its string alone, in a visit of an evacuation (R93, R159). -/
theorem sheds_walkOver {p : Nat → Prop} (k : SlotId) (i : StringId) (as : List Nat) (s : State)
    (units : ∀ u a, s.unitNode u = some (i, a) → p u) : s.Sheds p (walkOver k i as s) := by
  have slot : ∀ (t : State) x, t.Sheds p (t.setSlot k x) := fun t x => (show Changes [.sweeps] t (t.setSlot k x) by simp).sheds (by decide)
  induction as generalizing s with
  | nil => exact slot _ _
  | cons a rest ih =>
    unfold walkOver
    split
    · exact ih s units
    case h_2 u at_ =>
      dsimp only
      split
      case isFalse => exact ih s units
      case isTrue =>
        have unit : p u := units u a (by simpa using List.find?_some at_)
        have superseded : s.Sheds p (s.supersede k u) := by
          cases k
          · exact sheds_withdrawGuest unit s _
          · exact .refl
        have places := keeps_supersede (ls := [.places]) (s := s) Keeps.refl k u
        have still : ∀ {t : State}, Keeps [.places] s t → ∀ v b, t.unitNode v = some (i, b) → p v := fun kept v b node =>
          units v b ((kept .places (by decide) v).symm.trans node)
        split
        · exact superseded.trans (ih _ (still places))
        · exact (superseded.trans (sheds_releaseAtOnce _ k u)).trans
            (ih _ (still (keeps_releaseAtOnce places k u fun mem => absurd mem (by decide))))
        · exact (superseded.trans (slot _ _)).trans (ih _ (still (keeps_markRepeat places u fun mem => absurd mem (by decide))))
        · exact (superseded.trans (sheds_putOffer _ k i u)).trans (slot _ _)

theorem sheds_walk {p : Nat → Prop} (k : SlotId) (i : StringId) (s : State) (units : ∀ u a, s.unitNode u = some (i, a) → p u) :
    s.Sheds p (s.walk k i) := by
  unfold State.walk
  dsimp only
  split
  · exact (sheds_walkOver k i _ s units).trans (sheds_testPass _ k)
  · exact sheds_testPass _ k

end Sys2Proof.Machine
end


section
/-! PROOF. The reset of a string: O47 (R92, R149, R162). -/

set_option Elab.async false

namespace Sys2Proof.Machine

variable {s t : State}

/-! ## A record removed by the reset (R92) -/

theorem resetRecord_eq_recordReset (s : State) (r : ActRecord) : s.resetRecord r = s.recordReset r := by
  have arb : (s.withdrawIntent r.unit).arb = s.arb := State.queue_withdrawIntent s r.unit
  have off : (s.removeRecord r.unit).withdrawIntent r.unit
      = (s.withdrawn r.unit).setArb { s.arb with queue := s.arb.queue.filter (·.unit != r.unit) } := by
    rw [removeRecord_withdrawIntent, State.removeRecord, arb, withdrawIntent_eq_withdrawn]
  unfold State.resetRecord State.recordReset
  cases origin : r.origin
  case staff =>
    rw [if_pos rfl]
    cases tag : r.tag with
    | none =>
      dsimp only
      rw [off, (List.filter_eq_self (l := s.arb.demands)).mpr (by simp)]
      rfl
    | some n =>
      dsimp only
      rw [off, State.postDemandDone, State.postUnit, ← State.postUnit_eq_post]
      have node : ((((s.withdrawn r.unit).setArb { s.arb with queue := s.arb.queue.filter (·.unit != r.unit) }).dropDemand n)).unitNode r.unit
          = s.unitNode r.unit := by
        rw [← withdrawIntent_eq_withdrawn]
        exact State.unitNode_withdrawIntent s r.unit r.unit
      rw [node]
      refine congrArg (fun ds => State.post (State.setArb _ { s.arb with queue := _, demands := ds }) _) ?_
      refine List.filter_congr fun d _ => ?_
      rw [Bool.eq_iff_iff]
      simp
  all_goals
    rw [if_neg (by decide)]
    exact withdrawGuest_eq_guestWithdrawn s r.unit .stringReset

theorem sheds_recordReset {p : Nat → Prop} (s : State) (r : ActRecord) (unit : p r.unit) : s.Sheds p (s.recordReset r) := by
  unfold State.recordReset
  dsimp only
  split
  · have off : s.Sheds p ({ s.withdrawn r.unit with
        arb := { s.arb with queue := s.arb.queue.filter (·.unit != r.unit), demands := s.arb.demands.filter fun d => some d.tag != r.tag } } : State) :=
      .of_unit unit rfl fun _ mem => (List.mem_filter.mp mem).1
    split
    · exact off
    · exact off.trans ((changes_posted _ _).sheds (by decide))
  · rw [← withdrawGuest_eq_guestWithdrawn]
    exact sheds_withdrawGuest unit s _

/-- A record that is reset leaves the queue, with the demand that a staff record serves. -/
theorem recordReset_clears (s : State) (r : ActRecord) :
    (∀ q ∈ (s.recordReset r).arb.queue, q ≠ r) ∧ (r.origin = .staff → ∀ d ∈ (s.recordReset r).arb.demands, r.tag ≠ some d.tag) := by
  constructor
  · rintro q queued rfl
    have mem : q ∈ s.arb.queue := (sheds_recordReset (p := fun _ => True) s q trivial).queue q queued
    rw [← resetRecord_eq_recordReset, State.queue_resetRecord mem] at queued
    simpa using (List.mem_filter.mp queued).2
  · intro staff d open_
    have posted : ∀ (n : NoticeData) (t : State), d ∈ (t.post n).arb.demands ↔ d ∈ t.arb.demands := fun n t => by rw [State.post_arb]
    unfold State.recordReset at open_
    dsimp only at open_
    rw [if_pos staff] at open_
    have left : d ∈ s.arb.demands.filter fun d => some d.tag != r.tag := by
      split at open_
      · exact open_
      · exact (posted _ _).mp open_
    exact fun same => bne_iff_ne.mp (List.mem_filter.mp left).2 same.symm

/-- The records of a reset leave the queue, and only records of their units do. -/
theorem sheds_recordResets {p : Nat → Prop} (rs : List ActRecord) (s : State) (units : ∀ r ∈ rs, p r.unit) : s.Sheds p (rs.foldl State.recordReset s) := by
  induction rs generalizing s with
  | nil => exact .refl
  | cons r rs ih => exact (sheds_recordReset s r (units r (by simp))).trans (ih _ fun q mem => units q (by simp [mem]))

theorem recordResets_clear {r : ActRecord} {rs : List ActRecord} (mem : r ∈ rs) (s : State) :
    r ∉ (rs.foldl State.recordReset s).arb.queue
      ∧ (r.origin = .staff → ∀ d ∈ (rs.foldl State.recordReset s).arb.demands, r.tag ≠ some d.tag) := by
  induction rs generalizing s with
  | nil => cases mem
  | cons q rs ih =>
    rcases List.mem_cons.mp mem with rfl | mem
    · have rest := sheds_recordResets (p := fun _ => True) rs (s.recordReset r) fun _ _ => trivial
      obtain ⟨queue, demands⟩ := recordReset_clears s r
      exact ⟨fun queued => queue r (rest.queue r queued) rfl, fun staff d open_ => demands staff d (rest.demands d open_)⟩
    · exact ih mem _

/-! ## The string at the end of a reset (R149, steps 4 to 6) -/

theorem stringEnters_strings (s : State) (i : StringId) (st : StringState) : (s.stringEnters i st).strings = s.strings.set i { s.str i with state := st } := by
  by_cases same : (s.str i).state = st
  · have self : ({ s.str i with state := st } : StringCtl) = s.str i := by rw [← same]
    rw [self, stringEnters_of_eq same]
    exact (congrArg State.strings (s.setStr_self i)).symm
  · rw [stringEnters_of_ne same]
    dsimp only
    split
    · exact congrArg (fun p : PerString StringCtl => p.set i _) (State.post_strings s _)
    · exact congrArg (fun p : PerString StringCtl => p.set i _) (State.post_strings s _)

theorem str_stringEnters (s : State) (i : StringId) (st : StringState) : (s.stringEnters i st).str i = { s.str i with state := st } := by
  rw [State.str, stringEnters_strings]
  exact PerString.get_set_self ..

theorem changes_stringEnters (s : State) (i : StringId) (st : StringState) :
    Changes [.arb, .strings, .link, .notices, .counters] s (s.stringEnters i st) := by
  rw [← enterString_eq_stringEnters]
  simp

theorem roundPeriod_stringEnters (s : State) (i : StringId) (st : StringState) : (s.stringEnters i st).roundPeriod = s.roundPeriod := by
  unfold State.roundPeriod
  rw [changes_stringEnters s i st .params (by decide)]

theorem reenter_eq_stringReset (s : State) (i : StringId) : (s.setStr i (s.str i).cleared).reenter i = s.stringReset i := by
  unfold State.reenter State.stringReset
  dsimp only
  rw [State.str_setStr_self]
  by_cases none_ : (s.str i).nodes = []
  · rw [if_pos none_, if_pos (by rw [StringCtl.cleared, none_]; rfl), enterString_eq_stringEnters]
    rfl
  · rw [if_neg none_, if_neg (by simpa [StringCtl.cleared] using none_), enterString_eq_stringEnters, beginRound_eq_wentOn]
    · rw [roundPeriod_stringEnters]
      rfl
    · rw [str_stringEnters, State.str_setStr_self]
      simpa [StringCtl.visited, StringCtl.cleared] using none_

/-- The next exchange is chosen with no other figure of the string changed than the cursor and the line. -/
theorem StringCtl.chooses_line (c : StringCtl) :
    ∃ cursor exchange last out, c.chooses = { c with cursor := cursor, exchange := exchange, lastSettle := last, lineOut := out } := by
  have polls : ∀ n : NodeRecord, ∃ cursor exchange last out, ({ c.sends n.addr .poll false with cursor := some n.addr } : StringCtl)
      = { c with cursor := cursor, exchange := exchange, lastSettle := last, lineOut := out } := fun n => ⟨_, _, _, _, rfl⟩
  have sends : ∀ a cmd settle, ∃ cursor exchange last out, c.sends a cmd settle
      = { c with cursor := cursor, exchange := exchange, lastSettle := last, lineOut := out } := fun a cmd settle => ⟨_, _, _, _, rfl⟩
  unfold StringCtl.chooses
  dsimp only
  split
  · split <;> exact sends _ _ _
  · split
    · exact sends _ _ _
    · split
      · exact polls _
      · exact sends _ _ _
  · exact polls _
  · exact ⟨_, _, _, _, rfl⟩

/-- A string at the end of its reset (R149): what is cleared, and the frame on the line, which is stale. -/
structure StringCtl.ResetTo (c d : StringCtl) : Prop where
  inFlight : d.inFlight = c.inFlight
  score : d.score = 0
  roundCount : d.roundCount = 0
  nodes : d.nodes = c.nodes.map NodeRecord.restarted
  settle : d.settleTimer = none
  gap : d.gapTimer = none
  recovery : d.recoveryTimer = none
  held : d.held = false
  state : d.state = if c.nodes = [] then .idle else .active
  inRound : d.inRound = !c.nodes.isEmpty
  roundTimer : d.roundTimer.isSome = !c.nodes.isEmpty
  stale : ∀ x, c.exchange = some x → d.exchange = some { x with stale := true }

theorem resetTo_stringReset (s : State) (i : StringId) : (s.str i).ResetTo ((s.stringReset i).str i) := by
  rw [← reenter_eq_stringReset, State.reenter, State.str_setStr_self]
  by_cases none_ : (s.str i).nodes = []
  · have empty : (s.str i).cleared.nodes.isEmpty = true := by simp [StringCtl.cleared, none_]
    have round : ∀ b : Bool, b = false → b = !(s.str i).nodes.isEmpty := fun b off => by rw [off, none_]; rfl
    rw [if_pos empty, enterString_eq_stringEnters, str_stringEnters, State.str_setStr_self]
    exact ⟨rfl, rfl, rfl, rfl, rfl, rfl, rfl, rfl, (if_pos none_).symm, round _ rfl, round _ rfl, fun x busy => congrArg (Option.map _) busy⟩
  · have some_ : (s.str i).cleared.nodes.isEmpty = false := by simpa [StringCtl.cleared] using none_
    have round : ∀ b : Bool, b = true → b = !(s.str i).nodes.isEmpty := fun b on => by rw [on, List.isEmpty_eq_false_iff.mpr none_]; rfl
    have entered : (((s.setStr i (s.str i).cleared).enterString i .active).str i) = { (s.str i).cleared with state := .active } := by
      rw [enterString_eq_stringEnters, str_stringEnters, State.str_setStr_self]
    have visited : ({ (s.str i).cleared with state := .active } : StringCtl).visited ≠ [] := by
      simpa [StringCtl.visited, StringCtl.cleared] using none_
    rw [if_neg (by rw [some_]; decide)]
    generalize (s.setStr i (s.str i).cleared).enterString i .active = b at entered
    cases line : (s.str i).exchange with
    | some x =>
      have busy : (b.str i).exchange = some { x with stale := true } := by
        rw [entered]
        exact congrArg (Option.map _) line
      rw [beginRound_of_waiting (.inl (by rw [busy]; simp)), State.str_setStr_self, entered, StringCtl.openRound_of_some visited]
      exact ⟨rfl, rfl, rfl, rfl, rfl, rfl, rfl, rfl, (if_neg none_).symm, round _ rfl, round _ rfl, fun x busy => congrArg (Option.map _) busy⟩
    | none =>
      rw [beginRound_of_free (by rw [entered]; exact congrArg (Option.map _) line) (by rw [entered]; rfl), State.str_setStr_self, entered,
        StringCtl.openRound_of_some visited]
      obtain ⟨cursor, exchange, last, out, chosen⟩ := StringCtl.chooses_line
        { (s.str i).cleared with state := .active, roundTimer := some b.roundPeriod, cursor := none, inRound := true }
      rw [chosen]
      exact ⟨rfl, rfl, rfl, rfl, rfl, rfl, rfl, rfl, (if_neg none_).symm, round _ rfl, round _ rfl, fun x busy => by rw [line] at busy; cases busy⟩

/-! ## The completion of the reset (R146, R149) -/

theorem changes_takesOutcome (s : State) (u : Nat) (o : Completion) (limited : Bool) :
    Changes [.units, .dir, .link, .notices, .counters] s (s.takeOutcome u o limited) := by simp

theorem sheds_closeDemand {p : Nat → Prop} (s : State) (tag : Option Nat) (holder : Option BandId) (e : DemandEnd) :
    s.Sheds p (s.closeDemand tag holder e) := by
  unfold State.closeDemand
  split
  · exact .refl
  · split
    · exact .refl
    · have off : ∀ n, s.Sheds p (s.dropDemand n) := fun n => (⟨State.Sheds.refl.filtered, fun _ mem => (List.mem_filter.mp mem).1⟩ : State.Sheds p s (s.dropDemand n))
      rw [State.postDemandDone, State.postUnit_eq]
      exact (off _).trans ((changes_posted _ _).sheds (by decide))

theorem closeDemand_closes (s : State) (tag : Option Nat) (holder : Option BandId) (e : DemandEnd) :
    ∀ d ∈ (s.closeDemand tag holder e).arb.demands, tag ≠ some d.tag := by
  intro d open_
  unfold State.closeDemand at open_
  split at open_
  · exact (Option.some_ne_none _).symm
  case h_2 n =>
    split at open_
    · next absent =>
      rintro ⟨⟩
      exact absurd (List.find?_eq_none.mp absent d open_) (by simp)
    · rw [State.postDemandDone, State.postUnit_eq, State.post_arb] at open_
      have := (List.mem_filter.mp open_).2
      rintro ⟨⟩
      simp at this

theorem sheds_testQuiesced {p : Nat → Prop} (s : State) : s.Sheds p s.testQuiesced := by
  unfold State.testQuiesced State.enterQuiesced
  split
  · dsimp only
    refine State.Sheds.trans ?_ ((changes_posted _ _).sheds (by decide))
    exact .of_arb rfl rfl
  · exact .refl

theorem sheds_countSweep {p : Nat → Prop} (s : State) (slot : Option SlotId) (o : Completion) : s.Sheds p (s.countSweep slot o) := by
  cases slot with
  | none => exact .refl
  | some k => exact State.Sheds.trans (Changes.sheds (by simp : Changes [.sweeps] s (s.setSlot k _)) (by decide)) (sheds_testPass _ k)

theorem sheds_startGap {p : Nat → Prop} (s : State) (i : StringId) (cleared : Bool) : s.Sheds p (s.startGap i cleared) := by
  unfold State.startGap
  split
  · exact .of_arb rfl rfl
  · split <;> exact .of_arb rfl rfl

theorem complete_of_none {i : StringId} (still : (s.str i).inFlight = none) (o : Completion) (cleared : Bool) : s.complete i o cleared = s := by
  rw [State.complete, still]

theorem sheds_complete {p : Nat → Prop} (s : State) (i : StringId) (o : Completion) (cleared : Bool) : s.Sheds p (s.complete i o cleared) := by
  unfold State.complete
  split
  · exact .refl
  · dsimp only
    refine State.Sheds.trans ?_ (sheds_testQuiesced _)
    refine State.Sheds.trans ?_ (sheds_countSweep _ _ _)
    refine State.Sheds.trans ?_ (sheds_closeDemand _ _ _ _)
    refine State.Sheds.trans ?_ ((changes_takesOutcome _ _ _ _).sheds (by decide))
    refine State.Sheds.trans ?_ (sheds_startGap _ _ _)
    exact .of_arb rfl rfl

theorem strings_startGap (s : State) (i : StringId) (cleared : Bool) : ∃ gap held,
    (s.startGap i cleared).strings = s.strings.set i { s.str i with gapTimer := gap, held := held } ∧ (cleared = true → gap = none) := by
  unfold State.startGap
  split
  · exact ⟨_, _, rfl, fun _ => rfl⟩
  · next uncleared =>
    split
    · exact ⟨_, _, rfl, fun clear => absurd clear uncleared⟩
    · exact ⟨_, _, rfl, fun clear => absurd clear uncleared⟩

/-- A completion leaves the string free, and changes no more of the strings than its timers and the hold of its line (R146). -/
theorem strings_complete (s : State) (i : StringId) (o : Completion) (cleared : Bool) : ∃ settle gap held,
    (s.complete i o cleared).strings = s.strings.set i { s.str i with inFlight := none, settleTimer := settle, gapTimer := gap, held := held }
      ∧ ((s.str i).settleTimer = none → settle = none) ∧ (cleared = true → (s.str i).gapTimer = none → gap = none) := by
  cases flight : (s.str i).inFlight with
  | none =>
    have self : ({ s.str i with inFlight := none } : StringCtl) = s.str i := by rw [← flight]
    rw [complete_of_none flight]
    exact ⟨(s.str i).settleTimer, (s.str i).gapTimer, (s.str i).held, (self ▸ (congrArg State.strings (s.setStr_self i)).symm), id, fun _ => id⟩
  | some f =>
    have rest : ∀ (t : State) u h tag e slot,
        Changes [.units, .dir, .arb, .sweeps, .link, .notices, .counters] t
          (((t.takeOutcome u o f.limited).closeDemand tag h e).countSweep slot o).testQuiesced := fun t u h tag e slot => by simp
    unfold State.complete
    rw [flight]
    dsimp only
    rw [rest _ _ _ _ _ _ .strings (by decide)]
    obtain ⟨gap, held, strings, clear⟩ := strings_startGap
      ((s.count fun c => c.completed o f.limited).setStr i { s.str i with inFlight := none, settleTimer := none }) i cleared
    refine ⟨none, gap, held, strings.trans ?_, fun _ => rfl, fun cl _ => clear cl⟩
    rw [State.str_setStr_self]
    exact PerString.set_set ..

theorem str_complete (s : State) (i : StringId) (o : Completion) (cleared : Bool) : ∃ settle gap held,
    (s.complete i o cleared).str i = { s.str i with inFlight := none, settleTimer := settle, gapTimer := gap, held := held }
      ∧ ((s.str i).settleTimer = none → settle = none) ∧ (cleared = true → (s.str i).gapTimer = none → gap = none) := by
  obtain ⟨settle, gap, held, strings, rest⟩ := strings_complete s i o cleared
  exact ⟨settle, gap, held, by rw [State.str, strings]; exact PerString.get_set_self .., rest⟩

theorem str_complete_other {i l : StringId} (ne : l ≠ i) (s : State) (o : Completion) (cleared : Bool) : (s.complete i o cleared).str l = s.str l := by
  obtain ⟨settle, gap, held, strings, -⟩ := strings_complete s i o cleared
  rw [State.str, strings]
  exact PerString.get_set_other _ ne _

/-- A completion leaves the nodes and the line of the string as they were. -/
theorem str_complete_line (s : State) (i : StringId) (o : Completion) (cleared : Bool) :
    ((s.complete i o cleared).str i).inFlight = none ∧ ((s.complete i o cleared).str i).nodes = (s.str i).nodes
      ∧ ((s.complete i o cleared).str i).exchange = (s.str i).exchange := by
  obtain ⟨settle, gap, held, str, -⟩ := str_complete s i o cleared
  rw [str]
  exact ⟨rfl, rfl, rfl⟩

/-- A completion closes the demand of the actuation in flight. -/
theorem complete_closes {i : StringId} {f : InFlight} (flight : (s.str i).inFlight = some f) (o : Completion) (cleared : Bool) :
    ∀ d ∈ (s.complete i o cleared).arb.demands, f.tag ≠ some d.tag := by
  intro d open_
  unfold State.complete at open_
  rw [flight] at open_
  dsimp only at open_
  have rest : ∀ t : State, t.Sheds (fun _ => True) (t.countSweep f.slot o).testQuiesced := fun t =>
    (sheds_countSweep _ _ _).trans (sheds_testQuiesced _)
  exact closeDemand_closes _ _ _ _ d ((rest _).demands d open_)

/-! ## RESET_STRING -/

theorem sheds_withdrawOffer {p : Nat → Prop} (s : State) (k : SlotId) (i : StringId) (mark : Bool) : s.Sheds p (s.withdrawOffer k i mark) := by
  have slot : ∀ (t : State) x, t.Sheds p (t.setSlot k x) := fun t x => (show Changes [.sweeps] t (t.setSlot k x) by simp).sheds (by decide)
  unfold State.withdrawOffer
  split
  · exact .refl
  · dsimp only
    have marked : ∀ o : Offer, s.Sheds p (if mark then (s.setSlot k { s.slot k with offers := (s.slot k).offers.set i none }).markRepeat k o.unit
        else s.setSlot k { s.slot k with offers := (s.slot k).offers.set i none }) := fun o => by
      split
      · exact (slot _ _).trans (slot _ _)
      · exact slot _ _
    have dropped : ∀ t : State, t.Sheds p t.urgencyAtDrop := fun t => by
      unfold State.urgencyAtDrop
      split
      · exact .refl
      · exact .of_arb rfl rfl
    split
    · exact (marked _).trans (dropped _)
    · exact marked _

/-- The drop of a string's candidates takes, beyond what the act on the string takes, records of units of the string alone. -/
theorem sheds_dropString {p : Nat → Prop} (s : State) (i : StringId) {act : State → State} (acts : ∀ t : State, t.Sheds p (act t))
    (places : ∀ t : State, Keeps [.places] t (act t)) (units : ∀ u a, s.unitNode u = some (i, a) → p u) : s.Sheds p (s.dropString i act) := by
  have off : s.Sheds p (act ((s.withdrawOffer .evacuation i true).withdrawOffer .closing i true)) :=
    ((sheds_withdrawOffer _ _ _ _).trans (sheds_withdrawOffer _ _ _ _)).trans (acts _)
  have still : Keeps [.places] s (act ((s.withdrawOffer .evacuation i true).withdrawOffer .closing i true)) :=
    (keeps_withdrawOffer (keeps_withdrawOffer Keeps.refl _ _ _) _ _ _).trans (places _)
  unfold State.dropString
  dsimp only
  generalize act ((s.withdrawOffer .evacuation i true).withdrawOffer .closing i true) = t at off still
  have walk : ∀ {t : State} (k : SlotId), s.Sheds p t → Keeps [.places] s t → s.Sheds p (t.walk k i) := fun {t} k shed kept =>
    shed.trans (sheds_walk k i t fun u a node => units u a ((kept .places (by decide) u).symm.trans node))
  have evac : s.Sheds p (if s.offered .evacuation i = true then t.walk .evacuation i else t)
      ∧ Keeps [.places] s (if s.offered .evacuation i = true then t.walk .evacuation i else t) := by
    split
    · exact ⟨walk _ off still, keeps_walk still _ _⟩
    · exact ⟨off, still⟩
  split
  · exact walk _ evac.1 evac.2
  · exact evac.1

theorem exec_resetString (on : s.power.on = true) (tag string : Byte) :
    let i := Instr.resetString tag string
    exec i s = .next (s.answered i (resetString string (s.taken i))) := congrArg Host.Outcome.next (whenOn_takeInHand on rfl _)

theorem reenter_act_eq (i : StringId) : (fun s : State => (s.setStr i (s.str i).cleared).reenter i) = fun s => s.stringReset i :=
  funext fun s => reenter_eq_stringReset s i

theorem changes_stringReset (s : State) (i : StringId) : Changes [.arb, .strings, .link, .notices, .counters] s (s.stringReset i) := by
  rw [← reenter_eq_stringReset]
  simp

theorem sheds_stringEnters {p : Nat → Prop} (s : State) (i : StringId) (st : StringState) : s.Sheds p (s.stringEnters i st) := by
  by_cases same : (s.str i).state = st
  · rw [stringEnters_of_eq same]
    exact .refl
  · rw [stringEnters_of_ne same]
    dsimp only
    split
    · exact .of_arb rfl rfl
    · exact .of_arb (congrArg Arbiter.queue (State.post_arb s _)) (congrArg Arbiter.demands (State.post_arb s _))

theorem sheds_stringReset {p : Nat → Prop} (s : State) (i : StringId) : s.Sheds p (s.stringReset i) := by
  rw [← reenter_eq_stringReset]
  have cleared : s.Sheds p (s.setStr i (s.str i).cleared) := .of_arb rfl rfl
  unfold State.reenter
  split
  · rw [enterString_eq_stringEnters]
    exact cleared.trans (sheds_stringEnters _ _ _)
  · rw [enterString_eq_stringEnters]
    exact (cleared.trans (sheds_stringEnters _ _ _)).trans (Changes.sheds (bs := [.strings, .counters]) ((changes_beginRound i (by decide)).mpr Changes.refl) (by decide))

theorem str_beginRound_other {i l : StringId} (ne : l ≠ i) (s : State) : (s.beginRound i).str l = s.str l := by
  rw [State.beginRound, str_sendNext_other _ ne, State.str_setStr_other _ ne]

theorem str_stringEnters_other {i l : StringId} (ne : l ≠ i) (s : State) (st : StringState) : (s.stringEnters i st).str l = s.str l := by
  rw [State.str, stringEnters_strings]
  exact PerString.get_set_other _ ne _

theorem str_stringReset_other {i l : StringId} (ne : l ≠ i) (s : State) : (s.stringReset i).str l = s.str l := by
  rw [← reenter_eq_stringReset, State.reenter]
  split
  · rw [enterString_eq_stringEnters, str_stringEnters_other ne, State.str_setStr_other _ ne]
  · rw [str_beginRound_other ne, enterString_eq_stringEnters, str_stringEnters_other ne, State.str_setStr_other _ ne]

/-- The drop of a string's candidates leaves the strings as the act on them does. -/
theorem strings_dropString (s : State) (i : StringId) (act : State → State) :
    (s.dropString i act).strings = (act ((s.withdrawOffer .evacuation i true).withdrawOffer .closing i true)).strings := by
  have walk : ∀ (t : State) k, (t.walk k i).strings = t.strings := fun t k =>
    (show Changes [.units, .dir, .arb, .sweeps, .link, .notices, .counters] t (t.walk k i) by simp) .strings (by decide)
  unfold State.dropString
  dsimp only
  split <;> split <;> simp only [walk]

theorem str_dropString (s : State) (i : StringId) (act : State → State) (l : StringId) :
    (s.dropString i act).str l = (act ((s.withdrawOffer .evacuation i true).withdrawOffer .closing i true)).str l :=
  congrArg (PerString.get · l) (strings_dropString s i act)

theorem strings_withdrawOffer (s : State) (k : SlotId) (i : StringId) (mark : Bool) : (s.withdrawOffer k i mark).strings = s.strings :=
  (show Changes [.arb, .sweeps] s (s.withdrawOffer k i mark) by simp) .strings (by decide)

/-- The whole act of a reset, over the state with its completion made (R149). -/
def State.resetAfter (s : State) (i : StringId) (records : List ActRecord) : State :=
  (records.foldl State.recordReset s).dropString i fun s => s.stringReset i

theorem changes_recordResets (rs : List ActRecord) (s : State) :
    Changes [.units, .dir, .arb, .link, .notices, .counters] s (rs.foldl State.recordReset s) :=
  Changes.foldl (by intro t r; rw [← resetRecord_eq_recordReset]; simp) _ _

theorem strings_recordResets (rs : List ActRecord) (s : State) : (rs.foldl State.recordReset s).strings = s.strings :=
  changes_recordResets rs s .strings (by decide)

theorem str_resetAfter (s : State) (i : StringId) (rs : List ActRecord) :
    (s.str i).ResetTo ((s.resetAfter i rs).str i) ∧ ∀ l, l ≠ i → (s.resetAfter i rs).str l = s.str l := by
  have before : ∀ l, (((rs.foldl State.recordReset s).withdrawOffer .evacuation i true).withdrawOffer .closing i true).str l = s.str l := fun l => by
    rw [State.str, strings_withdrawOffer, strings_withdrawOffer, strings_recordResets, State.str]
  constructor
  · rw [State.resetAfter, str_dropString, ← before i]
    exact resetTo_stringReset _ i
  · intro l ne
    rw [State.resetAfter, str_dropString]
    exact (str_stringReset_other ne _).trans (before l)

/-- RESET_STRING once the record of its frame is taken: the completion, the records of the string's units, and the rest (R149). -/
theorem resetString_eq (s : State) (i : StringId) :
    s.resetString i = (s.complete i .uncertain true).resetAfter i (s.recordsOf i) := by
  have sheds : s.Sheds (fun _ => False) (s.complete i .uncertain true) := sheds_complete s i .uncertain true
  have places := keeps_complete (ls := [.places]) (s := s) Keeps.refl i .uncertain true
  have records : (s.complete i .uncertain true).recordsOf i = s.recordsOf i := by
    rw [State.recordsOf, State.recordsOf, sheds.queue_eq]
    exact List.filter_congr fun r _ => by rw [places .places (by decide) r.unit]
  rw [State.resetString, State.resetRecords, records, reenter_act_eq, State.resetAfter,
    show State.resetRecord = State.recordReset from funext₂ resetRecord_eq_recordReset]

theorem recordsOf_eq (s : State) (i : StringId) :
    s.recordsOf i = s.arb.queue.filter fun r => (s.unit r.unit).config.elim false (·.string == i) := by
  refine List.filter_congr fun r _ => ?_
  rw [State.unitNode]
  cases (s.unit r.unit).config <;> rfl

theorem mem_recordsOf {i : StringId} {r : ActRecord} : r ∈ s.recordsOf i ↔ r ∈ s.arb.queue ∧ ∃ a, s.unitNode r.unit = some (i, a) := by
  rw [State.recordsOf, List.mem_filter]
  refine and_congr_right fun _ => ?_
  cases node : s.unitNode r.unit with
  | none => simp
  | some at_ =>
    obtain ⟨j, a⟩ := at_
    simp [Prod.ext_iff]

/-- A reset takes records of units of its string alone. -/
theorem sheds_resetAfter {p : Nat → Prop} (s : State) (i : StringId) (rs : List ActRecord)
    (units : ∀ u a, s.unitNode u = some (i, a) → p u) : (rs.foldl State.recordReset s).Sheds p (s.resetAfter i rs) := by
  have places : Keeps [.places] s (rs.foldl State.recordReset s) := Keeps.foldl (fun t r => by
    rw [← resetRecord_eq_recordReset]
    exact keeps_resetRecord Keeps.refl r fun mem => absurd mem (by decide)) _ _
  refine sheds_dropString _ i (fun t => sheds_stringReset t i) (fun t => ?_) fun u a node => units u a ((places .places (by decide) u).symm.trans node)
  rw [← reenter_eq_stringReset]
  exact keeps_clear_reenter Keeps.refl i (by decide)

/-- Settles O47. -/
theorem resetStringClearsTheString : Obligations.ResetStringClearsTheString := by
  intro s tag string on i
  have answers : exec i s = .next (s.answered i (resetString string (s.taken i))) := exec_resetString on tag string
  refine ⟨fun bad => by rw [answers, resetString, bad]; rfl, fun j named => ?_⟩
  intro c fresh ofString records
  have node : ∀ u, (s.taken i).unitNode u = s.unitNode u := s.unitNode_taken i
  have queue : (s.taken i).arb = s.arb := s.taken_arb i
  have same : (s.taken i).recordsOf j = records := by
    rw [State.recordsOf, queue]
    exact (List.filter_congr fun r _ => by rw [node]).trans (recordsOf_eq s j)
  have mem : ∀ r, r ∈ records ↔ r ∈ s.arb.queue ∧ ofString r := fun r => by
    rw [show records = s.recordsOf j from (recordsOf_eq s j).symm]
    exact mem_recordsOf
  have place : ∀ u, ((s.taken i).complete j .uncertain true).unitNode u = s.unitNode u := fun u =>
    (keeps_complete (ls := [.places]) Keeps.refl j .uncertain true .places (by decide) u).trans (node u)
  have power : ((records.foldl State.recordReset ((s.taken i).complete j .uncertain true))).power = s.power := by
    have complete : Changes [.units, .dir, .arb, .strings, .sweeps, .link, .notices, .counters] (s.taken i) ((s.taken i).complete j .uncertain true) := by simp
    rw [changes_recordResets _ _ .power (by decide), complete .power (by decide), State.taken_power]
  generalize completed : (s.taken i).complete j .uncertain true = s1 at place power
  have acts : resetString string (s.taken i) = (s1.resetAfter j records).ok [] := by
    rw [resetString, named, ← completed, ← same, ← resetString_eq]
  obtain ⟨free, nodes, line⟩ := str_complete_line (s.taken i) j .uncertain true
  have others : ∀ l, l ≠ j → ((s.taken i).complete j .uncertain true).str l = (s.taken i).str l := fun l ne => str_complete_other ne _ _ _
  rw [completed, State.taken_str] at nodes line
  rw [completed] at free others
  obtain ⟨reset, kept⟩ := str_resetAfter s1 j records
  have before : s.Sheds (fun u => ∃ a, s.unitNode u = some (j, a)) s1 := by
    rw [← completed]
    exact State.Sheds.trans ((changes_taken s i).sheds (by decide)) (sheds_complete _ _ _ _)
  have recorded := sheds_recordResets (p := fun u => ∃ a, s.unitNode u = some (j, a)) records s1 fun r in_ => ((mem r).mp in_).2
  have after : (records.foldl State.recordReset s1).Sheds (fun u => ∃ a, s.unitNode u = some (j, a)) (s1.resetAfter j records) :=
    sheds_resetAfter s1 j records fun u a at_ => ⟨a, (place u).symm.trans at_⟩
  have closed : ∀ f, (s.str j).inFlight = some f → ∀ d ∈ s1.arb.demands, f.tag ≠ some d.tag := fun f flight => by
    rw [← completed]
    exact complete_closes (by rw [State.taken_str]; exact flight) _ _
  have exec_ : exec i s = .next (i.reply s (s1.resetAfter j records) .ok []) := by
    rw [answers, acts]
    rfl
  refine ⟨s1.resetAfter j records, exec_, ?_, reset.inFlight.trans free, reset.score, reset.roundCount,
    by rw [reset.nodes, nodes]; rfl, reset.settle, reset.gap, reset.recovery, reset.held, by rw [reset.state, nodes], by rw [reset.inRound, nodes],
    by rw [reset.roundTimer, nodes], fun x busy => reset.stale x (line.trans busy), ?_, ?_, ?_, ?_, ?_⟩
  · rw [← complete_eq_ended _ _ _ _ (by decide), completed]
    exact stringDrops_dropString j fun t up => by
      rw [changes_stringReset t j .power (by decide), up, power]
      exact on
  · intro r queued of_
    have in_ : r ∈ s.arb.queue := before.queue r (recorded.queue r (after.queue r queued))
    exact (recordResets_clear ((mem r).mpr ⟨in_, of_⟩) s1).1 (after.queue r queued)
  · intro r queued other
    have kept : ¬∃ a, s.unitNode r.unit = some (j, a) := fun of_ => other ⟨r, queued, rfl, of_⟩
    exact after.kept r (recorded.kept r (before.kept r queued kept) kept) kept
  · intro r queued of_ staff d open_
    exact (recordResets_clear ((mem r).mpr ⟨queued, of_⟩) s1).2 staff d (after.demands d open_)
  · intro f flight d open_
    exact closed f flight d (recorded.demands d (after.demands d open_))
  · exact fun l ne => (kept l ne).trans ((others l ne).trans (s.taken_str i l))

end Sys2Proof.Machine
end


section
/-! PROOF. A unit whose node cannot be reached is not put on offer (R158 to R162). -/

set_option Elab.async false

namespace Sys2Proof.Machine

variable {s t : State} {k l : SlotId} {i : StringId} {u : Nat}

theorem reachable_congr (node : t.unitNode u = s.unitNode u) (strings : t.strings = s.strings) : t.reachable u = s.reachable u := by
  unfold State.reachable State.node? State.str
  rw [node, strings]

/-- A slot has no candidate for a unit on offer for a string. -/
def State.Unoffered (s : State) (l : SlotId) (i : StringId) (u : Nat) : Prop := ∀ o, (s.slot l).offers.get i = some o → o.unit ≠ u

theorem State.Unoffered.of_slot (h : s.Unoffered l i u) (same : t.slot l = s.slot l) : t.Unoffered l i u := fun o offered => h o (same ▸ offered)

theorem State.Unoffered.of_sweeps (h : s.Unoffered l i u) (same : t.sweeps = s.sweeps) : t.Unoffered l i u := h.of_slot (State.slot_congr same l)

/-- A change of a slot's record that brings no candidate for the unit. -/
theorem unoffered_setSlot (h : s.Unoffered l i u) {x : SweepSlot} (offers : ∀ o, x.offers.get i = some o → (s.slot k).offers.get i = some o ∨ o.unit ≠ u) :
    (s.setSlot k x).Unoffered l i u := by
  intro o offered
  by_cases same : l = k
  · subst same
    rw [State.slot_setSlot_self] at offered
    exact (offers o offered).elim (h o) id
  · rw [State.slot_setSlot_other s same] at offered
    exact h o offered

theorem unoffered_endSweep (h : s.Unoffered l i u) (k : SlotId) (e : Ending) : (s.endSweep k e).Unoffered l i u := by
  have none_ : ∀ o, (⟨none, none, none, none⟩ : PerString (Option Offer)).get i = some o → (s.slot k).offers.get i = some o ∨ o.unit ≠ u := fun o off => by
    cases i <;> cases off
  have ended : ∀ x d, x.offers = ⟨none, none, none, none⟩ → ((s.setSlot k x).post d).Unoffered l i u := fun x d empty =>
    (unoffered_setSlot h (by rw [empty]; exact none_)).of_sweeps (changes_posted _ _ .sweeps (by decide))
  cases k <;> exact ended _ _ rfl

theorem unoffered_testPass (h : s.Unoffered l i u) (k : SlotId) : (s.testPass k).Unoffered l i u := by
  unfold State.testPass
  dsimp only
  split
  · split
    · exact unoffered_endSweep h k _
    · split
      · refine unoffered_endSweep ?_ k _
        exact unoffered_setSlot h fun _ offered => .inl offered
      · exact unoffered_setSlot h fun _ offered => .inl offered
  · exact h

theorem unoffered_putOffer (h : s.Unoffered l i u) (k : SlotId) {v : Nat} (other : v ≠ u) : (s.putOffer k i v).Unoffered l i u := by
  have put : ∀ {t : State} {y : Offer}, t.Unoffered l i u → y.unit = v →
      (t.setSlot k { t.slot k with offers := (t.slot k).offers.set i (some y) }).Unoffered l i u := fun {t y} h named =>
    unoffered_setSlot h fun o offered => .inr (by
      rw [PerString.get_set_self] at offered
      cases offered
      rw [named]
      exact other)
  have urgency : s.urgencyAtOffer.Unoffered l i u :=
    h.of_sweeps ((show Changes [.arb] s s.urgencyAtOffer by simp) .sweeps (by decide))
  cases k
  · exact (put h rfl).of_sweeps rfl
  · exact (put urgency rfl).of_sweeps rfl

/-- A walk puts no unit on offer that cannot be reached (R158, R160). -/
theorem unoffered_walkOver (h : s.Unoffered l i u) (lost : s.reachable u = false) (k : SlotId) (as : List Nat) :
    (walkOver k i as s).Unoffered l i u := by
  induction as generalizing s with
  | nil => exact unoffered_setSlot h fun _ => Or.inl
  | cons a rest ih =>
    unfold walkOver
    split
    · exact ih h lost
    case h_2 v _ =>
      dsimp only
      split
      case isFalse => exact ih h lost
      case isTrue =>
        have off : (s.supersede k v).Unoffered l i u := h.of_slot (State.slot_supersede s k v l)
        have places := keeps_supersede (ls := [.places]) (s := s) Keeps.refl k v
        have strings : (s.supersede k v).strings = s.strings :=
          (show Changes [.units, .dir, .arb, .link, .notices, .counters] s (s.supersede k v) by simp) .strings (by decide)
        have gone : (s.supersede k v).reachable u = false := (reachable_congr (places .places (by decide) u) strings).trans lost
        generalize s.supersede k v = t at off gone
        split
        · exact ih off gone
        · have released : (t.releaseAtOnce k v).Unoffered l i u :=
            unoffered_setSlot (off.of_slot (State.slot_release_enter t v true l)) fun _ => Or.inl
          refine ih released ((reachable_congr ?_ ?_).trans gone)
          · exact keeps_releaseAtOnce (ls := [.places]) Keeps.refl k v (fun mem => absurd mem (by decide)) .places (by decide) u
          · exact (show Changes [.units, .dir, .sweeps, .link, .notices, .counters] t (t.releaseAtOnce k v) by simp) .strings (by decide)
        · refine ih (unoffered_setSlot off fun _ => Or.inl) ((reachable_congr ?_ ?_).trans gone)
          · exact keeps_markRepeat (ls := [.places]) Keeps.refl v (fun mem => absurd mem (by decide)) .places (by decide) u
          · exact (show Changes [.sweeps] t (t.markRepeat k v) by simp) .strings (by decide)
        · next offer =>
          have other : v ≠ u := by
            rintro rfl
            have := ((State.judge_eq_offer_iff t k v).mp offer).2
            rw [gone] at this
            cases this
          exact unoffered_setSlot (unoffered_putOffer off k other) fun _ => Or.inl

theorem unoffered_walk (h : s.Unoffered l i u) (lost : s.reachable u = false) (k : SlotId) : (s.walk k i).Unoffered l i u := by
  unfold State.walk
  dsimp only
  split
  · exact unoffered_testPass (unoffered_walkOver h lost k _) k
  · exact unoffered_testPass h k

theorem reachable_walk (s : State) (k : SlotId) (i : StringId) (u : Nat) : (s.walk k i).reachable u = s.reachable u :=
  reachable_congr (keeps_walk (ls := [.places]) Keeps.refl k i .places (by decide) u)
    ((show Changes [.units, .dir, .arb, .sweeps, .link, .notices, .counters] s (s.walk k i) by simp) .strings (by decide))

/-! ## Drops -/

theorem slot_withdrawOffer_other (ne : l ≠ k) (s : State) (i : StringId) (mark : Bool) : (s.withdrawOffer k i mark).slot l = s.slot l := by
  rw [withdrawOffer_eq_offOffer]
  unfold State.offOffer
  dsimp only
  split
  · rfl
  · split
    · exact State.slot_setSlot_other s ne _
    · exact State.slot_setSlot_other s ne _

theorem offers_withdrawOffer (s : State) (k : SlotId) (i : StringId) (mark : Bool) : ((s.withdrawOffer k i mark).slot k).offers.get i = none := by
  have off : ∀ x : SweepSlot, x.offers = (s.slot k).offers.set i none → (((s.setSlot k x).slot k).offers).get i = none := fun x same => by
    rw [State.slot_setSlot_self, same]
    exact PerString.get_set_self ..
  rw [withdrawOffer_eq_offOffer]
  unfold State.offOffer
  dsimp only
  split
  · next empty => exact empty
  · split
    · exact off _ rfl
    · exact off _ rfl

theorem reachable_withdrawOffer (s : State) (k : SlotId) (i : StringId) (mark : Bool) (u : Nat) : (s.withdrawOffer k i mark).reachable u = s.reachable u :=
  reachable_congr (keeps_withdrawOffer (ls := [.places]) Keeps.refl k i mark .places (by decide) u) (strings_withdrawOffer s k i mark)

/-- A slot that drops a unit's candidate has none for it, while it cannot be reached, and the other slot gets none. -/
theorem unoffered_dropOffer (lost : s.reachable u = false) (k : SlotId) (h : l ≠ k → s.Unoffered l i u) : (s.dropOffer k i u).Unoffered l i u := by
  have off : (s.withdrawOffer k i true).Unoffered l i u := by
    by_cases same : l = k
    · subst same
      intro o offered
      rw [offers_withdrawOffer] at offered
      cases offered
    · exact (h same).of_slot (slot_withdrawOffer_other same s i true)
  unfold State.dropOffer
  by_cases offered : ((s.slot k).offers.get i).elim false (·.unit == u) = true
  · rw [if_pos offered]
    exact unoffered_walk off ((reachable_withdrawOffer s k i true u).trans lost) k
  · rw [if_neg offered]
    by_cases same : l = k
    · subst same
      intro o there unit
      rw [there] at offered
      exact offered (by simpa using unit)
    · exact h same

theorem reachable_dropOffer (s : State) (k : SlotId) (i : StringId) (v u : Nat) : (s.dropOffer k i v).reachable u = s.reachable u := by
  unfold State.dropOffer
  split
  · rw [reachable_walk, reachable_withdrawOffer]
  · rfl

/-- Once its candidates are dropped, a unit that cannot be reached is on offer no more (R162). -/
theorem unoffered_dropOffers (lost : s.reachable u = false) (l : SlotId) : (s.dropOffers i u).Unoffered l i u := by
  refine unoffered_dropOffer ((reachable_dropOffer s .evacuation i u u).trans lost) .closing fun other => ?_
  exact unoffered_dropOffer lost .evacuation fun ne => by cases l <;> simp_all

/-- Once a string's candidates are dropped, a unit that cannot be reached after the act is on offer no more (R162). -/
theorem unoffered_dropString {act : State → State}
    (act_slot : ∀ (t : State) l, (act t).slot l = t.slot l)
    (lost : (act ((s.withdrawOffer .evacuation i true).withdrawOffer .closing i true)).reachable u = false) (l : SlotId) :
    (s.dropString i act).Unoffered l i u := by
  have off : (act ((s.withdrawOffer .evacuation i true).withdrawOffer .closing i true)).Unoffered l i u := by
    refine State.Unoffered.of_slot ?_ (act_slot _ l)
    intro o offered
    cases l
    · rw [slot_withdrawOffer_other (by decide), offers_withdrawOffer] at offered
      cases offered
    · rw [offers_withdrawOffer] at offered
      cases offered
  unfold State.dropString
  dsimp only
  generalize act ((s.withdrawOffer .evacuation i true).withdrawOffer .closing i true) = t at off lost
  have evac : (if s.offered .evacuation i = true then t.walk .evacuation i else t).Unoffered l i u
      ∧ (if s.offered .evacuation i = true then t.walk .evacuation i else t).reachable u = false := by
    split
    · exact ⟨unoffered_walk off lost _, (reachable_walk ..).trans lost⟩
    · exact ⟨off, lost⟩
  split
  · exact unoffered_walk evac.1 evac.2 _
  · exact evac.1

end Sys2Proof.Machine
end


section
/-! PROOF. What an act leaves of the strings and their nodes (R125 to R137). -/

set_option Elab.async false

namespace Sys2Proof.Machine

variable {s t : State} {i : StringId} {a : Nat}

/-! ## Node records -/

theorem nodeWritten_eq_modNode (s : State) (i : StringId) (a : Nat) (f : NodeRecord → NodeRecord) : s.nodeWritten i a f = s.modNode i a f := rfl

theorem updateNode_updateNode {f g : NodeRecord → NodeRecord} (same : ∀ n, (f n).addr = n.addr) (nodes : List NodeRecord) (a : Nat) :
    updateNode (updateNode nodes a f) a g = updateNode nodes a fun n => g (f n) := by
  unfold updateNode
  rw [List.map_map]
  refine List.map_congr_left fun n _ => ?_
  by_cases here : n.addr = a
  · simp [here, same]
  · simp [here]

theorem modNode_modNode {f g : NodeRecord → NodeRecord} (same : ∀ n, (f n).addr = n.addr) (s : State) (i : StringId) (a : Nat) :
    (s.modNode i a f).modNode i a g = s.modNode i a fun n => g (f n) := by
  unfold State.modNode
  rw [State.setStr_setStr, State.str_setStr_self]
  exact congrArg (fun nodes => s.setStr i { s.str i with nodes := nodes }) (updateNode_updateNode same _ a)

theorem find?_updateNode_self {f : NodeRecord → NodeRecord} (same : ∀ n, (f n).addr = n.addr) (nodes : List NodeRecord) (a : Nat) :
    (updateNode nodes a f).find? (·.addr == a) = (nodes.find? (·.addr == a)).map f := by
  unfold updateNode
  induction nodes with
  | nil => rfl
  | cons n rest ih =>
    rw [List.map_cons]
    by_cases here : n.addr = a
    · rw [if_pos here, List.find?_cons_of_pos (by simp [same, here]), List.find?_cons_of_pos (by simp [here])]
      rfl
    · rw [if_neg here, List.find?_cons_of_neg (by simp [here]), List.find?_cons_of_neg (by simp [here]), ih]

theorem find?_updateNode_other {f : NodeRecord → NodeRecord} (same : ∀ n, (f n).addr = n.addr) (nodes : List NodeRecord) {a b : Nat} (ne : b ≠ a) :
    (updateNode nodes a f).find? (·.addr == b) = nodes.find? (·.addr == b) := by
  unfold updateNode
  induction nodes with
  | nil => rfl
  | cons n rest ih =>
    rw [List.map_cons]
    have addr : (if n.addr = a then f n else n).addr = n.addr := by
      split
      · exact same n
      · rfl
    by_cases here : n.addr = b
    · rw [List.find?_cons_of_pos (by exact beq_iff_eq.mpr (addr.trans here)), List.find?_cons_of_pos (by simp [here]), if_neg (here ▸ ne)]
    · rw [List.find?_cons_of_neg (by exact fun found => here (addr.symm.trans (beq_iff_eq.mp found))), List.find?_cons_of_neg (by simp [here]), ih]

theorem node?_modNode_self {f : NodeRecord → NodeRecord} (same : ∀ n, (f n).addr = n.addr) (s : State) (i : StringId) (a : Nat) :
    (s.modNode i a f).node? i a = (s.node? i a).map f := by
  rw [State.node?, State.modNode, State.str_setStr_self]
  exact find?_updateNode_self same _ a

theorem node?_modNode_other {f : NodeRecord → NodeRecord} (same : ∀ n, (f n).addr = n.addr) (s : State) (i : StringId) {a b : Nat} (ne : b ≠ a) :
    (s.modNode i a f).node? i b = s.node? i b := by
  rw [State.node?, State.modNode, State.str_setStr_self]
  exact find?_updateNode_other same _ ne

theorem post_modNode (s : State) (i : StringId) (a : Nat) (f : NodeRecord → NodeRecord) (d : NoticeData) :
    (s.modNode i a f).post d = (s.post d).modNode i a f := by
  rw [State.modNode, post_setStr, State.modNode, State.post_str]

theorem str_modNode_other {l : StringId} (ne : l ≠ i) (s : State) (a : Nat) (f : NodeRecord → NodeRecord) : (s.modNode i a f).str l = s.str l :=
  State.str_setStr_other _ ne _

/-! ## A string goes on -/

theorem StringCtl.settled_round (c : StringCtl) (period : Nat) : ∃ cursor inRound timer count,
    c.settled period = { c with cursor := cursor, inRound := inRound, roundTimer := timer, roundCount := count } := by
  unfold StringCtl.settled
  split
  · split
    · rw [StringCtl.openRound_eq]
      split <;> exact ⟨_, _, _, _, rfl⟩
    · exact ⟨_, _, _, _, rfl⟩
  · exact ⟨_, _, _, _, rfl⟩

/-- A string that goes on changes no more than its round and its line (R129, R130). -/
theorem str_wentOn (s : State) (i : StringId) : ∃ cursor inRound timer count exchange last out,
    (s.wentOn i).str i = { s.str i with
      cursor := cursor, inRound := inRound, roundTimer := timer, roundCount := count, exchange := exchange, lastSettle := last, lineOut := out } := by
  rw [wentOn_eq]
  split
  · exact ⟨_, _, _, _, _, _, _, rfl⟩
  · obtain ⟨cursor, inRound, timer, count, settled⟩ := (s.str i).settled_round s.roundPeriod
    dsimp only
    rw [State.str, PerString.get_set_self, settled]
    obtain ⟨cursor', exchange, last, out, chosen⟩ :=
      ({ s.str i with cursor := cursor, inRound := inRound, roundTimer := timer, roundCount := count } : StringCtl).chooses_line
    rw [chosen]
    split <;> exact ⟨_, _, _, _, _, _, _, rfl⟩

theorem str_wentOn_other {l : StringId} (ne : l ≠ i) (s : State) : (s.wentOn i).str l = s.str l := by
  rw [← sendNext_eq_wentOn, str_sendNext_other _ ne]

theorem changes_wentOn (s : State) (i : StringId) : Changes [.strings, .counters] s (s.wentOn i) := by
  rw [← sendNext_eq_wentOn]
  simp

/-- A string with nothing in flight and no round in progress sends nothing (R130). -/
theorem wentOn_of_idle (still : (s.str i).inFlight = none) (ended : (s.str i).inRound = false) : s.wentOn i = s := by
  rw [← sendNext_eq_wentOn]
  by_cases held : (s.str i).held = true
  · exact sendNext_of_held held (by rw [StringCtl.roundOver, ended]; rfl)
  · cases line : (s.str i).exchange with
    | some x => exact sendNext_of_busy (by rw [line]; rfl)
    | none =>
      rw [sendNext_of_free line (by simpa using held) (by rw [StringCtl.roundOver, ended]; rfl), StringCtl.chooses_idle still ended, s.setStr_self]

/-! ## The end of an exchange (R130) -/

theorem endExchange_of_none (free : (s.str i).exchange = none) (act : Exchange → State → State) : s.endExchange i act = s := by
  rw [State.endExchange, free]

theorem endExchange_of_some {x : Exchange} (line : (s.str i).exchange = some x) (act : Exchange → State → State) :
    s.endExchange i act =
      let bare := s.setStr i { s.str i with exchange := none }
      (if x.stale = false ∧ (s.str i).state ≠ .idle ∧ (s.str i).state ≠ .off ∧ s.node? i x.node ≠ none then act x bare else bare).wentOn i := by
  have node : (s.setStr i { s.str i with exchange := none }).node? i x.node = s.node? i x.node := by
    rw [State.node?, State.str_setStr_self]
    rfl
  have counts : (s.setStr i { s.str i with exchange := none }).counts i x = true ↔
      x.stale = false ∧ (s.str i).state ≠ .idle ∧ (s.str i).state ≠ .off ∧ s.node? i x.node ≠ none := by
    rw [State.counts, node, State.str_setStr_self, StringCtl.running]
    simp [Option.isSome_iff_ne_none, and_assoc]
  rw [State.endExchange, line]
  dsimp only
  rw [sendNext_eq_wentOn, if_congr counts rfl rfl]

end Sys2Proof.Machine
end


section
/-! PROOF. Misses, lost nodes and strings that go OFF: O48 (R131, R134, R136 to R138). -/

set_option Elab.async false

namespace Sys2Proof.Machine

variable {s t p : State} {i : StringId} {a : Nat}

/-! ## Guest records that are withdrawn (R90, R91) -/

/-- No guest record of a unit is queued. -/
def State.Guestless (s : State) (u : Nat) : Prop := ∀ r ∈ s.arb.queue, r.unit = u → r.origin = .staff

theorem State.Guestless.of_sheds {p : Nat → Prop} {u : Nat} (h : s.Guestless u) (sheds : s.Sheds p t) : t.Guestless u :=
  fun r mem => h r (sheds.queue r mem)

theorem guestless_withdrawGuest (s : State) (u : Nat) (why : WithdrawReason) : (s.withdrawGuest u why).Guestless u := by
  intro r mem same
  have queued : r ∈ s.arb.queue := (sheds_withdrawGuest (p := fun _ => True) trivial s why).queue r mem
  by_contra guest
  rw [← same, State.queue_withdrawGuest queued guest] at mem
  simpa using (List.mem_filter.mp mem).2

theorem guestless_foldl {us : List Nat} {u : Nat} (mem : u ∈ us) (s : State) (why : WithdrawReason) :
    (us.foldl (fun s u => s.withdrawGuest u why) s).Guestless u := by
  induction us generalizing s with
  | nil => cases mem
  | cons v rest ih =>
    rcases List.mem_cons.mp mem with rfl | mem
    · exact (guestless_withdrawGuest s u why).of_sheds
        (sheds_foldl (p := fun _ => True) (fun s v => sheds_withdrawGuest trivial s why) rest _)
    · exact ih mem _

/-! ## A string goes OFF (R138) -/

theorem stringOff_eq (s : State) (i : StringId) :
    s.stringOff i = ((s.setStr i { s.str i with
      score := 256, roundTimer := none, settleTimer := none, gapTimer := none, inRound := false, held := false }).enterString i .off).complete i .uncertain true := by
  rw [complete_eq_ended _ _ _ _ (by decide), enterString_eq_stringEnters]
  rfl

theorem nodesGone_eq (s : State) (i : StringId) :
    s.nodesGone i = (s.unitsOf i).foldl (fun s u => s.withdrawGuest u .stringOff)
      (s.setStr i { s.str i with nodes := (s.str i).nodes.map NodeRecord.lost }) := by
  rw [show (fun (s : State) u => s.withdrawGuest u .stringOff) = fun s u => s.guestWithdrawn u .stringOff from
    funext₂ fun s u => withdrawGuest_eq_guestWithdrawn s u .stringOff]
  rfl

theorem loseNodes_eq (s : State) (i : StringId) : s.loseNodes i = (s.nodesGone i).dropString i id := by
  have units : (s.setStr i { s.str i with nodes := (s.str i).nodes.map NodeRecord.lost }).unitsOf i = s.unitsOf i := by
    rw [State.unitsOf, State.str_setStr_self, List.filterMap_map]
    rfl
  rw [State.loseNodes, nodesGone_eq]
  dsimp only
  rw [units]

/-- The recovery timer that starts when a string goes OFF (R138). -/
def State.recovery (s : State) : Option Nat := if s.params.strings.auto then some (s.params.strings.interval * 1000) else none

/-- A string that has gone OFF, with its recovery timer (R138). -/
def State.recovering (s : State) (i : StringId) (timer : Option Nat) : State := s.setStr i { s.str i with recoveryTimer := timer }

theorem goOff_eq (s : State) (i : StringId) : s.goOff i = (((s.stringOff i).nodesGone i).dropString i id).recovering i s.recovery := by
  have params : ((s.stringOff i).loseNodes i).params = s.params := by
    rw [stringOff_eq]
    exact (show Changes [.units, .dir, .arb, .strings, .sweeps, .link, .notices, .counters] s _ by simp) .params (by decide)
  have recovery : ((s.stringOff i).loseNodes i).recovery = s.recovery := by rw [State.recovery, params, State.recovery]
  rw [← loseNodes_eq, ← recovery, stringOff_eq]
  rfl

theorem strings_nodesGone (s : State) (i : StringId) :
    (s.nodesGone i).strings = s.strings.set i { s.str i with nodes := (s.str i).nodes.map NodeRecord.lost } := by
  have same : ∀ (us : List Nat) (t : State), Changes [.units, .dir, .arb, .link, .notices, .counters] t
      (us.foldl (fun s u => s.withdrawGuest u .stringOff) t) := fun us t => Changes.foldl (by simp) us t
  rw [nodesGone_eq, same _ _ .strings (by decide)]
  rfl

theorem changes_nodesGone (s : State) (i : StringId) :
    Changes [.units, .dir, .arb, .strings, .sweeps, .link, .notices, .counters] s ((s.stringOff i).nodesGone i) := by
  rw [nodesGone_eq, stringOff_eq]
  exact Changes.trans (by simp) (Changes.foldl (by simp) _ _)

theorem str_nodesGone (s : State) (i : StringId) : (s.nodesGone i).str i = { s.str i with nodes := (s.str i).nodes.map NodeRecord.lost } :=
  (congrArg (PerString.get · i) (strings_nodesGone s i)).trans (PerString.get_set_self ..)

theorem str_nodesGone_other {l : StringId} (ne : l ≠ i) (s : State) : (s.nodesGone i).str l = s.str l :=
  (congrArg (PerString.get · l) (strings_nodesGone s i)).trans (PerString.get_set_other _ ne _)

/-- What a string is that has gone OFF (R138), before its recovery timer starts. -/
structure StringCtl.Off (c d : StringCtl) : Prop where
  state : d.state = .off
  score : d.score = 256
  inFlight : d.inFlight = none
  exchange : d.exchange = c.exchange
  inRound : d.inRound = false
  roundTimer : d.roundTimer = none
  settle : d.settleTimer = none
  gap : d.gapTimer = none
  nodes : d.nodes = c.nodes.map NodeRecord.lost

theorem off_nodesGone (s : State) (i : StringId) : (s.str i).Off (((s.stringOff i).nodesGone i).str i) := by
  obtain ⟨settle, gap, held, str, noSettle, noGap⟩ := str_complete ((s.setStr i { s.str i with
      score := 256, roundTimer := none, settleTimer := none, gapTimer := none, inRound := false, held := false }).enterString i .off) i .uncertain true
  rw [enterString_eq_stringEnters, str_stringEnters, State.str_setStr_self] at str noSettle noGap
  rw [str_nodesGone, stringOff_eq, enterString_eq_stringEnters, str]
  exact ⟨rfl, rfl, rfl, rfl, rfl, rfl, noSettle rfl, noGap rfl rfl, rfl⟩

theorem str_stringOff_other {l : StringId} (ne : l ≠ i) (s : State) : ((s.stringOff i).nodesGone i).str l = s.str l := by
  rw [str_nodesGone_other ne, stringOff_eq, str_complete_other ne, enterString_eq_stringEnters, str_stringEnters_other ne, State.str_setStr_other _ ne]

theorem str_dropString_id (s : State) (i l : StringId) : (s.dropString i id).str l = s.str l :=
  (str_dropString s i id l).trans (congrArg (PerString.get · l) ((strings_withdrawOffer _ _ _ _).trans (strings_withdrawOffer _ _ _ _)))

/-- The whole record of a string that has gone OFF is at rest: the end of the exchange sends nothing. -/
theorem goOff_still (s : State) (i : StringId) : (s.goOff i).wentOn i = s.goOff i := by
  have off := off_nodesGone s i
  have str : ((s.goOff i).str i).inFlight = none ∧ ((s.goOff i).str i).inRound = false := by
    rw [goOff_eq, State.recovering, State.str_setStr_self, str_dropString_id]
    exact ⟨off.inFlight, off.inRound⟩
  exact wentOn_of_idle str.1 str.2

/-! ## A lost node (R134, R136) -/

theorem unitAt_of_places (places : ∀ u, t.unitNode u = s.unitNode u) (i : StringId) (a : Nat) : t.unitAt i a = s.unitAt i a := by
  unfold State.unitAt
  exact congrArg (List.find? · unitNumbers) (funext fun u => by rw [places])

/-- A node becomes ABSENT at its third miss, with NODE_LOST (R134). -/
def State.lostAt (s : State) (i : StringId) (a : Nat) : State := (s.modNode i a NodeRecord.lost).post (s.nodeNotice .nodeLost i a .none)

/-- The actuation in flight on a lost node is completed (R136). -/
def State.stoppedAt (s : State) (i : StringId) (a : Nat) : State :=
  if (s.str i).inFlight.elim false (·.node == a) then (s.lostAt i a).complete i .uncertain false else s.lostAt i a

/-- The guest record of a lost node's unit is withdrawn (R91, R136). -/
def State.freedAt (s : State) (i : StringId) (a : Nat) : State :=
  match s.unitAt i a with | none => s.stoppedAt i a | some u => (s.stoppedAt i a).withdrawGuest u .nodeLost

theorem places_lostAt (s : State) (i : StringId) (a : Nat) : Keeps [.places] s (s.lostAt i a) := keeps_post (keeps_modNode Keeps.refl i a) _

theorem places_stoppedAt (s : State) (i : StringId) (a : Nat) : Keeps [.places] s (s.stoppedAt i a) := by
  unfold State.stoppedAt
  split
  · exact keeps_complete (places_lostAt s i a) _ _ _
  · exact places_lostAt s i a

theorem places_freedAt (s : State) (i : StringId) (a : Nat) : Keeps [.places] s (s.freedAt i a) := by
  unfold State.freedAt
  split
  · exact places_stoppedAt s i a
  · exact keeps_withdrawGuest (places_stoppedAt s i a) _ _

theorem changes_freedAt (s : State) (i : StringId) (a : Nat) :
    Changes [.units, .dir, .arb, .strings, .sweeps, .link, .notices, .counters] s (s.freedAt i a) := by
  unfold State.freedAt State.stoppedAt State.lostAt
  (repeat' split) <;> simp

theorem str_lostAt (s : State) (i : StringId) (a : Nat) : (s.lostAt i a).str i = { s.str i with nodes := updateNode (s.str i).nodes a NodeRecord.lost } :=
  (State.post_str _ _ i).trans (State.str_setStr_self ..)

theorem missNode_eq {n : NodeRecord} (node : s.node? i a = some n) :
    s.missNode i a =
      if n.misses < 2 then s.modNode i a fun n => { n with misses := n.misses + 1, presence := .silent }
      else match s.unitAt i a with | none => s.freedAt i a | some u => (s.freedAt i a).dropOffers i u := by
  have lost : ((s.modNode i a fun n => { n with misses := 0, presence := .absent }).post (s.nodeNotice .nodeLost i a .none)).modNode i a NodeRecord.lost
      = s.lostAt i a := by
    rw [← post_modNode, modNode_modNode (f := fun n : NodeRecord => { n with misses := 0, presence := .absent }) fun _ => rfl]
    rfl
  have unit : (s.stoppedAt i a).unitAt i a = s.unitAt i a := unitAt_of_places (places_stoppedAt s i a .places (by decide)) i a
  unfold State.missNode
  rw [node]
  dsimp only
  by_cases few : n.misses < 2
  · rw [if_pos few, if_pos (by omega)]
  · rw [if_neg few, if_neg (by omega)]
    change State.loseNode ((s.modNode i a fun n => { n with misses := 0, presence := .absent }).post (s.nodeNotice .nodeLost i a .none)) i a = _
    unfold State.loseNode
    dsimp only
    rw [lost]
    have stopped : (if ((s.lostAt i a).str i).inFlight.elim false (·.node == a) then (s.lostAt i a).complete i .uncertain false else s.lostAt i a)
        = s.stoppedAt i a := by
      rw [str_lostAt]
      rfl
    rw [stopped, unit, State.freedAt]
    cases s.unitAt i a <;> rfl

/-- The records of the string once its node is lost (R136): the node's own, and the actuation in flight on it. -/
theorem str_freedAt (s : State) (i : StringId) (a : Nat) : ∃ settle gap held, (s.freedAt i a).str i = { s.str i with
    nodes := updateNode (s.str i).nodes a NodeRecord.lost
    inFlight := if (s.str i).inFlight.elim false (·.node == a) then none else (s.str i).inFlight
    settleTimer := settle, gapTimer := gap, held := held } := by
  have guest : ∀ (t : State) u why, (t.withdrawGuest u why).str i = t.str i := fun t u why =>
    congrArg (PerString.get · i) ((show Changes [.units, .dir, .arb, .link, .notices, .counters] t (t.withdrawGuest u why) by simp) .strings (by decide))
  have freed : (s.freedAt i a).str i = (s.stoppedAt i a).str i := by
    unfold State.freedAt
    split
    · rfl
    · exact guest _ _ _
  rw [freed]
  unfold State.stoppedAt
  by_cases flight : (s.str i).inFlight.elim false (·.node == a) = true
  · obtain ⟨settle, gap, held, str, -⟩ := str_complete (s.lostAt i a) i .uncertain false
    rw [if_pos flight, if_pos flight, str, str_lostAt]
    exact ⟨_, _, _, rfl⟩
  · rw [if_neg flight, if_neg flight, str_lostAt]
    exact ⟨_, _, _, rfl⟩

theorem str_freedAt_other {l : StringId} (ne : l ≠ i) (s : State) (a : Nat) : (s.freedAt i a).str l = s.str l := by
  have guest : ∀ (t : State) u why, (t.withdrawGuest u why).str l = t.str l := fun t u why =>
    congrArg (PerString.get · l) ((show Changes [.units, .dir, .arb, .link, .notices, .counters] t (t.withdrawGuest u why) by simp) .strings (by decide))
  have lost : (s.lostAt i a).str l = s.str l := (State.post_str _ _ l).trans (str_modNode_other ne _ _ _)
  have stopped : (s.stoppedAt i a).str l = s.str l := by
    unfold State.stoppedAt
    split
    · rw [str_complete_other ne, lost]
    · exact lost
  unfold State.freedAt
  split
  · exact stopped
  · rw [guest, stopped]

theorem strings_dropOffers (s : State) (i : StringId) (u : Nat) : (s.dropOffers i u).strings = s.strings :=
  (show Changes [.units, .dir, .arb, .sweeps, .link, .notices, .counters] s (s.dropOffers i u) by simp) .strings (by decide)

/-! ## The miss of a node that is not ABSENT -/

/-- What a miss leaves of the string of its node (R134): the node's record, and the actuation in flight where the node is lost. -/
theorem str_missNode {n : NodeRecord} (node : s.node? i a = some n) : ∃ flight settle gap held,
    (s.missNode i a).str i = { s.str i with
        nodes := updateNode (s.str i).nodes a fun m =>
          if n.misses < 2 then { m with misses := m.misses + 1, presence := .silent } else m.lost
        inFlight := flight, settleTimer := settle, gapTimer := gap, held := held }
      ∧ (n.misses < 2 → flight = (s.str i).inFlight)
      ∧ (2 ≤ n.misses → flight = if (s.str i).inFlight.elim false (·.node == a) then none else (s.str i).inFlight) := by
  rw [missNode_eq node]
  by_cases few : n.misses < 2
  · simp only [if_pos few]
    exact ⟨_, _, _, _, State.str_setStr_self .., fun _ => rfl, fun many => absurd few (by omega)⟩
  · obtain ⟨settle, gap, held, str⟩ := str_freedAt s i a
    have dropped : (match s.unitAt i a with | none => s.freedAt i a | some u => (s.freedAt i a).dropOffers i u).str i = (s.freedAt i a).str i := by
      cases s.unitAt i a with
      | none => rfl
      | some u => exact congrArg (PerString.get · i) (strings_dropOffers _ i u)
    simp only [if_neg few]
    exact ⟨_, settle, gap, held, dropped.trans str, fun few' => absurd few' few, fun _ => rfl⟩

theorem str_missNode_other {n : NodeRecord} (node : s.node? i a = some n) {l : StringId} (ne : l ≠ i) : (s.missNode i a).str l = s.str l := by
  rw [missNode_eq node]
  by_cases few : n.misses < 2
  · rw [if_pos few, str_modNode_other ne]
  · rw [if_neg few]
    cases s.unitAt i a with
    | none => exact str_freedAt_other ne s a
    | some u => exact (congrArg (PerString.get · l) (strings_dropOffers _ i u)).trans (str_freedAt_other ne s a)

end Sys2Proof.Machine
end


section
/-! PROOF. Misses: O48 (R131, R134, R136 to R138). -/

set_option Elab.async false

namespace Sys2Proof.Machine

variable {s t p : State} {i : StringId} {a : Nat}

/-! ## The unit of a lost node -/

theorem sheds_dropOffers {p : Nat → Prop} (s : State) (i : StringId) (u : Nat) (all : ∀ v, p v) : s.Sheds p (s.dropOffers i u) := by
  have drop : ∀ (t : State) k, t.Sheds p (t.dropOffer k i u) := fun t k => by
    unfold State.dropOffer
    split
    · exact (sheds_withdrawOffer _ _ _ _).trans (sheds_walk k i _ fun v _ _ => all v)
    · exact .refl
  exact (drop _ _).trans (drop _ _)

theorem reachable_eq_false_of_absent {u : Nat} {n : NodeRecord} (unit : s.unitNode u = some (i, a)) (node : s.node? i a = some n)
    (absent : n.presence = .absent) : s.reachable u = false := by
  rw [Bool.eq_false_iff]
  intro reach
  obtain ⟨j, b, m, unit', node', -, live, -⟩ := (s.reachable_iff u).mp reach
  rw [unit, Option.some.injEq, Prod.mk.injEq] at unit'
  obtain ⟨rfl, rfl⟩ := unit'
  rw [node, Option.some.injEq] at node'
  exact live (node' ▸ absent)

theorem reachable_eq_false_of_off {u : Nat} (unit : s.unitNode u = some (i, a)) (off : (s.str i).state = .off) : s.reachable u = false := by
  rw [Bool.eq_false_iff]
  intro reach
  obtain ⟨j, b, m, unit', -, up, -⟩ := (s.reachable_iff u).mp reach
  rw [unit, Option.some.injEq, Prod.mk.injEq] at unit'
  obtain ⟨rfl, rfl⟩ := unit'
  exact up off

theorem unitNode_of_unitAt {u : Nat} (unit : s.unitAt i a = some u) : s.unitNode u = some (i, a) := by
  simpa using List.find?_some unit

/-- The unit of a node that is lost has no guest record queued, and is on offer no more (R91, R162). -/
theorem missNode_frees {n : NodeRecord} {u : Nat} (node : s.node? i a = some n) (third : 2 ≤ n.misses) (unit : s.unitAt i a = some u) :
    (s.missNode i a).Guestless u ∧ ∀ l, (s.missNode i a).Unoffered l i u := by
  have freed : s.freedAt i a = (s.stoppedAt i a).withdrawGuest u .nodeLost := by rw [State.freedAt, unit]
  have missed : s.missNode i a = (s.freedAt i a).dropOffers i u := by rw [missNode_eq node, if_neg (by omega), unit]
  have guestless : (s.freedAt i a).Guestless u := freed ▸ guestless_withdrawGuest _ u _
  obtain ⟨settle, gap, held, str⟩ := str_freedAt s i a
  have absent : (s.freedAt i a).node? i a = some n.lost := by
    rw [State.node?, str]
    exact (find?_updateNode_self (f := NodeRecord.lost) (fun _ => rfl) _ a).trans (congrArg (Option.map NodeRecord.lost) node)
  have lost : (s.freedAt i a).reachable u = false :=
    reachable_eq_false_of_absent ((places_freedAt s i a .places (by decide) u).trans (unitNode_of_unitAt unit)) absent rfl
  rw [missed]
  exact ⟨guestless.of_sheds (sheds_dropOffers (p := fun _ => True) _ i u fun _ => trivial), fun l => unoffered_dropOffers lost l⟩

/-! ## The score (R134, R137, R138) -/

theorem missScore_eq (s : State) (i : StringId) :
    s.missScore i =
      let score := min 256 ((s.str i).score + 8)
      if score < 256 then (s.setStr i { s.str i with score := score }).stringEnters i (stateOfScore score) else s.goOff i := by
  unfold State.missScore
  dsimp only
  rw [enterString_eq_stringEnters]
  by_cases low : min 256 ((s.str i).score + 8) < 256
  · rw [if_pos low]
    exact if_neg (fun top => absurd low (by rw [show min 256 ((s.str i).score + 8) = 256 from top]; decide))
  · rw [if_neg low]
    exact if_pos (show min 256 ((s.str i).score + 8) = 256 by omega)

/-! ## The units of a string that goes OFF (R91, R138) -/

theorem places_stringOff (s : State) (i : StringId) (u : Nat) : (s.stringOff i).unitNode u = s.unitNode u := by
  rw [stringOff_eq]
  refine (keeps_complete (ls := [.places]) Keeps.refl i _ _ .places (by decide) u).trans ?_
  have units : ((s.setStr i { s.str i with
      score := 256, roundTimer := none, settleTimer := none, gapTimer := none, inRound := false, held := false }).enterString i .off).units = s.units :=
    (show Changes [.arb, .strings, .link, .notices, .counters] s _ by simp) .units (by decide)
  rw [State.unitNode, State.unit_congr units, State.unitNode]

theorem nodes_stringOff (s : State) (i : StringId) : ((s.stringOff i).str i).nodes = (s.str i).nodes := by
  rw [stringOff_eq, (str_complete_line _ i .uncertain true).2.1, enterString_eq_stringEnters, str_stringEnters, State.str_setStr_self]

theorem places_nodesGone (s : State) (i : StringId) (u : Nat) : (s.nodesGone i).unitNode u = s.unitNode u := by
  rw [nodesGone_eq]
  exact Keeps.foldl (ls := [.places]) (fun s u => keeps_withdrawGuest Keeps.refl u .stringOff) _ _ .places (by decide) u

/-- The units of the nodes of a string that goes OFF have no guest record queued, and are on offer for it no more (R91, R138, R162). -/
theorem goOff_frees {u : Nat} (node : (s.node? i a).isSome = true) (unit : s.unitAt i a = some u) :
    (s.goOff i).Guestless u ∧ ∀ l, (s.goOff i).Unoffered l i u := by
  have mem : u ∈ (s.stringOff i).unitsOf i := by
    obtain ⟨n, found⟩ := Option.isSome_iff_exists.mp node
    rw [State.unitsOf, nodes_stringOff, List.mem_filterMap]
    refine ⟨n, List.mem_of_find?_eq_some found, ?_⟩
    rw [unitAt_of_places (places_stringOff s i), show n.addr = a by simpa using List.find?_some found]
    exact unit
  have guestless : ((s.stringOff i).nodesGone i).Guestless u := by
    rw [nodesGone_eq]
    exact guestless_foldl mem _ _
  have drops : ((s.stringOff i).nodesGone i).Sheds (fun _ => True) (((s.stringOff i).nodesGone i).dropString i id) :=
    sheds_dropString _ i (fun _ => .refl) (fun _ => Keeps.refl) fun _ _ _ => trivial
  have lost : ((((s.stringOff i).nodesGone i).withdrawOffer .evacuation i true).withdrawOffer .closing i true).reachable u = false := by
    rw [reachable_withdrawOffer, reachable_withdrawOffer]
    refine reachable_eq_false_of_off (a := a) ?_ (off_nodesGone s i).state
    exact (places_nodesGone _ i u).trans ((places_stringOff s i u).trans (unitNode_of_unitAt unit))
  rw [goOff_eq]
  exact ⟨(guestless.of_sheds drops).of_sheds (p := fun _ => True) (.of_arb rfl rfl),
    fun l => (unoffered_dropString (fun _ _ => rfl) lost l).of_sweeps rfl⟩

/-- The string after it has gone OFF (R138). -/
theorem str_goOff (s : State) (i : StringId) : ∃ d, (s.str i).Off d ∧ (s.goOff i).str i = { d with recoveryTimer := s.recovery } := by
  refine ⟨_, off_nodesGone s i, ?_⟩
  rw [goOff_eq, State.recovering, State.str_setStr_self, str_dropString_id]

theorem str_goOff_other {l : StringId} (ne : l ≠ i) (s : State) : (s.goOff i).str l = s.str l := by
  rw [goOff_eq, State.recovering, State.str_setStr_other _ ne, str_dropString_id, str_stringOff_other ne]

/-- Below 256 the string takes its score and its state, and goes on (R134, R137). -/
theorem missScore_low (low : min 256 ((s.str i).score + 8) < 256) :
    s.missScore i = (s.setStr i { s.str i with score := min 256 ((s.str i).score + 8) }).stringEnters i (stateOfScore (min 256 ((s.str i).score + 8))) := by
  rw [missScore_eq]
  exact if_pos low

theorem missScore_top (top : 256 ≤ min 256 ((s.str i).score + 8)) : s.missScore i = s.goOff i := by
  rw [missScore_eq]
  exact if_neg (not_lt.mpr top)

theorem str_missScore_low (low : min 256 ((s.str i).score + 8) < 256) : ∃ cursor inRound timer count exchange last out,
    ((s.missScore i).wentOn i).str i = { s.str i with
      score := min 256 ((s.str i).score + 8), state := stateOfScore (min 256 ((s.str i).score + 8))
      cursor := cursor, inRound := inRound, roundTimer := timer, roundCount := count, exchange := exchange, lastSettle := last, lineOut := out } := by
  obtain ⟨cursor, inRound, timer, count, exchange, last, out, str⟩ := str_wentOn (s.missScore i) i
  rw [str, missScore_low low, str_stringEnters, State.str_setStr_self]
  exact ⟨_, _, _, _, _, _, _, rfl⟩

theorem str_missScore_other {l : StringId} (ne : l ≠ i) (s : State) : ((s.missScore i).wentOn i).str l = s.str l := by
  rw [str_wentOn_other ne]
  by_cases low : min 256 ((s.str i).score + 8) < 256
  · rw [missScore_low low, str_stringEnters_other ne, State.str_setStr_other _ ne]
  · rw [missScore_top (not_lt.mp low), str_goOff_other ne]

/-- What follows the score leaves a unit without guest record and without candidate as it was (R91, R162). -/
theorem missScore_frees {u : Nat} (guestless : s.Guestless u) (off : ∀ l, s.Unoffered l i u) (node : (s.node? i a).isSome = true)
    (unit : s.unitAt i a = some u) : ((s.missScore i).wentOn i).Guestless u ∧ ∀ l, ((s.missScore i).wentOn i).Unoffered l i u := by
  have on_ : ∀ {t : State}, (t.Guestless u ∧ ∀ l, t.Unoffered l i u) → (t.wentOn i).Guestless u ∧ ∀ l, (t.wentOn i).Unoffered l i u := fun h =>
    ⟨h.1.of_sheds (p := fun _ => True) ((changes_wentOn _ i).sheds (by decide)), fun l => (h.2 l).of_sweeps (changes_wentOn _ i .sweeps (by decide))⟩
  refine on_ ?_
  by_cases low : min 256 ((s.str i).score + 8) < 256
  · rw [missScore_low low]
    refine ⟨State.Guestless.of_sheds (p := fun _ => True) ?_ (sheds_stringEnters _ i _), fun l => ?_⟩
    · exact guestless.of_sheds (p := fun _ => True) (.of_arb rfl rfl)
    · exact ((off l).of_sweeps rfl).of_sweeps (changes_stringEnters _ i _ .sweeps (by decide))
  · rw [missScore_top (not_lt.mp low)]
    exact goOff_frees node unit

/-- The drop of a slot's candidate for the unit of a node, as R162 names it. -/
theorem drops_unit {u : Nat} (on : s.power.on = true) (k : SlotId) :
    s.Drops k (if ((s.slot k).offers.get i).any fun o => some u == some o.unit then some i else none) true (s.dropOffer k i u) := by
  have same : (((s.slot k).offers.get i).any fun o => some u == some o.unit) = ((s.slot k).offers.get i).elim false (·.unit == u) := by
    cases (s.slot k).offers.get i with
    | none => rfl
    | some o =>
      rw [Option.any_some, Option.elim_some, Bool.eq_iff_iff, beq_iff_eq, beq_iff_eq, Option.some.injEq]
      exact eq_comm
  rw [same]
  exact drops_dropOffer on k i u

theorem on_dropOffer {u : Nat} (on : s.power.on = true) (k : SlotId) : (s.dropOffer k i u).power.on = true :=
  (congrArg Power.on ((show Changes [.units, .dir, .arb, .sweeps, .link, .notices, .counters] s (s.dropOffer k i u) by simp) .power (by decide))).trans on

/-! ## NODE_MISS -/

theorem exec_nodeMiss (on : s.power.on = true) (i : StringId) (bytes : List Byte) :
    exec (.nodeMiss i bytes) s = .next (s.endExchange i fun x s => s.takeMiss i x (isClash x bytes)) := next_whenOn on _

theorem exec_nodeReplyGood (on : s.power.on = true) (i : StringId) (bytes : List Byte) :
    exec (.nodeReplyGood i bytes) s = .next (s.endExchange i (takeReply i bytes)) := next_whenOn on _

/-- A miss is counted (R203), a clash on its own counter too. -/
def State.missCounted (s : State) (i : StringId) (clash : Bool) : State :=
  s.countString i fun n => { n with misses := tally n.misses, clashes := if clash then tally n.clashes else n.clashes }

theorem takeMiss_eq {x : Exchange} {n : NodeRecord} (node : s.node? i x.node = some n) (clash : Bool) :
    s.takeMiss i x clash =
      if n.presence = .absent then s.missCounted i clash else ((s.missCounted i clash).missNode i x.node).missScore i := by
  have presence : (s.missCounted i clash).presence i x.node = n.presence := by
    rw [State.presence, show (s.missCounted i clash).node? i x.node = s.node? i x.node from rfl, node]
    rfl
  exact if_congr (by rw [← presence]; exact Iff.rfl) rfl rfl

/-- Settles O48. -/
theorem missesAreCounted : Obligations.MissesAreCounted := by
  intro s i bytes on c
  have miss := exec_nodeMiss on i bytes
  have good := exec_nodeReplyGood on i bytes
  refine ⟨fun free => ⟨by rw [miss, endExchange_of_none free], by rw [good, endExchange_of_none free]⟩, fun x line => ?_⟩
  intro live clash score more k bare tallied
  have ends := fun act => endExchange_of_some line act
  have counted : (s.setStr i { s.str i with exchange := none }).missCounted i (isClash x bytes) = tallied := by
    have judged : isClash x bytes = true ↔ clash := beq_iff_eq
    have clashes : (if isClash x bytes then tally k.clashes else k.clashes) = if clash then more k.clashes else k.clashes := if_congr judged rfl rfl
    refine congrArg (fun n => ({ bare with counters := { s.counters with
      strings := s.counters.strings.set i { k with misses := more k.misses, clashes := n } } } : State)) clashes
  refine ⟨fun dead => ?_, fun bad => ?_, fun n alive node => ?_⟩
  · have off : ¬(x.stale = false ∧ (s.str i).state ≠ .idle ∧ (s.str i).state ≠ .off ∧ s.node? i x.node ≠ none) := by
      rintro ⟨fresh, idle, up, there⟩
      exact dead.elim (fun h => h ⟨fresh, idle, up⟩) there
    rw [miss, good, ends, ends]
    dsimp only
    rw [if_neg off, if_neg off]
    exact ⟨rfl, rfl⟩
  · have same : takeReply i bytes x = fun s => s.takeMiss i x (isClash x bytes) := by
      funext t
      unfold takeReply isClash
      cases judged : judgeReply x.node x.command bytes with
      | good r => exact absurd judged (bad r)
      | clash => rfl
      | miss => rfl
    rw [miss, good, ends, ends, same]
  · intro unit silent lost stopped freed on_ scored recovery offAt
    obtain ⟨fresh, idle, up⟩ := alive
    have bareNode : (s.setStr i { s.str i with exchange := none }).node? i x.node = some n := by
      rw [State.node?, State.str_setStr_self]
      exact node
    have taken := miss.trans (congrArg Host.Outcome.next ((ends fun x s => s.takeMiss i x (isClash x bytes)).trans
      (congrArg (State.wentOn · i) ((if_pos ⟨fresh, idle, up, by rw [node]; simp⟩).trans (takeMiss_eq bareNode _)))))
    rw [counted] at taken
    refine ⟨fun absent => taken.trans (by rw [if_pos absent]), fun present => ?_⟩
    rw [if_neg present] at taken
    have there : tallied.node? i x.node = some n := bareNode
    have str : tallied.str i = { s.str i with exchange := none } := State.str_setStr_self ..
    have others : ∀ j, j ≠ i → tallied.str j = s.str j := fun j ne => PerString.get_set_other s.strings ne _
    have silent_ : silent = tallied.modNode i x.node fun m => { m with misses := m.misses + 1, presence := .silent } := rfl
    have stopped_ : stopped = tallied.stoppedAt i x.node := by
      unfold State.stoppedAt
      rw [complete_eq_ended _ _ _ _ (by decide), str]
      rfl
    have freed_ : freed = match s.unitAt i x.node with | none => stopped | some u => stopped.withdrawGuest u .nodeLost := by
      rw [show freed = match s.unitAt i x.node with | none => stopped | some u => stopped.guestWithdrawn u .nodeLost from rfl]
      cases s.unitAt i x.node with
      | none => rfl
      | some u => exact (withdrawGuest_eq_guestWithdrawn _ _ _).symm
    have freed_ : freed = tallied.freedAt i x.node := by
      rw [freed_, stopped_]
      rfl
    have unitAt : tallied.unitAt i x.node = s.unitAt i x.node := rfl
    have changed : Changes [.strings, .counters] s tallied := counted ▸ by simp [State.missCounted]
    have power : tallied.power.on = true := on
    clear_value tallied
    obtain ⟨flight, settle, gap, held, missed, few, many⟩ := str_missNode there
    have scores : ((tallied.missNode i x.node).str i).score = c.score := by rw [missed, str]
    have few_eq : n.misses < 2 → tallied.missNode i x.node = silent := fun few => by rw [missNode_eq there, if_pos few, silent_]
    have lost_eq : 2 ≤ n.misses → tallied.missNode i x.node
        = match s.unitAt i x.node with | none => freed | some u => freed.dropOffers i u := fun third => by
      rw [missNode_eq there, if_neg (by omega), freed_, unitAt] <;> rfl
    have frees : 2 ≤ n.misses → ∀ u, s.unitAt i x.node = some u → ((tallied.missNode i x.node).Guestless u ∧ ∀ l, (tallied.missNode i x.node).Unoffered l i u) :=
      fun third u at_ => missNode_frees there third (unitAt.trans at_)
    have counts : ∀ u, tallied.unitNode u = s.unitNode u := fun u => by rw [State.unitNode, State.unit_congr (changed .units (by decide)), State.unitNode]
    have places : ∀ u, (tallied.missNode i x.node).unitNode u = s.unitNode u := fun u =>
      (keeps_missNode (ls := [.places]) Keeps.refl i x.node .places (by decide) u).trans (counts u)
    have moved : Changes [.units, .dir, .arb, .strings, .sweeps, .link, .notices, .counters] s (tallied.missNode i x.node) :=
      (changes_missNode i x.node (by decide)).mpr (changed.mono (by decide))
    have few_moved : n.misses < 2 → Changes [.arb, .strings, .link, .notices, .counters] s (tallied.missNode i x.node) := fun few => by
      rw [few_eq few, silent_]
      exact (changed.mono (by decide)).trans (show Changes _ tallied _ by simp)
    have params : (tallied.missNode i x.node).params = s.params := moved .params (by decide)
    have high : ∀ j, j ≠ i → (tallied.missNode i x.node).str j = s.str j := fun j ne => (str_missNode_other there ne).trans (others j ne)
    have freedPower : freed.power.on = true := by
      rw [freed_, changes_freedAt tallied i x.node .power (by decide)]
      exact power
    rw [str] at missed few many
    generalize tallied.missNode i x.node = p at taken missed few_eq lost_eq frees places params high scores moved few_moved
    have scored_ : score = min 256 ((p.str i).score + 8) := by rw [scores]
    have recovery_ : p.recovery = recovery := by rw [State.recovery, params]
    have known : ∀ a, (p.node? i a).isSome = (s.node? i a).isSome := fun a => by
      rw [State.node?, missed]
      by_cases here : a = x.node
      · subst here
        exact (congrArg Option.isSome (find?_updateNode_self (fun m => by split <;> rfl) _ _)).trans Option.isSome_map
      · exact congrArg Option.isSome (find?_updateNode_other (fun m => by split <;> rfl) _ here)
    have addrs : (p.str i).nodes.map (·.addr) = c.nodes.map (·.addr) := by
      rw [missed]
      exact StringCtl.addrs_updateNode _ _ fun m => by split <;> rfl
    have unitAt_ : ∀ a, p.unitAt i a = s.unitAt i a := unitAt_of_places places i
    generalize missed_ : (fun m : NodeRecord => if n.misses < 2 then { m with misses := m.misses + 1, presence := .silent } else m.lost) = change at missed
    have off : 256 ≤ score → (p.missScore i).wentOn i = p.goOff i := fun high => by
      rw [missScore_top (scored_ ▸ high), goOff_still]
    obtain ⟨d, gone, offStr⟩ := str_goOff p i
    let m := match s.unitAt i x.node with | none => freed | some u => freed.dropOffer .evacuation i u
    refine ⟨m, p, _, taken, few_eq, fun third => ?_, fun low => ?_, fun high => ?_, ?_, ?_, fun few_ low => ?_, fun third low => ?_, fun third u at_ => ?_,
      fun high => ?_, fun j ne => ?_⟩
    · cases at_ : s.unitAt i x.node with
      | none =>
        rw [at_] at lost_eq
        have none_ : ∀ b k, on_ b k = none := fun b k => if_neg (by simp [unit, at_])
        simp only [m, none_, lost_eq third, at_]
        exact ⟨rfl, rfl⟩
      | some u =>
        have on_eq : ∀ b k, on_ b k = if ((b.slot k).offers.get i).any fun o => some u == some o.unit then some i else none := fun b k => by
          simp only [on_, unit, at_]
        rw [at_] at lost_eq
        simp only [m, on_eq, lost_eq third, at_]
        exact ⟨drops_unit freedPower .evacuation, drops_unit (on_dropOffer freedPower _) .closing⟩
    · rw [missScore_low (by rw [← scored_]; exact low), ← scored_]
      rfl
    · refine ⟨_, stringDrops_dropString i ?_, ?_⟩
      · intro b same
        rw [id, same, changes_nodesGone p i .power (by decide), moved .power (by decide)]
        exact on
      · rw [off high, ← goOff_still, goOff_eq, recovery_]
        rfl
    · by_cases low : score < 256
      · obtain ⟨_, _, _, _, _, _, _, str⟩ := str_missScore_low (scored_ ▸ low)
        rw [str, scored_]
      · rw [off (not_lt.mp low), offStr]
        exact gone.score.trans (by omega)
    · by_cases low : score < 256
      · obtain ⟨_, _, _, _, _, _, _, str⟩ := str_missScore_low (scored_ ▸ low)
        rw [str, if_neg (by omega), scored_]
      · rw [off (not_lt.mp low), offStr, if_pos (not_lt.mp low)]
        exact gone.state
    · obtain ⟨_, _, _, _, _, _, _, str⟩ := str_missScore_low (scored_ ▸ low)
      refine ⟨?_, ?_, ?_⟩
      · rw [str, missed, ← missed_]
        simp only [if_pos few_]
        rfl
      · rw [str, missed]
        exact few few_
      · rw [missScore_low (scored_ ▸ low)]
        have scoredUp : Changes [.arb, .strings, .link, .notices, .counters] p (p.setStr i { p.str i with score := min 256 ((p.str i).score + 8) }) := by simp
        exact (((few_moved few_).trans scoredUp).trans (changes_stringEnters _ _ _)).trans ((changes_wentOn _ i).mono (by decide))
    · obtain ⟨_, _, _, _, _, _, _, str⟩ := str_missScore_low (scored_ ▸ low)
      have nodes : (((p.missScore i).wentOn i).str i).nodes = updateNode c.nodes x.node NodeRecord.lost := by
        rw [str, missed, ← missed_]
        simp only [if_neg (show ¬n.misses < 2 by omega)]
        rfl
      refine ⟨?_, fun a ne => ?_, ?_⟩
      · rw [State.node?, nodes, find?_updateNode_self (f := NodeRecord.lost) fun _ => rfl]
        exact congrArg (Option.map NodeRecord.lost) node
      · rw [State.node?, nodes, find?_updateNode_other (f := NodeRecord.lost) (fun _ => rfl) _ ne]
        rfl
      · rw [str, missed]
        exact many third
    · exact missScore_frees (frees third u at_).1 (frees third u at_).2 (a := x.node) (by rw [known, node]; rfl) ((unitAt_ _).trans at_)
    · rw [off high, offStr]
      refine ⟨gone.inFlight, ?_, gone.inRound, gone.roundTimer, gone.settle, gone.gap, recovery_, ?_, ?_, ?_⟩
      · exact gone.exchange.trans (by rw [missed])
      · rw [← addrs]
        exact (congrArg (List.map NodeRecord.addr) gone.nodes).trans (List.map_map ..)
      · intro m mem
        obtain ⟨old, -, rfl⟩ := List.mem_map.mp (gone.nodes ▸ mem : m ∈ (p.str i).nodes.map NodeRecord.lost)
        exact ⟨rfl, rfl, rfl, rfl⟩
      · intro a u there at_
        exact (goOff_frees (by rw [known]; exact there) ((unitAt_ a).trans at_)).1
    · exact (str_missScore_other ne p).trans (high j ne)

end Sys2Proof.Machine
end


section
/-! PROOF. A good reply, step by step (R133). -/

set_option Elab.async false

namespace Sys2Proof.Machine

variable {s t : State} {i : StringId} {a : Nat} {n : NodeRecord} {r : NodeReply}

/-! ## Notices and the grant pass of a step -/

/-- Notices are posted in order, and a grant pass is started where one is due. -/
def State.noted (s : State) (ds : List NoticeData) (pass : Bool) : State :=
  if pass then (ds.foldl State.post s).startPass else ds.foldl State.post s

theorem foldl_post_startPass (s : State) (ds : List NoticeData) : ds.foldl State.post s.startPass = (ds.foldl State.post s).startPass := by
  induction ds generalizing s with
  | nil => rfl
  | cons d rest ih =>
    have posted : s.startPass.post d = (s.post d).startPass := by
      rw [State.startPass, post_setArb, State.startPass, State.post_arb]
    rw [List.foldl_cons, List.foldl_cons, posted, ih]

theorem foldl_post_modNode (s : State) (ds : List NoticeData) (i : StringId) (a : Nat) (f : NodeRecord → NodeRecord) :
    ds.foldl State.post (s.modNode i a f) = (ds.foldl State.post s).modNode i a f := by
  induction ds generalizing s with
  | nil => rfl
  | cons d rest ih => rw [List.foldl_cons, List.foldl_cons, post_modNode, ih]

theorem noted_modNode (s : State) (ds : List NoticeData) (pass : Bool) (i : StringId) (a : Nat) (f : NodeRecord → NodeRecord) :
    (s.modNode i a f).noted ds pass = (s.noted ds pass).modNode i a f := by
  unfold State.noted
  rw [foldl_post_modNode]
  cases pass <;> rfl

theorem noted_noted (s : State) (ds es : List NoticeData) (p q : Bool) : (s.noted ds p).noted es q = s.noted (ds ++ es) (p || q) := by
  unfold State.noted
  rw [List.foldl_append]
  cases p
  · rfl
  · rw [Bool.true_or, if_pos rfl, if_pos rfl, foldl_post_startPass]
    cases q <;> rfl

/-! ## The first three steps -/

theorem str_noted (s : State) (ds : List NoticeData) (pass : Bool) (j : StringId) : (s.noted ds pass).str j = s.str j := by
  have posted : ∀ (t : State), (ds.foldl State.post t).str j = t.str j := fun t => by
    induction ds generalizing t with
    | nil => rfl
    | cons d rest ih => rw [List.foldl_cons, ih, State.post_str]
  unfold State.noted
  split
  · exact posted s
  · exact posted s

theorem node?_noted (s : State) (ds : List NoticeData) (pass : Bool) (i : StringId) (a : Nat) : (s.noted ds pass).node? i a = s.node? i a := by
  rw [State.node?, str_noted, State.node?]

theorem changes_noted (s : State) (ds : List NoticeData) (pass : Bool) : Changes [.arb, .link, .notices, .counters] s (s.noted ds pass) := by
  have posted : Changes [.arb, .link, .notices, .counters] s (ds.foldl State.post s) := Changes.foldl (by simp) ds s
  unfold State.noted
  split
  · exact posted.trans (by simp)
  · exact posted

theorem nodeNotice_congr (units : t.units = s.units) (kind : NoticeKind) (i : StringId) (a : Nat) (code : NoticeCode) :
    t.nodeNotice kind i a code = s.nodeNotice kind i a code := by
  have places : ∀ u, t.unitNode u = s.unitNode u := fun u => by rw [State.unitNode, State.unit_congr units, State.unitNode]
  rw [State.nodeNotice, State.nodeNotice, unitAt_of_places places]

/-- A node's record once its reply is seen (R133, step 2): where it was PRESENT, the presence stands. -/
def NodeRecord.found (n m : NodeRecord) : NodeRecord :=
  { m with
    misses := 0, presence := if n.presence = .present then m.presence else .present
    lastSeq := if n.presence = .absent then none else m.lastSeq }

/-- A node's record once its reader fault is seen (R135). -/
def NodeRecord.readerSeen (n : NodeRecord) (fault : Bool) (m : NodeRecord) : NodeRecord :=
  { m with readerMark := fault, readerLatch := m.readerLatch || (fault && !n.readerMark) }

/-- A node's record once its actuator fault is seen (R135). -/
def NodeRecord.actuatorSeen (n : NodeRecord) (fault : Bool) (m : NodeRecord) : NodeRecord :=
  { m with actuatorMark := fault, actuatorLatch := m.actuatorLatch || (fault && !n.actuatorMark) }

theorem replyPresence_eq (node : s.node? i a = some n) :
    s.replyPresence i a =
      (s.modNode i a n.found).noted
        (if n.presence = .absent then [s.nodeNotice .nodeFound i a .none] else []) (n.presence != .present) := by
  have presence : s.presence i a = n.presence := by rw [State.presence, node]; rfl
  unfold State.replyPresence
  rw [presence, show n.found = fun m : NodeRecord => { m with
    misses := 0, presence := if n.presence = .present then m.presence else .present
    lastSeq := if n.presence = .absent then none else m.lastSeq } from rfl]
  cases n.presence <;> rfl

theorem replyReader_eq (node : s.node? i a = some n) (fault : Bool) :
    s.replyReader i a fault =
      (s.modNode i a (n.readerSeen fault)).noted
        (if fault && !n.readerMark then [s.nodeNotice .nodeFault i a (.fault .reader)] else []) false := by
  unfold State.replyReader NodeRecord.readerSeen
  rw [node]
  dsimp only [Option.elim_some]
  cases fault <;> cases n.readerMark <;> rfl

/-- The actuator fault mark, up to the drop of candidates (R135). -/
def State.actuatorMarked (s : State) (i : StringId) (a : Nat) (n : NodeRecord) (fault : Bool) : State :=
  (s.modNode i a (n.actuatorSeen fault)).noted
    (if fault && !n.actuatorMark then [s.nodeNotice .nodeFault i a (.fault .actuator)] else []) (!fault && n.actuatorMark)

theorem unitAt_congr (units : t.units = s.units) (i : StringId) (a : Nat) : t.unitAt i a = s.unitAt i a :=
  unitAt_of_places (fun u => by rw [State.unitNode, State.unit_congr units, State.unitNode]) i a

/-- The candidates of a node's unit are dropped where a new actuator fault drops them (R135, R162). -/
def State.faultDropped (s : State) (i : StringId) (a : Nat) (fault : Bool) : State :=
  if fault then match s.unitAt i a with | none => s | some u => s.dropOffers i u else s

theorem units_actuatorMarked (s : State) (i : StringId) (a : Nat) (n : NodeRecord) (fault : Bool) : (s.actuatorMarked i a n fault).units = s.units := by
  rw [State.actuatorMarked, changes_noted _ _ _ .units (by decide)]
  rfl

theorem replyActuator_eq (node : s.node? i a = some n) (fault : Bool) :
    s.replyActuator i a fault = (s.actuatorMarked i a n fault).faultDropped i a (fault && !n.actuatorMark) := by
  have unit : ∀ (d : NoticeData) f, ((s.modNode i a f).post d).unitAt i a = s.unitAt i a := fun d f =>
    unitAt_congr (changes_posted _ d .units (by decide)) i a
  rw [State.faultDropped, unitAt_congr (units_actuatorMarked s i a n fault)]
  unfold State.replyActuator State.actuatorMarked NodeRecord.actuatorSeen
  rw [node]
  dsimp only [Option.elim_some]
  cases fault
  · cases n.actuatorMark <;> rfl
  · cases n.actuatorMark
    · rw [if_pos ⟨rfl, rfl⟩, State.postFault]
      rw [unit]
      cases s.unitAt i a <;> rfl
    · rfl

/-! ## The marks of a reply together -/

/-- A node's record once a good reply has been seen (R133, steps 2 and 3), with its presence. -/
def NodeRecord.answered (n : NodeRecord) (r : NodeReply) (presence : Presence) (m : NodeRecord) : NodeRecord :=
  { m with
    presence := presence, misses := 0, lastSeq := if n.presence = .absent then none else m.lastSeq
    readerMark := r.readerFault, readerLatch := m.readerLatch || (r.readerFault && !n.readerMark)
    actuatorMark := r.actuatorFault, actuatorLatch := m.actuatorLatch || (r.actuatorFault && !n.actuatorMark) }

/-- The notices of a good reply (R133, R135), in their order. -/
def State.replyNotices (s : State) (i : StringId) (a : Nat) (n : NodeRecord) (r : NodeReply) : List NoticeData :=
  (if n.presence = .absent then [s.nodeNotice .nodeFound i a .none] else [])
    ++ (if r.readerFault && !n.readerMark then [s.nodeNotice .nodeFault i a (.fault .reader)] else [])
    ++ (if r.actuatorFault && !n.actuatorMark then [s.nodeNotice .nodeFault i a (.fault .actuator)] else [])

/-- Whether a good reply starts a grant pass (R99, R135). -/
def NodeRecord.startsPass (n : NodeRecord) (r : NodeReply) : Bool := n.presence != .present || (!r.actuatorFault && n.actuatorMark)

/-- The marks of a good reply, with what is posted: where the node was PRESENT, each of its records has its presence as it was. -/
def State.marked (s : State) (i : StringId) (a : Nat) (n : NodeRecord) (r : NodeReply) : State :=
  (s.modNode i a fun m => n.answered r (if n.presence = .present then m.presence else .present) m).noted
    (s.replyNotices i a n r) (n.startsPass r)

theorem marks_eq (node : s.node? i a = some n) (r : NodeReply) :
    ((s.replyPresence i a).replyReader i a r.readerFault).replyActuator i a r.actuatorFault =
      (s.marked i a n r).faultDropped i a (r.actuatorFault && !n.actuatorMark) := by
  have present := replyPresence_eq node
  have node1 : (s.replyPresence i a).node? i a = some (n.found n) := by
    rw [present, node?_noted, node?_modNode_self (f := n.found) (fun _ => rfl), node]
    rfl
  have units1 : (s.replyPresence i a).units = s.units := by
    rw [present, changes_noted _ _ _ .units (by decide)]
    rfl
  have reader := replyReader_eq node1 r.readerFault
  have node2 : ((s.replyPresence i a).replyReader i a r.readerFault).node? i a = some ((n.found n).readerSeen r.readerFault (n.found n)) := by
    rw [reader, node?_noted, node?_modNode_self (f := (n.found n).readerSeen r.readerFault) (fun _ => rfl), node1]
    rfl
  have units2 : ((s.replyPresence i a).replyReader i a r.readerFault).units = s.units := by
    rw [reader, changes_noted _ _ _ .units (by decide)]
    exact units1
  have all : ((s.replyPresence i a).replyReader i a r.readerFault).actuatorMarked i a ((n.found n).readerSeen r.readerFault (n.found n)) r.actuatorFault
      = s.marked i a n r := by
    unfold State.actuatorMarked
    rw [nodeNotice_congr units2, reader, ← noted_modNode, modNode_modNode (f := (n.found n).readerSeen r.readerFault) (fun _ => rfl), noted_noted,
      nodeNotice_congr units1, present, ← noted_modNode, modNode_modNode (f := n.found) (fun _ => rfl), noted_noted, ← List.append_assoc]
    exact congrArg (State.noted _ _) (by rw [Bool.false_or]; rfl)
  exact (replyActuator_eq node2 _).trans (congrArg (State.faultDropped · i a _) all)

/-! ## The steps after the marks -/

theorem modNode_self (s : State) (i : StringId) (a : Nat) : (s.modNode i a fun n => n) = s := by
  have nodes : updateNode (s.str i).nodes a (fun n => n) = (s.str i).nodes := by
    unfold updateNode
    simp
  rw [State.modNode, nodes]
  exact s.setStr_self i

theorem replyIndicator_eq (s : State) (i : StringId) (x : Exchange) :
    s.replyIndicator i x.node x = s.nodeWritten i x.node fun n => { n with pending := if x.replaced then n.pending else .dark } := by
  unfold State.replyIndicator
  cases x.replaced
  · rfl
  · exact (modNode_self s i x.node).symm

/-- An actuation whose bolt has come is completed DONE (R142, R143), and otherwise it is as `t` has it. -/
theorem answer_of_bolt {reached : Prop} [Decidable reached] {s t y : State} {i : StringId} (done : reached → y = s.ended i .done false)
    (other : ¬reached → y = t) : (if reached then s.complete i .done false else t) = y := by
  by_cases there : reached
  · rw [if_pos there, done there]
    exact complete_eq_ended s i .done false (by decide)
  · rw [if_neg there, other there]

theorem replyActuation_eq (s : State) (i : StringId) (a : Nat) (r : NodeReply) : s.replyActuation i a r = s.actuationAnswered i a r := by
  unfold State.replyActuation State.actuationAnswered StringCtl.outcomeOf
  dsimp only
  cases flight : (s.str i).inFlight with
  | none => rfl
  | some f =>
    obtain ⟨u, node, direction, origin, semantics, band, tag, phase, limited, slot⟩ := f
    dsimp only
    by_cases here : node = a
    · rw [if_neg (not_not.mpr here), if_neg (not_not.mpr here), Option.elim_some, beq_iff_eq.mpr here]
      cases phase with
      | commanding =>
        cases r.verdict with
        | none => rfl
        | some v =>
          cases v with
          | accept => cases direction with
            | lock => exact answer_of_bolt (reached := r.bolt = .locked) (fun done => by simp only [if_pos done]) fun other => by simp only [if_neg other]; rfl
            | unlock => exact answer_of_bolt (reached := r.bolt = .unlocked) (fun done => by simp only [if_pos done]) fun other => by simp only [if_neg other]; rfl
          | refuse => exact complete_eq_ended s i .refusedByNode false (by decide)
      | settling => cases direction with
        | lock => exact answer_of_bolt (reached := r.bolt = .locked) (fun done => by simp only [if_pos done]) fun other => by simp only [if_neg other]; rfl
        | unlock => exact answer_of_bolt (reached := r.bolt = .unlocked) (fun done => by simp only [if_pos done]) fun other => by simp only [if_neg other]; rfl
    · rw [if_pos here, if_pos here, Option.elim_some, beq_eq_false_iff_ne.mpr here]
      rfl

/-- The state of a good reply once its positions are taken (R133, step 6), before its node report. -/
def State.placed (s : State) (i : StringId) (x : Exchange) (r : NodeReply) : State :=
  ((s.nodeWritten i x.node fun n => { n with pending := if x.replaced then n.pending else .dark }).actuationAnswered i x.node r).nodeWritten i x.node
    fun n => { n with door := some r.door, bolt := some r.bolt, inside := some r.inside }

theorem places_placed (s : State) (i : StringId) (x : Exchange) (r : NodeReply) (u : Nat) : (s.placed i x r).unitNode u = s.unitNode u := by
  unfold State.placed
  rw [← replyActuation_eq]
  refine (?_ : Keeps [.places] s _) .places (by decide) u
  exact keeps_modNode (keeps_replyActuation (keeps_modNode Keeps.refl i x.node) i x.node r) i x.node

/-- A presentation is acknowledged and handed on, or counted as a repeat (R57). -/
def State.presentationTaken (t : State) (i : StringId) (a u : Nat) (p : Option (Nat × BandId)) : State :=
  match p, t.node? i a with
  | some (seq, band), some n =>
    if n.lastSeq = some seq then { t with counters := { t.counters with repeats := min 4294967295 (t.counters.repeats + 1) } }
    else if (t.decisions.any fun d => d.str == i && d.node == a) = true then t
    else
      let seen := t.nodeWritten i a fun n => { n with lastSeq := some seq }
      { seen with decisions := t.decisions ++
          [{ str := i, node := a, unit := u, band := band, seq := seq, stage := .lookup, staff := false, admitted := false }] }
  | _, _ => t

theorem replyPresentation_eq {u : Nat} (unit : t.unitAt i a = some u) (p : Option (Nat × BandId)) :
    t.replyPresentation i a p = t.presentationTaken i a u p := by
  unfold State.replyPresentation State.presentationTaken
  rw [unit]
  cases p with
  | none => rfl
  | some p =>
    obtain ⟨seq, band⟩ := p
    cases t.node? i a with
    | none => rfl
    | some n => rfl

theorem replyPresentation_of_none (none_ : t.unitAt i a = none) (p : Option (Nat × BandId)) : t.replyPresentation i a p = t := by
  unfold State.replyPresentation
  rw [none_]
  cases p with
  | none => rfl
  | some p => cases t.node? i a <;> rfl

theorem replyTaken_of_some {x : Exchange} {u : Nat} (unit : s.unitAt i x.node = some u) (r : NodeReply) :
    s.replyTaken i x r = ((s.placed i x r).reportTaken u r.door r.bolt r.inside).presentationTaken i x.node u r.presentation := by
  unfold State.replyTaken
  dsimp only
  rw [unit]
  rfl

theorem replyTaken_of_none {x : Exchange} (none_ : s.unitAt i x.node = none) (r : NodeReply) : s.replyTaken i x r = s.placed i x r := by
  unfold State.replyTaken
  dsimp only
  rw [none_]
  rfl

/-- A good reply from the indicator code on is that of R133. -/
theorem reply_rest_eq (s : State) (i : StringId) (x : Exchange) (r : NodeReply) :
    ((((s.replyIndicator i x.node x).replyActuation i x.node r).replyReport i x.node r).replyPresentation i x.node r.presentation)
      = s.replyTaken i x r := by
  have unit : (s.placed i x r).unitAt i x.node = s.unitAt i x.node := unitAt_of_places (places_placed s i x r) i x.node
  have report : (((s.replyIndicator i x.node x).replyActuation i x.node r).replyReport i x.node r) =
      match s.unitAt i x.node with | none => s.placed i x r | some u => (s.placed i x r).reportTaken u r.door r.bolt r.inside := by
    rw [replyIndicator_eq, replyActuation_eq, State.replyReport]
    change (match (s.placed i x r).unitAt i x.node with
      | none => s.placed i x r | some u => (s.placed i x r).nodeReport u r.door r.bolt r.inside) = _
    rw [unit]
    cases s.unitAt i x.node with
    | none => rfl
    | some u => exact nodeReport_eq_reportTaken _ _ _ _ _
  have unit' : (((s.replyIndicator i x.node x).replyActuation i x.node r).replyReport i x.node r).unitAt i x.node = s.unitAt i x.node :=
    unitAt_of_places (fun u => keeps_replyReport (ls := [.places]) (keeps_replyActuation (keeps_replyIndicator Keeps.refl i x.node x) i x.node r) i x.node r
      .places (by decide) u) i x.node
  cases at_ : s.unitAt i x.node with
  | none => rw [replyPresentation_of_none (unit'.trans at_), report, at_, replyTaken_of_none at_]
  | some u => rw [replyPresentation_eq (unit'.trans at_), report, at_, replyTaken_of_some at_]

end Sys2Proof.Machine
end


section
/-! PROOF. What the shared operations leave of the counters of repeats and of the strings (R203). -/

set_option Elab.async false

namespace Sys2Proof.Machine

/-- The counters of repeats and of the strings. -/
def State.tallies (s : State) : Nat × PerString StringCounters := (s.counters.repeats, s.counters.strings)

@[simp] theorem tallies_post (s : State) (d : NoticeData) : (s.post d).tallies = s.tallies := by
  unfold State.post
  (repeat' split) <;> rfl

@[simp] theorem tallies_postUnit (s : State) (k : NoticeKind) (u : Nat) (b : Option BandId) (c : NoticeCode) (v : Option Nat) :
    (s.postUnit k u b c v).tallies = s.tallies := tallies_post ..

@[simp] theorem tallies_setUnit (s : State) (u : Nat) (r : UnitRecord) : (s.setUnit u r).tallies = s.tallies :=
  congrArg (fun c : Counters => (c.repeats, c.strings)) ((show Changes [.units] s (s.setUnit u r) by simp) .counters (by decide))

@[simp] theorem tallies_modUnit (s : State) (u : Nat) (f : UnitRecord → UnitRecord) : (s.modUnit u f).tallies = s.tallies := tallies_setUnit ..

@[simp] theorem tallies_setArb (s : State) (a : Arbiter) : (s.setArb a).tallies = s.tallies := rfl

@[simp] theorem tallies_setSlot (s : State) (k : SlotId) (x : SweepSlot) : (s.setSlot k x).tallies = s.tallies := by cases k <;> rfl

@[simp] theorem tallies_setStr (s : State) (i : StringId) (c : StringCtl) : (s.setStr i c).tallies = s.tallies := rfl

@[simp] theorem tallies_modNode (s : State) (i : StringId) (a : Nat) (f : NodeRecord → NodeRecord) : (s.modNode i a f).tallies = s.tallies := rfl

@[simp] theorem tallies_removeHolder (s : State) (u : Nat) : (s.removeHolder u).tallies = s.tallies :=
  congrArg (fun c : Counters => (c.repeats, c.strings)) ((show Changes [.units, .dir] s (s.removeHolder u) by simp) .counters (by decide))

@[simp] theorem tallies_startPass (s : State) : s.startPass.tallies = s.tallies := rfl

/-! ## Units -/

@[simp] theorem tallies_enter (s : State) (u : Nat) (st : UnitState) : (s.enter u st).tallies = s.tallies := by
  unfold State.enter
  dsimp only
  split <;> simp

@[simp] theorem tallies_withdrawIntent (s : State) (u : Nat) : (s.withdrawIntent u).tallies = s.tallies := by
  unfold State.withdrawIntent
  (repeat' split) <;> simp

@[simp] theorem tallies_releaseByClosing (s : State) (u : Nat) (b : Bool) : (s.releaseByClosing u b).tallies = s.tallies := by
  unfold State.releaseByClosing
  split <;> simp

@[simp] theorem tallies_applyDone (s : State) (u : Nat) : (s.applyDone u).tallies = s.tallies := by
  unfold State.applyDone
  dsimp only
  (repeat' split) <;> simp

@[simp] theorem tallies_applyOutcome (s : State) (u : Nat) (o : Completion) : (s.applyOutcome u o).tallies = s.tallies := by
  cases o <;> simp [State.applyOutcome]

@[simp] theorem tallies_takeOutcome (s : State) (u : Nat) (o : Completion) (l : Bool) : (s.takeOutcome u o l).tallies = s.tallies := by
  simp [State.takeOutcome]

@[simp] theorem tallies_nodeReport (s : State) (u : Nat) (d : Door) (b : Bolt) (x : InsideBolt) : (s.nodeReport u d b x).tallies = s.tallies := by
  have tamper : ∀ t : State, (t.reportTamper u d b).tallies = t.tallies := fun t => by
    unfold State.reportTamper
    dsimp only
    (repeat' split) <;> simp
  have follow : ∀ t : State, (t.followInside u x).tallies = t.tallies := fun t => by
    unfold State.followInside
    dsimp only
    (repeat' split) <;> simp
  have late : ∀ t : State, (t.count fun c => { c with doneLate := tally c.doneLate }).tallies = t.tallies := fun _ => rfl
  have resolve : ∀ t : State, (t.resolveBolt u b).tallies = t.tallies := fun t => by
    unfold State.resolveBolt
    dsimp only
    (repeat' split) <;> simp [late]
  simp [State.nodeReport, tamper, follow, resolve]

/-! ## The queue and the sweeps -/

@[simp] theorem tallies_withdrawGuest (s : State) (u : Nat) (w : WithdrawReason) : (s.withdrawGuest u w).tallies = s.tallies := by
  unfold State.withdrawGuest State.removeRecord
  split <;> simp

@[simp] theorem tallies_closeDemand (s : State) (t : Option Nat) (h : Option BandId) (e : DemandEnd) : (s.closeDemand t h e).tallies = s.tallies := by
  unfold State.closeDemand State.postDemandDone State.dropDemand
  (repeat' split) <;> simp

@[simp] theorem tallies_testQuiesced (s : State) : s.testQuiesced.tallies = s.tallies := by
  unfold State.testQuiesced State.enterQuiesced
  split <;> simp

@[simp] theorem tallies_endSweep (s : State) (k : SlotId) (e : Ending) : (s.endSweep k e).tallies = s.tallies := by
  unfold State.endSweep State.urgencyStop
  cases k <;> simp

@[simp] theorem tallies_testPass (s : State) (k : SlotId) : (s.testPass k).tallies = s.tallies := by
  unfold State.testPass
  dsimp only
  (repeat' split) <;> simp

theorem tallies_walkOver (k : SlotId) (i : StringId) (as : List Nat) (s : State) : (walkOver k i as s).tallies = s.tallies := by
  have supersede : ∀ (t : State) u, (t.supersede k u).tallies = t.tallies := fun t u => by cases k <;> simp [State.supersede]
  have put : ∀ (t : State) u, (t.putOffer k i u).tallies = t.tallies := fun t u => by
    unfold State.putOffer State.urgencyAtOffer
    cases k
    · simp
    · dsimp only
      split <;> simp
  induction as generalizing s with
  | nil => simp [walkOver, State.setCursor]
  | cons a rest ih =>
    unfold walkOver
    split
    · exact ih s
    · dsimp only
      split
      · split <;> simp [ih, supersede, put, State.setCursor, State.markRepeat, State.releaseAtOnce]
      · exact ih s

@[simp] theorem tallies_walk (s : State) (k : SlotId) (i : StringId) : (s.walk k i).tallies = s.tallies := by
  unfold State.walk
  dsimp only
  split <;> simp [tallies_walkOver]

@[simp] theorem tallies_dropOffers (s : State) (i : StringId) (u : Nat) : (s.dropOffers i u).tallies = s.tallies := by
  have off : ∀ (t : State) k, (t.withdrawOffer k i true).tallies = t.tallies := fun t k => by
    unfold State.withdrawOffer State.urgencyAtDrop State.urgencyStop State.markRepeat
    dsimp only
    (repeat' split) <;> simp
  have drop : ∀ (t : State) k, (t.dropOffer k i u).tallies = t.tallies := fun t k => by
    unfold State.dropOffer
    split <;> simp [off]
  rw [State.dropOffers, drop, drop]

@[simp] theorem tallies_countSweep (s : State) (k : Option SlotId) (o : Completion) : (s.countSweep k o).tallies = s.tallies := by
  cases k <;> simp [State.countSweep]

/-! ## The strings -/

@[simp] theorem tallies_startGap (s : State) (i : StringId) (c : Bool) : (s.startGap i c).tallies = s.tallies := by
  unfold State.startGap
  (repeat' split) <;> simp

@[simp] theorem tallies_complete (s : State) (i : StringId) (o : Completion) (c : Bool) : (s.complete i o c).tallies = s.tallies := by
  have counted : ∀ l, (s.count fun c => c.completed o l).tallies = s.tallies := fun l => by
    cases o <;> cases l <;> rfl
  unfold State.complete
  split
  · rfl
  · simp [counted]

theorem tallies_stringEnters (s : State) (i : StringId) (st : StringState) : (s.stringEnters i st).tallies = s.tallies := by
  rw [← enterString_eq_stringEnters]
  unfold State.enterString
  dsimp only
  (repeat' split) <;> simp

/-- A string that goes on counts overruns alone (R203). -/
theorem tallies_wentOn (s : State) (i j : StringId) : (s.wentOn i).counters.repeats = s.counters.repeats
    ∧ ((s.wentOn i).counters.strings.get j).good = (s.counters.strings.get j).good := by
  rw [wentOn_eq]
  split
  · exact ⟨rfl, rfl⟩
  · refine ⟨rfl, ?_⟩
    dsimp only
    rw [PerString.get_set]
    split
    · next same => rw [same]
    · rfl

end Sys2Proof.Machine
end


section
/-! PROOF. A good reply to a live exchange: O49 (R133, R135, R142, R143, R57). -/

set_option Elab.async false

namespace Sys2Proof.Machine

variable {s t : State} {i : StringId} {a : Nat} {n : NodeRecord} {r : NodeReply}

/-! ## The score and the marks -/

/-- The score of a string falls by 1 with a good reply, which is counted (R133, R203). -/
def State.scoredAt (s : State) (i : StringId) : State :=
  (((s.countString i fun k => { k with good := tally k.good }).setStr i { s.str i with exchange := none, score := (s.str i).score - 1 }).stringEnters i
    (stateOfScore ((s.str i).score - 1)))

theorem replyScore_eq (s : State) (i : StringId) :
    (((s.setStr i { s.str i with exchange := none }).countString i fun k => { k with good := tally k.good }).replyScore i) = s.scoredAt i := by
  have str : ((s.setStr i { s.str i with exchange := none }).countString i fun k => { k with good := tally k.good }).str i = { s.str i with exchange := none } :=
    State.str_setStr_self ..
  unfold State.replyScore State.scoredAt
  rw [str, enterString_eq_stringEnters]
  refine congrArg (State.stringEnters · i _) ?_
  exact State.setStr_setStr (s.countString i fun k => { k with good := tally k.good }) i { s.str i with exchange := none } _

theorem str_scoredAt (s : State) (i : StringId) :
    (s.scoredAt i).str i = { s.str i with exchange := none, score := (s.str i).score - 1, state := stateOfScore ((s.str i).score - 1) } := by
  rw [State.scoredAt, str_stringEnters, State.str_setStr_self]

theorem str_scoredAt_other {l : StringId} (ne : l ≠ i) (s : State) : (s.scoredAt i).str l = s.str l := by
  rw [State.scoredAt, str_stringEnters_other ne, State.str_setStr_other _ ne]
  rfl

theorem changes_scoredAt (s : State) (i : StringId) : Changes [.arb, .strings, .link, .notices, .counters] s (s.scoredAt i) := by
  rw [← replyScore_eq]
  simp

theorem replyMarked_eq (s : State) (i : StringId) (a : Nat) (n : NodeRecord) (r : NodeReply) :
    s.replyMarked i a n r = ((s.scoredAt i).modNode i a (n.answered r .present)).noted (s.replyNotices i a n r) (n.startsPass r) := by
  unfold State.replyMarked State.noted
  dsimp only
  refine if_congr ?_ rfl rfl
  rw [NodeRecord.startsPass]
  simp

/-- Where no other node has the address, the marks of a good reply are those of R133. -/
theorem marked_eq_replyMarked (unique : ∀ m ∈ (s.str i).nodes, m.addr = a → m = n) (r : NodeReply) :
    (s.scoredAt i).marked i a n r = s.replyMarked i a n r := by
  have notices : (s.scoredAt i).replyNotices i a n r = s.replyNotices i a n r := by
    unfold State.replyNotices
    simp only [nodeNotice_congr (changes_scoredAt s i .units (by decide))]
  have nodes : updateNode ((s.scoredAt i).str i).nodes a (fun m => n.answered r (if n.presence = .present then m.presence else .present) m)
      = updateNode ((s.scoredAt i).str i).nodes a (n.answered r .present) := by
    rw [str_scoredAt]
    refine List.map_congr_left fun m mem => ?_
    by_cases here : m.addr = a
    · rw [if_pos here, if_pos here, unique m mem here]
      by_cases present : n.presence = .present
      · exact congrArg (n.answered r · n) ((if_pos present).trans present)
      · exact congrArg (n.answered r · n) (if_neg present)
    · rw [if_neg here, if_neg here]
  rw [replyMarked_eq, State.marked, notices, State.modNode, State.modNode, nodes]

/-! ## The reply as a whole -/

theorem goodReply_eq (x : Exchange) (node : s.node? i x.node = some n) (r : NodeReply) :
    (s.setStr i { s.str i with exchange := none }).goodReply i x r
      = (((s.scoredAt i).marked i x.node n r).faultDropped i x.node (r.actuatorFault && !n.actuatorMark)).replyTaken i x r := by
  have node' : (s.scoredAt i).node? i x.node = some n := by
    rw [State.node?, str_scoredAt]
    exact node
  have whole : (s.setStr i { s.str i with exchange := none }).goodReply i x r =
      ((((((((((s.setStr i { s.str i with exchange := none }).countString i fun k => { k with good := tally k.good }).replyScore i).replyPresence i
        x.node).replyReader i x.node r.readerFault).replyActuator i x.node r.actuatorFault).replyIndicator i x.node x).replyActuation i x.node r).replyReport i
        x.node r).replyPresentation i x.node r.presentation) := rfl
  rw [whole, reply_rest_eq, replyScore_eq, marks_eq node']

end Sys2Proof.Machine
end


section
/-! PROOF. The actuation that a good reply answers, and O49 (R142, R143, R146, R57). -/

set_option Elab.async false

namespace Sys2Proof.Machine

variable {s t : State} {i : StringId} {a : Nat} {n : NodeRecord} {r : NodeReply}

/-! ## The actuation in flight -/

/-- A good reply completes the actuation in flight (R142, R143). -/
def StringCtl.completes (c : StringCtl) (a : Nat) (r : NodeReply) : Prop :=
  c.inFlight.elim false (·.node == a) = true
    ∧ ((c.inFlight.elim false (·.phase == .commanding) = true ∧ r.verdict = some .refuse)
      ∨ (¬(c.inFlight.elim false (·.phase == .commanding) = true ∧ r.verdict ≠ some .accept)
        ∧ r.bolt = if c.inFlight.elim false (·.direction == .lock) then .locked else .unlocked))

/-- A good reply lets the actuation in flight settle (R142). -/
def StringCtl.settles (c : StringCtl) (a : Nat) (r : NodeReply) : Prop :=
  c.inFlight.elim false (·.node == a) = true ∧ c.inFlight.elim false (·.phase == .commanding) = true ∧ r.verdict = some .accept
    ∧ ¬r.bolt = if c.inFlight.elim false (·.direction == .lock) then .locked else .unlocked

theorem StringCtl.outcomeOf_isSome_iff (c : StringCtl) (a : Nat) (r : NodeReply) : (c.outcomeOf a r).isSome = true ↔ c.completes a r := by
  unfold StringCtl.outcomeOf StringCtl.completes
  cases c.inFlight with
  | none => simp
  | some f =>
    obtain ⟨u, node, direction, origin, semantics, band, tag, phase, limited, slot⟩ := f
    dsimp only [Option.elim_some]
    by_cases here : node = a
    · cases phase <;> cases direction <;> rcases r.verdict with _ | _ | _ <;> cases r.bolt <;> simp [here]
    · simp [here]

theorem StringCtl.settles_iff (c : StringCtl) (a : Nat) (r : NodeReply) : c.settles a r ↔
    c.outcomeOf a r = none ∧ c.inFlight.elim false (fun f => f.node == a && f.phase == .commanding) = true ∧ r.verdict = some .accept := by
  unfold StringCtl.outcomeOf StringCtl.settles
  cases c.inFlight with
  | none => simp
  | some f =>
    obtain ⟨u, node, direction, origin, semantics, band, tag, phase, limited, slot⟩ := f
    dsimp only [Option.elim_some]
    by_cases here : node = a
    · cases phase <;> cases direction <;> rcases r.verdict with _ | _ | _ <;> cases r.bolt <;> simp [here]
    · simp [here]

/-- A completion that starts the gap: a gap of 0 ms elapses in the act, and the line is then held for the grant pass (R146, R147). -/
theorem str_complete_gap {f : InFlight} (flight : (s.str i).inFlight = some f) (o : Completion) :
    (s.complete i o false).str i = { s.str i with
      inFlight := none, settleTimer := none
      gapTimer := if s.params.strings.gap = 0 then none else some s.params.strings.gap, held := s.params.strings.gap = 0 } := by
  have rest : ∀ (t : State) u h tag e slot,
      Changes [.units, .dir, .arb, .sweeps, .link, .notices, .counters] t
        (((t.takeOutcome u o f.limited).closeDemand tag h e).countSweep slot o).testQuiesced := fun t u h tag e slot => by simp
  have gap : ∀ t : State, (t.startGap i false).str i =
      { t.str i with gapTimer := if t.params.strings.gap = 0 then none else some t.params.strings.gap, held := t.params.strings.gap = 0 } := fun t => by
    unfold State.startGap
    rw [if_neg (by decide)]
    by_cases zero : t.params.strings.gap = 0
    · simp only [zero]
      exact State.str_setStr_self ..
    · simp only [zero]
      exact State.str_setStr_self ..
  unfold State.complete
  rw [flight]
  dsimp only
  refine (congrArg (PerString.get · i) (rest _ _ _ _ _ _ .strings (by decide))).trans ((gap _).trans ?_)
  rw [State.str_setStr_self]
  rfl

theorem completes_flight {c : StringCtl} (completes : c.completes a r) : ∃ f, c.inFlight = some f := by
  cases flight : c.inFlight with
  | none => rw [StringCtl.completes, flight] at completes; exact absurd completes.1 (by simp)
  | some f => exact ⟨f, rfl⟩

theorem answered_of_completes (completes : (s.str i).completes a r) : (s.actuationAnswered i a r).str i = { s.str i with
    inFlight := none, settleTimer := none
    gapTimer := if s.params.strings.gap = 0 then none else some s.params.strings.gap, held := s.params.strings.gap = 0 } := by
  obtain ⟨o, outcome⟩ := Option.isSome_iff_exists.mp (((s.str i).outcomeOf_isSome_iff a r).mpr completes)
  obtain ⟨f, flight⟩ := completes_flight completes
  have early : o ≠ .doneLate := by
    rintro rfl
    unfold StringCtl.outcomeOf at outcome
    rw [flight] at outcome
    dsimp only at outcome
    (repeat' split at outcome) <;> cases outcome
  unfold State.actuationAnswered
  dsimp only
  rw [outcome]
  exact (congrArg (State.str · i) (complete_eq_ended s i o false early).symm).trans (str_complete_gap flight o)

theorem answered_of_settles (settles : (s.str i).settles a r) :
    s.actuationAnswered i a r = s.setStr i { s.str i with
      inFlight := (s.str i).inFlight.map fun f => { f with phase := .settling }, settleTimer := some s.params.strings.settle } := by
  obtain ⟨outcome, awaited, accepted⟩ := ((s.str i).settles_iff a r).mp settles
  unfold State.actuationAnswered
  dsimp only
  rw [outcome]
  exact if_pos ⟨awaited, accepted⟩

theorem answered_of_neither (open_ : ¬(s.str i).completes a r) (waits : ¬(s.str i).settles a r) : s.actuationAnswered i a r = s := by
  have outcome : (s.str i).outcomeOf a r = none := by
    cases o : (s.str i).outcomeOf a r with
    | none => rfl
    | some _ => exact absurd (((s.str i).outcomeOf_isSome_iff a r).mp (by rw [o]; rfl)) open_
  unfold State.actuationAnswered
  dsimp only
  rw [outcome]
  exact if_neg fun both => waits (((s.str i).settles_iff a r).mpr ⟨outcome, both⟩)

/-- What the answer leaves of the string: the actuation in flight and its timers move, and a line is held for the grant pass after a gap of 0. -/
theorem str_answered (s : State) (i : StringId) (a : Nat) (r : NodeReply) : ∃ flight settle gap held,
    (s.actuationAnswered i a r).str i = { s.str i with inFlight := flight, settleTimer := settle, gapTimer := gap, held := held } := by
  by_cases completes : (s.str i).completes a r
  · exact ⟨_, _, _, _, answered_of_completes completes⟩
  · by_cases settles : (s.str i).settles a r
    · rw [answered_of_settles settles, State.str_setStr_self]
      exact ⟨_, _, _, _, rfl⟩
    · rw [answered_of_neither completes settles]
      exact ⟨_, _, _, _, rfl⟩

theorem str_answered_other {l : StringId} (ne : l ≠ i) (s : State) (a : Nat) (r : NodeReply) : (s.actuationAnswered i a r).str l = s.str l := by
  rw [← replyActuation_eq]
  unfold State.replyActuation
  (repeat' split) <;> simp [str_complete_other ne, State.str_setStr_other s ne]

theorem changes_answered (s : State) (i : StringId) (a : Nat) (r : NodeReply) :
    Changes [.units, .dir, .arb, .strings, .sweeps, .link, .notices, .counters] s (s.actuationAnswered i a r) := by
  rw [← replyActuation_eq]
  simp

theorem tallies_answered (s : State) (i : StringId) (a : Nat) (r : NodeReply) : (s.actuationAnswered i a r).tallies = s.tallies := by
  rw [← replyActuation_eq]
  unfold State.replyActuation
  (repeat' split) <;> simp

/-! ## The state once the positions are taken -/

/-- A node's record once the indicator code has been shown and the positions are taken (R133, steps 4 and 6). -/
def NodeRecord.placed (n : NodeRecord) (replaced : Bool) (r : NodeReply) : NodeRecord :=
  { n with pending := if replaced then n.pending else .dark, door := some r.door, bolt := some r.bolt, inside := some r.inside }

theorem str_placed (s : State) (i : StringId) (x : Exchange) (r : NodeReply) :
    (s.placed i x r).str i =
      { ((s.modNode i x.node fun n => { n with pending := if x.replaced then n.pending else .dark }).actuationAnswered i x.node r).str i with
        nodes := updateNode (s.str i).nodes x.node (·.placed x.replaced r) } := by
  generalize shown : (s.modNode i x.node fun n : NodeRecord => { n with pending := if x.replaced then n.pending else .dark }) = b
  obtain ⟨flight, settle, gap, held, str⟩ := str_answered b i x.node r
  have nodes : ((b.actuationAnswered i x.node r).str i).nodes = updateNode (s.str i).nodes x.node fun n =>
      { n with pending := if x.replaced then n.pending else .dark } := by
    rw [str, ← shown]
    exact congrArg StringCtl.nodes (State.str_setStr_self ..)
  have placed : s.placed i x r = (b.actuationAnswered i x.node r).modNode i x.node fun n =>
      { n with door := some r.door, bolt := some r.bolt, inside := some r.inside } := by rw [← shown]; rfl
  rw [placed, State.modNode, State.str_setStr_self, nodes,
    updateNode_updateNode (f := fun n : NodeRecord => { n with pending := if x.replaced then n.pending else .dark }) (fun _ => rfl)]
  rfl

theorem str_placed_other {l : StringId} (ne : l ≠ i) (s : State) (x : Exchange) (r : NodeReply) : (s.placed i x r).str l = s.str l := by
  rw [State.placed, nodeWritten_eq_modNode, str_modNode_other ne, str_answered_other ne, nodeWritten_eq_modNode, str_modNode_other ne]

theorem changes_placed (s : State) (i : StringId) (x : Exchange) (r : NodeReply) :
    Changes [.units, .dir, .arb, .strings, .sweeps, .link, .notices, .counters] s (s.placed i x r) := by
  unfold State.placed
  rw [nodeWritten_eq_modNode, nodeWritten_eq_modNode]
  refine (changes_modNode i x.node _ (by decide)).mpr ?_
  exact Changes.trans ((changes_modNode i x.node _ (by decide)).mpr Changes.refl) (changes_answered _ i x.node r)

theorem tallies_placed (s : State) (i : StringId) (x : Exchange) (r : NodeReply) : (s.placed i x r).tallies = s.tallies := tallies_answered _ _ _ _

/-! ## The presentation (R57) -/

theorem presentationTaken_none (t : State) (i : StringId) (a u : Nat) : t.presentationTaken i a u none = t := rfl

theorem presentationTaken_repeat {u seq : Nat} {band : BandId} (node : t.node? i a = some n) (same : n.lastSeq = some seq) :
    t.presentationTaken i a u (some (seq, band)) =
      { t with counters := { t.counters with repeats := min 4294967295 (t.counters.repeats + 1) } } := by
  unfold State.presentationTaken
  rw [node]
  exact if_pos same

theorem presentationTaken_busy {u seq : Nat} {band : BandId} (node : t.node? i a = some n) (other : n.lastSeq ≠ some seq)
    (busy : (t.decisions.any fun d => d.str == i && d.node == a) = true) : t.presentationTaken i a u (some (seq, band)) = t := by
  unfold State.presentationTaken
  rw [node]
  exact (if_neg other).trans (if_pos busy)

theorem presentationTaken_new {u seq : Nat} {band : BandId} (node : t.node? i a = some n) (other : n.lastSeq ≠ some seq)
    (free : ¬(t.decisions.any fun d => d.str == i && d.node == a) = true) :
    t.presentationTaken i a u (some (seq, band)) =
      { t.modNode i a fun n => { n with lastSeq := some seq } with
        decisions := t.decisions ++
          [{ str := i, node := a, unit := u, band := band, seq := seq, stage := .lookup, staff := false, admitted := false }] } := by
  unfold State.presentationTaken
  rw [node]
  exact (if_neg other).trans (if_neg free)

end Sys2Proof.Machine
end


section
/-! PROOF. Good replies: O49 (R133, R135, R142, R143, R57). -/

set_option Elab.async false

namespace Sys2Proof.Machine

variable {s t : State} {i : StringId} {a : Nat} {n : NodeRecord} {r : NodeReply}

/-! ## The state before the presentation -/

/-- The state of a good reply up to its presentation (R133, steps 4 to 6). -/
def State.reportedTo (s : State) (i : StringId) (x : Exchange) (r : NodeReply) : State :=
  match s.unitAt i x.node with | none => s.placed i x r | some u => (s.placed i x r).reportTaken u r.door r.bolt r.inside

theorem strings_reportedTo (s : State) (i : StringId) (x : Exchange) (r : NodeReply) : (s.reportedTo i x r).strings = (s.placed i x r).strings := by
  unfold State.reportedTo
  split
  · rfl
  · exact changes_reportTaken _ _ _ _ _ .strings (by decide)

theorem changes_reportedTo (s : State) (i : StringId) (x : Exchange) (r : NodeReply) :
    Changes [.units, .dir, .arb, .strings, .sweeps, .link, .notices, .counters] s (s.reportedTo i x r) := by
  unfold State.reportedTo
  split
  · exact changes_placed s i x r
  · exact (changes_placed s i x r).trans ((changes_reportTaken _ _ _ _ _).mono (by decide))

theorem tallies_reportedTo (s : State) (i : StringId) (x : Exchange) (r : NodeReply) : (s.reportedTo i x r).tallies = s.tallies := by
  unfold State.reportedTo
  split
  · exact tallies_placed s i x r
  · rw [← nodeReport_eq_reportTaken, tallies_nodeReport, tallies_placed]

/-- A good reply's presentation is new, a repeat, or neither (R57). -/
theorem replyTaken_cases {x : Exchange} (node : (s.reportedTo i x r).node? i x.node = some n) :
    let busy := (s.reportedTo i x r).decisions.any fun d => d.str == i && d.node == x.node
    let unit := s.unitAt i x.node
    let new := r.presentation.isSome = true ∧ unit.isSome = true ∧ n.lastSeq ≠ r.presentation.map (·.1) ∧ busy = false
    let again := r.presentation.isSome = true ∧ unit.isSome = true ∧ n.lastSeq = r.presentation.map (·.1)
    (∃ u seq band, unit = some u ∧ r.presentation = some (seq, band) ∧ new ∧ ¬again
        ∧ s.replyTaken i x r = { (s.reportedTo i x r).modNode i x.node fun n => { n with lastSeq := some seq } with
            decisions := (s.reportedTo i x r).decisions ++
              [{ str := i, node := x.node, unit := u, band := band, seq := seq, stage := .lookup, staff := false, admitted := false }] })
    ∨ (¬new ∧ again ∧ s.replyTaken i x r = { s.reportedTo i x r with
          counters := { (s.reportedTo i x r).counters with repeats := min 4294967295 ((s.reportedTo i x r).counters.repeats + 1) } })
    ∨ (¬new ∧ ¬again ∧ s.replyTaken i x r = s.reportedTo i x r) := by
  intro busy unit new again
  cases at_ : s.unitAt i x.node with
  | none =>
    have rest : s.reportedTo i x r = s.placed i x r := by rw [State.reportedTo, at_]
    have none_ : ¬unit.isSome = true := by simp [unit, at_]
    exact .inr (.inr ⟨fun both => none_ both.2.1, fun both => none_ both.2.1, by rw [replyTaken_of_none at_, rest]⟩)
  | some u =>
    have rest : s.reportedTo i x r = (s.placed i x r).reportTaken u r.door r.bolt r.inside := by rw [State.reportedTo, at_]
    have taken := replyTaken_of_some at_ r
    rw [← rest] at taken
    rw [taken]
    have some_ : unit.isSome = true := by simp [unit, at_]
    cases given : r.presentation with
    | none =>
      have none_ : ¬r.presentation.isSome = true := by simp [given]
      exact .inr (.inr ⟨fun both => none_ both.1, fun both => none_ both.1, presentationTaken_none ..⟩)
    | some p =>
      obtain ⟨seq, band⟩ := p
      by_cases same : n.lastSeq = some seq
      · refine .inr (.inl ⟨fun both => both.2.2.1 (by rw [same, given]; rfl), ⟨by rw [given]; rfl, some_, by rw [same, given]; rfl⟩, ?_⟩)
        exact presentationTaken_repeat node same
      · have fresh : ¬again := fun both => same (both.2.2.trans (by rw [given]; rfl))
        by_cases decides : busy = true
        · exact .inr (.inr ⟨fun both => Bool.noConfusion (decides.symm.trans both.2.2.2), fresh, presentationTaken_busy node same decides⟩)
        · refine .inl ⟨u, seq, band, at_, rfl, ⟨by rw [given]; rfl, some_, ?_, by simpa using decides⟩, fresh, presentationTaken_new node same decides⟩
          rw [given]
          exact same

/-! ## The state before the actuation is answered -/

theorem strings_faultDropped (s : State) (i : StringId) (a : Nat) (fault : Bool) : (s.faultDropped i a fault).strings = s.strings := by
  unfold State.faultDropped
  split
  · split
    · rfl
    · exact strings_dropOffers s i _
  · rfl

theorem changes_faultDropped (s : State) (i : StringId) (a : Nat) (fault : Bool) :
    Changes [.units, .dir, .arb, .sweeps, .link, .notices, .counters] s (s.faultDropped i a fault) := by
  unfold State.faultDropped
  split
  · split <;> simp
  · exact Changes.refl

theorem tallies_faultDropped (s : State) (i : StringId) (a : Nat) (fault : Bool) : (s.faultDropped i a fault).tallies = s.tallies := by
  unfold State.faultDropped
  split
  · split <;> simp
  · rfl

theorem places_faultDropped (s : State) (i : StringId) (a : Nat) (fault : Bool) (u : Nat) : (s.faultDropped i a fault).unitNode u = s.unitNode u := by
  unfold State.faultDropped
  split
  · split
    · rfl
    · exact keeps_dropOffers (ls := [.places]) Keeps.refl i _ .places (by decide) u
  · rfl

theorem tallies_noted (s : State) (ds : List NoticeData) (pass : Bool) : (s.noted ds pass).tallies = s.tallies := by
  have posted : ∀ t : State, (ds.foldl State.post t).tallies = t.tallies := fun t => by
    induction ds generalizing t with
    | nil => rfl
    | cons d rest ih => rw [List.foldl_cons, ih, tallies_post]
  unfold State.noted
  split
  · rw [tallies_startPass, posted]
  · exact posted s

theorem changes_replyMarked (s : State) (i : StringId) (a : Nat) (n : NodeRecord) (r : NodeReply) :
    Changes [.arb, .strings, .link, .notices, .counters] s (s.replyMarked i a n r) := by
  rw [replyMarked_eq]
  exact ((changes_scoredAt s i).trans ((changes_modNode i a _ (by decide)).mpr Changes.refl)).trans ((changes_noted _ _ _).mono (by decide))

theorem str_replyMarked (s : State) (i : StringId) (a : Nat) (n : NodeRecord) (r : NodeReply) :
    (s.replyMarked i a n r).str i = { s.str i with
      exchange := none, score := (s.str i).score - 1, state := stateOfScore ((s.str i).score - 1)
      nodes := updateNode (s.str i).nodes a (n.answered r .present) } := by
  rw [replyMarked_eq, str_noted, State.modNode, State.str_setStr_self, str_scoredAt]

theorem str_replyMarked_other {l : StringId} (ne : l ≠ i) (s : State) (a : Nat) (n : NodeRecord) (r : NodeReply) : (s.replyMarked i a n r).str l = s.str l := by
  rw [replyMarked_eq, str_noted, str_modNode_other ne, str_scoredAt_other ne]

/-- A good reply counts itself, and no more of the repeats and of the strings' counters (R203). -/
theorem tallies_replyMarked (s : State) (i : StringId) (a : Nat) (n : NodeRecord) (r : NodeReply) :
    (s.replyMarked i a n r).tallies = (s.countString i fun k => { k with good := tally k.good }).tallies := by
  rw [replyMarked_eq, tallies_noted, tallies_modNode, State.scoredAt, tallies_stringEnters, tallies_setStr]

theorem node_unique {nodes : List NodeRecord} (sorted : (nodes.map (·.addr)).Pairwise (· < ·)) (node : nodes.find? (·.addr == a) = some n) :
    ∀ m ∈ nodes, m.addr = a → m = n := by
  intro m mem here
  have found : n ∈ nodes := List.mem_of_find?_eq_some node
  have addr : n.addr = a := by simpa using List.find?_some node
  have nodup : (nodes.map (·.addr)).Nodup := sorted.imp fun lt => ne_of_lt lt
  exact List.inj_on_of_nodup_map nodup mem found (here.trans addr.symm)

/-- A good reply to a live exchange, taken (R133). -/
theorem exec_goodReply {bytes : List Byte} {x : Exchange} (on : s.power.on = true) (line : (s.str i).exchange = some x) (fresh : x.stale = false)
    (idle : (s.str i).state ≠ .idle) (up : (s.str i).state ≠ .off) (node : s.node? i x.node = some n)
    (judged : judgeReply x.node x.command bytes = .good r) :
    exec (.nodeReplyGood i bytes) s = .next
      (((((s.scoredAt i).marked i x.node n r).faultDropped i x.node (r.actuatorFault && !n.actuatorMark)).replyTaken i x r).wentOn i) := by
  have reply : takeReply i bytes x (s.setStr i { s.str i with exchange := none }) = (s.setStr i { s.str i with exchange := none }).goodReply i x r := by
    unfold takeReply
    rw [judged]
  rw [exec_nodeReplyGood on, endExchange_of_some line]
  dsimp only
  rw [if_pos ⟨fresh, idle, up, by rw [node]; simp⟩, reply, goodReply_eq x node]

/-- The drops of a new actuator fault, one slot after the other (R135, R162). -/
theorem drops_faultDropped (on : s.power.on = true) (i : StringId) (a : Nat) (fault : Bool) :
    let off := fun (b : State) k => if fault && ((b.slot k).offers.get i).any fun o => s.unitAt i a == some o.unit then some i else none
    ∃ m, s.Drops .evacuation (off s .evacuation) true m ∧ m.Drops .closing (off m .closing) true (s.faultDropped i a fault) := by
  intro off
  unfold State.faultDropped
  cases fault with
  | false =>
    have none_ : ∀ b k, off b k = none := fun b k => if_neg (by simp)
    rw [none_, if_neg (by decide)]
    exact ⟨s, rfl, by rw [none_]; rfl⟩
  | true =>
    cases at_ : s.unitAt i a with
    | none =>
      have none_ : ∀ b k, off b k = none := fun b k => if_neg (by simp [at_])
      rw [none_, if_pos rfl]
      exact ⟨s, rfl, by rw [none_]; rfl⟩
    | some u =>
      have unit : ∀ b k, off b k = if ((b.slot k).offers.get i).any fun o => some u == some o.unit then some i else none := fun b k => by
        simp only [off, at_, Bool.true_and]
      rw [unit, if_pos rfl]
      exact ⟨s.dropOffer .evacuation i u, drops_unit on .evacuation, by rw [unit]; exact drops_unit (on_dropOffer on _) .closing⟩

end Sys2Proof.Machine
end


section
/-! PROOF. Good replies to live exchanges: O49 (R133, R135, R137, R142, R143, R146, R57). -/

set_option Elab.async false

namespace Sys2Proof.Machine

variable {s t p : State} {i : StringId} {n : NodeRecord} {r : NodeReply} {x : Exchange}

/-- The node's record of a string whose nodes are written at one address. -/
theorem str_wentOn_nodes (s : State) (i : StringId) : ((s.wentOn i).str i).nodes = (s.str i).nodes := by
  obtain ⟨_, _, _, _, _, _, _, str⟩ := str_wentOn s i
  rw [str]

theorem str_reportedTo (s : State) (i : StringId) (x : Exchange) (r : NodeReply) (j : StringId) : (s.reportedTo i x r).str j = (s.placed i x r).str j :=
  congrArg (PerString.get · j) (strings_reportedTo s i x r)

/-- The string of a node once its positions are taken, by what becomes of the actuation in flight (R142, R143). -/
theorem str_placed_cases (s : State) (i : StringId) (x : Exchange) (r : NodeReply) :
    let c := s.str i
    let d := (s.placed i x r).str i
    d.nodes = updateNode c.nodes x.node (·.placed x.replaced r) ∧ d.score = c.score ∧ d.state = c.state
      ∧ (c.completes x.node r → d.inFlight = none ∧ d.settleTimer = none
          ∧ d.gapTimer = if s.params.strings.gap = 0 then none else some s.params.strings.gap)
      ∧ (c.settles x.node r → d.inFlight = (c.inFlight.map fun f => { f with phase := .settling }) ∧ d.settleTimer = some s.params.strings.settle
          ∧ d.gapTimer = c.gapTimer)
      ∧ (¬c.completes x.node r → ¬c.settles x.node r → d.inFlight = c.inFlight ∧ d.settleTimer = c.settleTimer ∧ d.gapTimer = c.gapTimer) := by
  intro c d
  generalize shown : (s.modNode i x.node fun n : NodeRecord => { n with pending := if x.replaced then n.pending else .dark }) = b
  have str : b.str i = { c with nodes := updateNode c.nodes x.node fun n => { n with pending := if x.replaced then n.pending else .dark } } := by
    rw [← shown]
    exact State.str_setStr_self ..
  have params : b.params = s.params := by rw [← shown]; rfl
  have placed : d = { (b.actuationAnswered i x.node r).str i with nodes := updateNode c.nodes x.node (·.placed x.replaced r) } := by
    rw [← shown]
    exact str_placed s i x r
  obtain ⟨_, _, _, _, answered⟩ := str_answered b i x.node r
  have completes : (b.str i).completes x.node r ↔ c.completes x.node r := by rw [str]; exact Iff.rfl
  have settles : (b.str i).settles x.node r ↔ c.settles x.node r := by rw [str]; exact Iff.rfl
  refine ⟨by rw [placed], by rw [placed, answered, str], by rw [placed, answered, str], fun done => ?_, fun settling => ?_, fun open_ waits => ?_⟩
  · rw [placed, answered_of_completes (completes.mpr done), params]
    exact ⟨rfl, rfl, rfl⟩
  · rw [placed, answered_of_settles (settles.mpr settling), State.str_setStr_self, str, params]
    exact ⟨rfl, rfl, rfl⟩
  · rw [placed, answered_of_neither (mt completes.mp open_) (mt settles.mp waits), str]
    exact ⟨rfl, rfl, rfl⟩

/-- A presentation changes, beyond the decisions and the repeats, the last seq of its node alone (R57). -/
theorem replyTaken_reported {m : NodeRecord} (node : (s.reportedTo i x r).node? i x.node = some m) :
    (∃ nodes, (s.replyTaken i x r).str i = { (s.reportedTo i x r).str i with nodes := nodes })
      ∧ (∀ a, a ≠ x.node → (s.replyTaken i x r).node? i a = (s.reportedTo i x r).node? i a)
      ∧ (∀ j, j ≠ i → (s.replyTaken i x r).str j = (s.reportedTo i x r).str j)
      ∧ (s.replyTaken i x r).counters.strings = (s.reportedTo i x r).counters.strings := by
  rcases replyTaken_cases node with ⟨u, seq, band, -, -, -, -, eq⟩ | ⟨-, -, eq⟩ | ⟨-, -, eq⟩
  · rw [eq]
    exact ⟨⟨_, State.str_setStr_self ..⟩, fun a ne => node?_modNode_other (f := fun n : NodeRecord => { n with lastSeq := some seq }) (fun _ => rfl) _ i ne,
      fun j ne => str_modNode_other ne _ _ _, rfl⟩
  · rw [eq]
    exact ⟨⟨_, rfl⟩, fun _ _ => rfl, fun _ _ => rfl, rfl⟩
  · rw [eq]
    exact ⟨⟨_, rfl⟩, fun _ _ => rfl, fun _ _ => rfl, rfl⟩

/-- The decision that a good reply hands on, if any (R57). -/
def handedOn (unit : Option Nat) (presentation : Option (Nat × BandId)) (new : Prop) [Decidable new] (d : Nat → Nat → BandId → Decision) : List Decision :=
  match unit, presentation with
  | some u, some (seq, band) => if new then [d u seq band] else []
  | _, _ => []

theorem handedOn_of_new {unit : Option Nat} {presentation : Option (Nat × BandId)} {u seq : Nat} {band : BandId} {new : Prop} [Decidable new]
    (at_ : unit = some u) (given : presentation = some (seq, band)) (isNew : new) (d : Nat → Nat → BandId → Decision) :
    handedOn unit presentation new d = [d u seq band] := by
  subst at_ given
  exact if_pos isNew

theorem handedOn_of_old {new : Prop} [Decidable new] (old : ¬new) (unit : Option Nat) (presentation : Option (Nat × BandId))
    (d : Nat → Nat → BandId → Decision) : handedOn unit presentation new d = [] := by
  unfold handedOn
  split
  · exact if_neg old
  · rfl

/-- Settles O49. -/
theorem goodRepliesAreTaken : Obligations.GoodRepliesAreTaken := by
  intro s i bytes x r n on c line fresh idle up node judged sorted last unit busy new here toLock commanding reached completes settles fault on_ marked
  have unique := node_unique sorted node
  have taken := exec_goodReply on line fresh idle up node judged
  rw [marked_eq_replyMarked unique] at taken
  have changed : Changes [.arb, .strings, .link, .notices, .counters] s marked := changes_replyMarked s i x.node n r
  have unitAt : marked.unitAt i x.node = unit := unitAt_congr (changed .units (by decide)) i x.node
  obtain ⟨m, evac, closing⟩ := drops_faultDropped ((congrArg Power.on (changed .power (by decide))).trans on) i x.node fault
  rw [unitAt] at evac closing
  have dropped := changes_faultDropped marked i x.node fault
  have strings := strings_faultDropped marked i x.node fault
  have tallies := (tallies_faultDropped marked i x.node fault).trans (tallies_replyMarked s i x.node n r)
  have unit_ : (marked.faultDropped i x.node fault).unitAt i x.node = unit :=
    (unitAt_of_places (places_faultDropped marked i x.node fault) i x.node).trans unitAt
  change exec _ s = .next (((marked.faultDropped i x.node fault).replyTaken i x r).wentOn i) at taken
  refine ⟨m, _, _, taken, evac, closing, rfl, ?_⟩
  generalize marked.faultDropped i x.node fault = p at taken dropped strings tallies unit_
  have params : p.params = s.params := (dropped .params (by decide)).trans (changed .params (by decide))
  have decisions : p.decisions = s.decisions := (dropped .decisions (by decide)).trans (changed .decisions (by decide))
  have str : p.str i = { c with
      exchange := none, score := c.score - 1, state := stateOfScore (c.score - 1), nodes := updateNode c.nodes x.node (n.answered r .present) } :=
    (congrArg (PerString.get · i) strings).trans (str_replyMarked s i x.node n r)
  have others : ∀ j, j ≠ i → p.str j = s.str j := fun j ne => (congrArg (PerString.get · j) strings).trans (str_replyMarked_other ne s x.node n r)
  obtain ⟨nodes, score, state, done, settling, neither⟩ := str_placed_cases p i x r
  have tallied : (p.reportedTo i x r).tallies = _ := (tallies_reportedTo p i x r).trans tallies
  have decided : (p.reportedTo i x r).decisions = s.decisions := (changes_reportedTo p i x r .decisions (by decide)).trans decisions
  have node_ : (p.reportedTo i x r).node? i x.node = some ((n.answered r .present n).placed x.replaced r) := by
    rw [State.node?, str_reportedTo, nodes, str]
    have marks : (updateNode c.nodes x.node (n.answered r .present)).find? (·.addr == x.node) = some (n.answered r .present n) :=
      (find?_updateNode_self (f := n.answered r .present) (fun _ => rfl) _ _).trans (congrArg (Option.map (n.answered r .present)) node)
    exact (find?_updateNode_self (f := (·.placed x.replaced r)) (fun _ => rfl) _ _).trans (congrArg (Option.map (·.placed x.replaced r)) marks)
  obtain ⟨⟨N, same⟩, otherNodes, otherStrings, sameCounters⟩ := replyTaken_reported node_
  obtain ⟨_, _, _, _, _, _, _, went⟩ := str_wentOn (p.replyTaken i x r) i
  have fields : (((p.replyTaken i x r).wentOn i).str i).score = c.score - 1 ∧ (((p.replyTaken i x r).wentOn i).str i).state = stateOfScore (c.score - 1)
      ∧ (((p.replyTaken i x r).wentOn i).str i).inFlight = ((p.placed i x r).str i).inFlight
      ∧ (((p.replyTaken i x r).wentOn i).str i).settleTimer = ((p.placed i x r).str i).settleTimer
      ∧ (((p.replyTaken i x r).wentOn i).str i).gapTimer = ((p.placed i x r).str i).gapTimer := by
    rw [went, same, str_reportedTo]
    exact ⟨score.trans (by rw [str]), state.trans (by rw [str]), rfl, rfl, rfl⟩
  obtain ⟨scored, stated, flight, settle, gap⟩ := fields
  have counters := tallies_wentOn (p.replyTaken i x r) i i
  have nodesOf : ∀ a, ((p.replyTaken i x r).wentOn i).node? i a = (p.replyTaken i x r).node? i a := fun a => by
    rw [State.node?, str_wentOn_nodes, State.node?]
  have decisionsOf : ((p.replyTaken i x r).wentOn i).decisions = (p.replyTaken i x r).decisions := changes_wentOn _ i .decisions (by decide)
  have comp : (p.str i).completes x.node r ↔ completes := by rw [str]; exact Iff.rfl
  have sett : (p.str i).settles x.node r ↔ settles := by rw [str]; exact Iff.rfl
  have flight_ : (p.str i).inFlight = c.inFlight ∧ (p.str i).settleTimer = c.settleTimer ∧ (p.str i).gapTimer = c.gapTimer := by
    rw [str]
    exact ⟨rfl, rfl, rfl⟩
  rw [params] at done settling
  rw [flight_.1, flight_.2.2] at settling
  rw [flight_.1, flight_.2.1, flight_.2.2] at neither
  rw [comp] at done neither
  rw [sett] at settling neither
  have repeats : (p.reportedTo i x r).counters.repeats = s.counters.repeats := congrArg Prod.fst tallied
  let again : Prop := r.presentation.isSome = true ∧ unit.isSome = true ∧ last = r.presentation.map (·.1)
  have presented : (∃ u seq band, unit = some u ∧ r.presentation = some (seq, band) ∧ new ∧ ¬again
        ∧ p.replyTaken i x r = { (p.reportedTo i x r).modNode i x.node fun n => { n with lastSeq := some seq } with
            decisions := s.decisions ++
              [{ str := i, node := x.node, unit := u, band := band, seq := seq, stage := .lookup, staff := false, admitted := false }] })
      ∨ (¬new ∧ again ∧ p.replyTaken i x r = { p.reportedTo i x r with
          counters := { (p.reportedTo i x r).counters with repeats := min 4294967295 ((p.reportedTo i x r).counters.repeats + 1) } })
      ∨ (¬new ∧ ¬again ∧ p.replyTaken i x r = p.reportedTo i x r) := by
    have known := replyTaken_cases node_
    rw [decided, unit_] at known
    exact known
  have decisions_ : (p.replyTaken i x r).decisions = s.decisions ++ handedOn unit r.presentation new fun u seq band =>
      { str := i, node := x.node, unit := u, band := band, seq := seq, stage := .lookup, staff := false, admitted := false } := by
    rcases presented with ⟨u, seq, band, at_, given, isNew, -, eq⟩ | ⟨old, -, eq⟩ | ⟨old, -, eq⟩
    · rw [eq, handedOn_of_new at_ given isNew]
    · rw [eq, handedOn_of_old old, List.append_nil]
      exact decided
    · rw [eq, handedOn_of_old old, List.append_nil]
      exact decided
  refine ⟨?_, scored, stated, ?_, fun a ne => ?_, fun j ne => ?_, ?_, ?_, ?_, ?_, ?_⟩
  · rw [counters.2, sameCounters, show (p.reportedTo i x r).counters.strings = _ from congrArg Prod.snd tallied]
    exact congrArg StringCounters.good (PerString.get_set_self ..)
  · rw [nodesOf]
    rcases presented with ⟨u, seq, band, -, given, isNew, -, eq⟩ | ⟨old, -, eq⟩ | ⟨old, -, eq⟩
    · rw [eq, if_pos isNew, given]
      exact (node?_modNode_self (f := fun n : NodeRecord => { n with lastSeq := some seq }) (fun _ => rfl) _ i x.node).trans
        (congrArg (Option.map fun n : NodeRecord => { n with lastSeq := some seq }) node_)
    · rw [eq, if_neg old]
      exact node_
    · rw [eq, if_neg old]
      exact node_
  · rw [nodesOf, otherNodes a ne, State.node?, str_reportedTo, nodes, str]
    exact (find?_updateNode_other (f := (·.placed x.replaced r)) (fun _ => rfl) _ ne).trans
      (find?_updateNode_other (f := n.answered r .present) (fun _ => rfl) _ ne)
  · rw [str_wentOn_other ne, otherStrings j ne, str_reportedTo, str_placed_other ne, others j ne]
  · rw [flight]
    by_cases completed : completes
    · rw [if_pos completed, (done completed).1]
    · rw [if_neg completed]
      by_cases settled : settles
      · rw [if_pos settled, (settling settled).1]
      · rw [if_neg settled, (neither completed settled).1]
  · rw [settle]
    by_cases completed : completes
    · rw [if_pos completed, (done completed).2.1]
    · rw [if_neg completed]
      by_cases settled : settles
      · rw [if_pos settled, (settling settled).2.1]
      · rw [if_neg settled, (neither completed settled).2.1]
  · rw [gap]
    by_cases completed : completes
    · rw [if_pos completed, (done completed).2.2]
    · rw [if_neg completed]
      by_cases settled : settles
      · rw [(settling settled).2.2]
      · rw [(neither completed settled).2.2]
  · exact decisionsOf.trans decisions_
  · rw [counters.1]
    rcases presented with ⟨u, seq, band, -, -, -, fresh, eq⟩ | ⟨-, same, eq⟩ | ⟨-, fresh, eq⟩
    · rw [eq, if_neg fresh]
      exact repeats
    · rw [eq, if_pos same, ← repeats]
    · rw [eq, if_neg fresh]
      exact repeats

end Sys2Proof.Machine
end



section
/-! PROOF. What walks and drops see of a string: its state, its roster addresses and the record that each address has. -/

set_option Elab.async false

namespace Sys2Proof.Machine

variable {s t : State} {i : StringId} {c : StringCtl}

/-- Two string records that a walk does not tell apart. -/
structure StringCtl.Alike (c d : StringCtl) : Prop where
  state : c.state = d.state
  addrs : c.nodes.map (·.addr) = d.nodes.map (·.addr)
  found : ∀ a, c.nodes.find? (·.addr == a) = d.nodes.find? (·.addr == a)

/-! ## A change of a string stands beside the acts of a walk -/

theorem setUnit_setStr (s : State) (i : StringId) (c : StringCtl) (u : Nat) (r : UnitRecord) :
    (s.setStr i c).setUnit u r = (s.setUnit u r).setStr i c := by
  unfold State.setUnit
  split <;> rfl

theorem enters_setStr (s : State) (i : StringId) (c : StringCtl) (u : Nat) (r : UnitRecord) :
    (s.setStr i c).enters u r = (s.enters u r).setStr i c := by
  unfold State.enters
  dsimp only
  rw [setUnit_setStr, post_setStr]
  split <;> rfl

theorem withdrawn_setStr (s : State) (i : StringId) (c : StringCtl) (u : Nat) : (s.setStr i c).withdrawn u = (s.withdrawn u).setStr i c := by
  unfold State.withdrawn
  rw [show (s.setStr i c).unit u = s.unit u from rfl]
  cases (s.unit u).intent with
  | none => rfl
  | some x =>
    dsimp only
    rw [enters_setStr]
    rfl

theorem guestWithdrawn_setStr (s : State) (i : StringId) (c : StringCtl) (u : Nat) (why : WithdrawReason) :
    (s.setStr i c).guestWithdrawn u why = (s.guestWithdrawn u why).setStr i c := by
  unfold State.guestWithdrawn
  rw [show (s.setStr i c).arb = s.arb from rfl]
  cases s.arb.queue.find? fun r => r.unit == u && r.origin != .staff with
  | none => rfl
  | some r =>
    have unqueued : ∀ a : Arbiter, ({ s.setStr i c with arb := a } : State) = ({ s with arb := a } : State).setStr i c := fun _ => rfl
    dsimp only
    rw [unqueued, withdrawn_setStr, post_setStr]
    rfl

theorem supersede_setStr (s : State) (i : StringId) (c : StringCtl) (k : SlotId) (u : Nat) :
    (s.setStr i c).supersede k u = (s.supersede k u).setStr i c := by
  rw [supersede_eq_visited, supersede_eq_visited]
  cases k with
  | evacuation => exact guestWithdrawn_setStr s i c u .superseded
  | closing => rfl

theorem setSlot_setStr (s : State) (i : StringId) (c : StringCtl) (k : SlotId) (x : SweepSlot) :
    (s.setStr i c).setSlot k x = (s.setSlot k x).setStr i c := by
  cases k <;> rfl

theorem releasedOpen_setStr (s : State) (i : StringId) (c : StringCtl) (k : SlotId) (u : Nat) :
    (s.setStr i c).releasedOpen k u = (s.releasedOpen k u).setStr i c := by
  unfold State.releasedOpen
  dsimp only
  rw [show (s.setStr i c).unit u = s.unit u from rfl, post_setStr, ← apply_ite (State.setStr · i c), setUnit_setStr, setSlot_setStr]
  rfl

theorem putOffer_setStr (s : State) (i : StringId) (c : StringCtl) (k : SlotId) (j : StringId) (u : Nat) :
    (s.setStr i c).putOffer k j u = (s.putOffer k j u).setStr i c := by
  cases k with
  | evacuation => rfl
  | closing =>
    unfold State.putOffer State.urgencyAtOffer
    dsimp only
    rw [show (s.setStr i c).closingOffered = s.closingOffered from rfl, show (s.setStr i c).arb = s.arb from rfl]
    split <;> rfl

theorem endSweep_setStr (s : State) (i : StringId) (c : StringCtl) (k : SlotId) (e : Ending) :
    (s.setStr i c).endSweep k e = (s.endSweep k e).setStr i c := by
  unfold State.endSweep
  dsimp only
  rw [setSlot_setStr, post_setStr]
  cases k <;> rfl

theorem testPass_setStr (s : State) (i : StringId) (c : StringCtl) (k : SlotId) : (s.setStr i c).testPass k = (s.testPass k).setStr i c := by
  have slot : (s.setStr i c).slot k = s.slot k := by cases k <;> rfl
  unfold State.testPass
  dsimp only
  rw [slot]
  split
  · split
    · exact endSweep_setStr ..
    · split
      · rw [setSlot_setStr]
        exact endSweep_setStr ..
      · exact setSlot_setStr ..
  · rfl

theorem withdrawOffer_setStr (s : State) (i : StringId) (c : StringCtl) (k : SlotId) (j : StringId) (mark : Bool) :
    (s.setStr i c).withdrawOffer k j mark = (s.withdrawOffer k j mark).setStr i c := by
  have slot : (s.setStr i c).slot k = s.slot k := by cases k <;> rfl
  rw [withdrawOffer_eq_offOffer, withdrawOffer_eq_offOffer]
  unfold State.offOffer
  dsimp only
  rw [slot]
  cases (s.slot k).offers.get j with
  | none => rfl
  | some o =>
    dsimp only
    rw [setSlot_setStr]
    split <;> rfl

/-! ## Walks and drops over strings that are alike -/

theorem reachable_setStr (alike : c.Alike (s.str i)) (u : Nat) : (s.setStr i c).reachable u = s.reachable u := by
  unfold State.reachable
  rw [show (s.setStr i c).unitNode u = s.unitNode u from rfl]
  cases s.unitNode u with
  | none => rfl
  | some place =>
    obtain ⟨j, a⟩ := place
    dsimp only
    by_cases here : j = i
    · subst here
      rw [State.node?, State.str_setStr_self, alike.state, alike.found, State.node?]
    · rw [State.node?, State.str_setStr_other _ here, State.node?]

theorem judge_setStr (alike : c.Alike (s.str i)) (k : SlotId) (u : Nat) : (s.setStr i c).judge k u = s.judge k u := by
  unfold State.judge State.offerOrRepeat
  rw [reachable_setStr alike]
  rfl

theorem walkOver_setStr {k : SlotId} {j : StringId} {as : List Nat} (alike : c.Alike (s.str i)) :
    walkOver k j as (s.setStr i c) = (walkOver k j as s).setStr i c := by
  induction as generalizing s with
  | nil => exact setSlot_setStr ..
  | cons a rest ih =>
    have visits : ∀ u, (s.setStr i c).visits k u = s.visits k u := fun u => by cases k <;> rfl
    unfold walkOver
    rw [show (s.setStr i c).unitAt j a = s.unitAt j a from rfl]
    cases at_ : s.unitAt j a with
    | none => exact ih alike
    | some u =>
      have unit : isUnit u := State.isUnit_of_unitAt at_
      have strings : (s.supersede k u).strings = s.strings :=
        (show Changes [.units, .dir, .arb, .link, .notices, .counters] s (s.supersede k u) by simp) .strings (by decide)
      have alike' : c.Alike ((s.supersede k u).str i) := by
        rw [State.str, strings]
        exact alike
      dsimp only
      rw [visits, supersede_setStr, judge_setStr alike']
      generalize s.supersede k u = t at alike'
      split
      · split
        · exact ih alike'
        · rw [releaseAtOnce_eq_releasedOpen _ _ unit, releasedOpen_setStr, ← releaseAtOnce_eq_releasedOpen _ _ unit]
          refine ih ?_
          rw [State.str, (show Changes [.units, .dir, .sweeps, .link, .notices, .counters] t (t.releaseAtOnce k u) by simp) .strings (by decide)]
          exact alike'
        · have marked : (t.setStr i c).markRepeat k u = (t.markRepeat k u).setStr i c := by cases k <;> rfl
          rw [marked]
          refine ih ?_
          rw [State.str, (show Changes [.sweeps] t (t.markRepeat k u) by simp) .strings (by decide)]
          exact alike'
        · rw [putOffer_setStr]
          cases k <;> rfl
      · exact ih alike

theorem walk_setStr (alike : c.Alike (s.str i)) (k : SlotId) (j : StringId) : (s.setStr i c).walk k j = (s.walk k j).setStr i c := by
  have slot : (s.setStr i c).slot k = s.slot k := by cases k <;> rfl
  have roster : ∀ a, (s.setStr i c).rosterFrom j a = s.rosterFrom j a := fun a => by
    unfold State.rosterFrom
    by_cases here : j = i
    · subst here
      rw [State.str_setStr_self, alike.addrs]
    · rw [State.str_setStr_other _ here]
  unfold State.walk
  dsimp only
  rw [slot]
  split
  · rw [roster, walkOver_setStr alike, testPass_setStr]
  · exact testPass_setStr ..

theorem dropOffer_setStr (alike : c.Alike (s.str i)) (k : SlotId) (j : StringId) (u : Nat) :
    (s.setStr i c).dropOffer k j u = (s.dropOffer k j u).setStr i c := by
  have slot : (s.setStr i c).slot k = s.slot k := by cases k <;> rfl
  unfold State.dropOffer
  rw [slot]
  split
  · rw [withdrawOffer_setStr, walk_setStr]
    rw [State.str, strings_withdrawOffer]
    exact alike
  · rfl

theorem strings_dropOffer (s : State) (k : SlotId) (j : StringId) (u : Nat) : (s.dropOffer k j u).strings = s.strings :=
  (show Changes [.units, .dir, .arb, .sweeps, .link, .notices, .counters] s (s.dropOffer k j u) by simp) .strings (by decide)

theorem dropOffers_setStr (alike : c.Alike (s.str i)) (j : StringId) (u : Nat) : (s.setStr i c).dropOffers j u = (s.dropOffers j u).setStr i c := by
  have alike' : c.Alike ((s.dropOffer .evacuation j u).str i) := by
    rw [State.str, strings_dropOffer]
    exact alike
  rw [State.dropOffers, dropOffer_setStr alike, dropOffer_setStr alike', State.dropOffers]

theorem faultDropped_setStr (alike : c.Alike (s.str i)) (j : StringId) (a : Nat) (fault : Bool) :
    (s.setStr i c).faultDropped j a fault = (s.faultDropped j a fault).setStr i c := by
  unfold State.faultDropped
  rw [show (s.setStr i c).unitAt j a = s.unitAt j a from rfl]
  split
  · split
    · rfl
    · exact dropOffers_setStr alike j _
  · rfl

end Sys2Proof.Machine
end



section
/-! PROOF. Node reports reach the unit: O50 (R14, R15, R17 to R20, R59). -/

set_option Elab.async false

namespace Sys2Proof.Machine

variable {s t p : State} {i : StringId} {n : NodeRecord} {r : NodeReply} {x : Exchange}

/-! ## The marks of a reply, seen by a walk -/

theorem noted_setStr (s : State) (i : StringId) (c : StringCtl) (ds : List NoticeData) (pass : Bool) :
    (s.setStr i c).noted ds pass = (s.noted ds pass).setStr i c := by
  have posted : ∀ t : State, ds.foldl State.post (t.setStr i c) = (ds.foldl State.post t).setStr i c := fun t => by
    induction ds generalizing t with
    | nil => rfl
    | cons d rest ih => rw [List.foldl_cons, List.foldl_cons, post_setStr, ih]
  unfold State.noted
  rw [posted]
  split <;> rfl

/-- Where other nodes have the address too, the marks of a good reply differ from those of R133 in nothing that a walk sees. -/
theorem marked_alike {a : Nat} (node : s.node? i a = some n) (r : NodeReply) :
    ∃ c, (s.scoredAt i).marked i a n r = (s.replyMarked i a n r).setStr i c ∧ c.Alike ((s.replyMarked i a n r).str i)
      ∧ c.inFlight = (s.str i).inFlight := by
  have notices : (s.scoredAt i).replyNotices i a n r = s.replyNotices i a n r := by
    unfold State.replyNotices
    simp only [nodeNotice_congr (changes_scoredAt s i .units (by decide))]
  have both : ∀ f g, (s.scoredAt i).modNode i a f = ((s.scoredAt i).modNode i a g).setStr i
      { (s.scoredAt i).str i with nodes := updateNode ((s.scoredAt i).str i).nodes a f } := fun f g => (State.setStr_setStr ..).symm
  have addrs : ∀ (f : NodeRecord → NodeRecord) nodes, (∀ m, (f m).addr = m.addr) → (updateNode nodes a f).map (·.addr) = nodes.map (·.addr) :=
    fun f nodes same => by
      unfold updateNode
      rw [List.map_map]
      refine List.map_congr_left fun m _ => ?_
      dsimp only [Function.comp]
      split
      · exact same m
      · rfl
  refine ⟨{ (s.scoredAt i).str i with
    nodes := updateNode ((s.scoredAt i).str i).nodes a fun m => n.answered r (if n.presence = .present then m.presence else .present) m }, ?_, ?_, ?_⟩
  · rw [replyMarked_eq, State.marked, notices, both _ (n.answered r .present), noted_setStr]
  · rw [str_replyMarked, str_scoredAt]
    refine ⟨rfl, ?_, fun b => ?_⟩
    · dsimp only
      rw [addrs (n.answered r .present) _ fun _ => rfl]
      exact addrs _ _ fun _ => rfl
    · by_cases here : b = a
      · subst here
        have found : (s.str i).nodes.find? (·.addr == b) = some n := node
        dsimp only
        rw [find?_updateNode_self (f := n.answered r .present) (fun _ => rfl), found]
        refine (find?_updateNode_self (f := fun m => n.answered r (if n.presence = .present then m.presence else .present) m) (fun _ => rfl) _ _).trans ?_
        rw [found]
        refine congrArg some (congrArg (n.answered r · n) ?_)
        split
        · assumption
        · rfl
      · dsimp only
        rw [find?_updateNode_other (f := n.answered r .present) (fun _ => rfl) _ here]
        exact find?_updateNode_other (f := fun m => n.answered r (if n.presence = .present then m.presence else .present) m) (fun _ => rfl) _ here
  · rw [str_scoredAt]

/-! ## What a completion does to the units -/

/-- A unit's record after an outcome (R9 to R13). -/
def UnitRecord.after (r : UnitRecord) (o : Completion) : UnitRecord :=
  match o with
  | .done | .doneLate => r.intent.elim { r with last := some o } { r with last := some o }.accomplished
  | .refusedByNode => r.intent.elim { r with last := some o } { r with last := some o }.withdrawn
  | .jammed => { r with last := some o, state := .jammed }
  | .uncertain => { r with last := some o, state := .verify }

theorem State.unit_accomplished (s : State) (u : Nat) : (s.accomplished u).unit u = (s.unit u).intent.elim (s.unit u) (s.unit u).accomplished := by
  cases intent : (s.unit u).intent with
  | none => rw [State.accomplished, intent]; rfl
  | some q => exact State.unit_accomplished_self s intent

theorem State.unit_withdrawn (s : State) (u : Nat) : (s.withdrawn u).unit u = (s.unit u).intent.elim (s.unit u) (s.unit u).withdrawn := by
  cases intent : (s.unit u).intent with
  | none => rw [State.withdrawn, intent]; rfl
  | some q => exact State.unit_withdrawn_self s intent

theorem State.unit_outcomeTaken_self (s : State) {u : Nat} (h : isUnit u) (o : Completion) (limited : Bool) :
    (s.outcomeTaken u o limited).unit u = (s.unit u).after o := by
  have written : ∀ d, ((s.setUnit u { s.unit u with last := some o }).post d).unit u = { s.unit u with last := some o } :=
    State.unit_setUnit_post _ h _
  unfold State.outcomeTaken UnitRecord.after
  dsimp only
  cases o with
  | done => rw [State.unit_accomplished, written]
  | doneLate => rw [State.unit_accomplished, written]
  | refusedByNode => rw [State.unit_withdrawn, written]
  | jammed => exact State.unit_setUnit_self _ h _
  | uncertain => exact State.unit_setUnit_self _ h _

/-- What an outcome makes of a unit depends on the unit alone (R9 to R13). -/
theorem unit_outcomeTaken_congr (units : ∀ v, s.unit v = t.unit v) (u : Nat) (o : Completion) (limited : Bool) (v : Nat) :
    (s.outcomeTaken u o limited).unit v = (t.outcomeTaken u o limited).unit v := by
  by_cases here : v = u
  · subst here
    by_cases h : isUnit v
    · rw [State.unit_outcomeTaken_self s h, State.unit_outcomeTaken_self t h, units]
    · rw [State.unit_of_not_isUnit _ h, State.unit_of_not_isUnit _ h]
  · rw [State.unit_outcomeTaken_other _ here, State.unit_outcomeTaken_other _ here, units]

/-- What a completion makes of the units depends on them and on the actuation in flight alone (R146). -/
theorem unit_ended_congr (units : ∀ v, s.unit v = t.unit v) (flight : (s.str i).inFlight = (t.str i).inFlight) {o : Completion} (early : o ≠ .doneLate)
    (cleared : Bool) (v : Nat) : (s.ended i o cleared).unit v = (t.ended i o cleared).unit v := by
  rw [← complete_eq_ended _ _ _ _ early, ← complete_eq_ended _ _ _ _ early]
  have rest : ∀ (b : State) h tag e slot, (((b.closeDemand tag h e).countSweep slot o).testQuiesced).unit v = b.unit v := fun b h tag e slot =>
    State.unit_congr ((show Changes [.arb, .sweeps, .link, .notices, .counters] b ((b.closeDemand tag h e).countSweep slot o).testQuiesced by simp) .units
      (by decide)) v
  have gap : ∀ (b : State) v, (b.startGap i cleared).unit v = b.unit v := fun b v =>
    State.unit_congr ((show Changes [.arb, .strings] b (b.startGap i cleared) by simp) .units (by decide)) v
  unfold State.complete
  rw [flight]
  cases (t.str i).inFlight with
  | none => exact units v
  | some f =>
    dsimp only
    rw [rest, rest, takeOutcome_eq_outcomeTaken, takeOutcome_eq_outcomeTaken]
    refine unit_outcomeTaken_congr (fun v => ?_) _ _ _ _
    rw [gap, gap]
    exact units v

/-! ## The report of a reply -/

theorem outcomeOf_ne_doneLate {c : StringCtl} {a : Nat} {o : Completion} (outcome : c.outcomeOf a r = some o) : o ≠ .doneLate := by
  rintro rfl
  unfold StringCtl.outcomeOf at outcome
  cases flight : c.inFlight with
  | none => rw [flight] at outcome; cases outcome
  | some f =>
    rw [flight] at outcome
    dsimp only at outcome
    (repeat' split at outcome) <;> cases outcome

/-- The units once the actuation in flight is answered and the positions are taken (R142, R143). -/
theorem unit_placed (s : State) (i : StringId) (x : Exchange) (r : NodeReply) (v : Nat) : (s.placed i x r).unit v =
    ((s.str i).outcomeOf x.node r).elim (s.unit v) fun o => (s.ended i o false).unit v := by
  generalize shown : (s.nodeWritten i x.node fun n : NodeRecord => { n with pending := if x.replaced then n.pending else .dark }) = b
  have units : ∀ v, b.unit v = s.unit v := fun v => by rw [← shown]; rfl
  have flight : (b.str i).inFlight = (s.str i).inFlight := by
    rw [← shown, nodeWritten_eq_modNode, State.modNode, State.str_setStr_self]
  have placed : (s.placed i x r).unit v = (b.actuationAnswered i x.node r).unit v := by
    rw [← shown]
    rfl
  have outcome : (b.str i).outcomeOf x.node r = (s.str i).outcomeOf x.node r := by
    unfold StringCtl.outcomeOf
    rw [flight]
  rw [placed, State.actuationAnswered]
  dsimp only
  rw [outcome]
  cases known : (s.str i).outcomeOf x.node r with
  | none =>
    dsimp only [Option.elim_none]
    split
    · exact units v
    · exact units v
  | some o => exact unit_ended_congr units flight (outcomeOf_ne_doneLate known) false v

/-- A presentation leaves the units as they are (R57). -/
theorem units_presentationTaken (t : State) (i : StringId) (a u : Nat) (presented : Option (Nat × BandId)) :
    (t.presentationTaken i a u presented).units = t.units := by
  unfold State.presentationTaken
  split
  · split
    · rfl
    · split <;> rfl
  · rfl

/-- Settles O50. -/
theorem nodeReportsReachTheUnit : Obligations.NodeReportsReachTheUnit := by
  refine ⟨fun s u door bolt inside => ⟨nodeReport_eq_reportTaken s u door bolt inside, fun h => State.unit_reportTaken_self s h door bolt inside,
    fun v ne => State.unit_reportTaken_other s ne door bolt inside, changes_reportTaken s u door bolt inside⟩, ?_⟩
  intro s i bytes x r n u on c line fresh idle up node judged at_ reached outcome on_ marked
  have outcome_eq : outcome = c.outcomeOf x.node r := rfl
  obtain ⟨d, marks, alike, flight⟩ := marked_alike node r
  have taken := exec_goodReply on line fresh idle up node judged
  rw [marks, faultDropped_setStr alike] at taken
  have changed : Changes [.arb, .strings, .link, .notices, .counters] s marked := changes_replyMarked s i x.node n r
  have unitAt : marked.unitAt i x.node = some u := (unitAt_congr (changed .units (by decide)) i x.node).trans at_
  obtain ⟨m, evac, closing⟩ := drops_faultDropped ((congrArg Power.on (changed .power (by decide))).trans on) i x.node
    (r.actuatorFault && !n.actuatorMark)
  have off : ∀ (b : State) k, (if (r.actuatorFault && !n.actuatorMark) && ((b.slot k).offers.get i).any fun o => marked.unitAt i x.node == some o.unit
      then some i else none) = on_ b k := fun b k => by
    have same : (fun o : Offer => marked.unitAt i x.node == some o.unit) = fun o => o.unit == u := by
      funext o
      rw [unitAt, Option.some_beq_some]
      exact Bool.beq_comm
    rw [same]
  replace evac : marked.Drops .evacuation (on_ marked .evacuation) true m := by
    rw [← off]
    exact evac
  replace closing : m.Drops .closing (on_ m .closing) true (marked.faultDropped i x.node (r.actuatorFault && !n.actuatorMark)) := by
    rw [← off]
    exact closing
  have strings := strings_faultDropped marked i x.node (r.actuatorFault && !n.actuatorMark)
  have places := places_faultDropped marked i x.node (r.actuatorFault && !n.actuatorMark)
  have kept : r.actuatorFault = false → ∀ v, (marked.faultDropped i x.node (r.actuatorFault && !n.actuatorMark)).unit v = s.unit v := fun none_ v => by
    rw [none_]
    exact State.unit_congr (changed .units (by decide)) v
  refine ⟨m, _, _, taken, evac, closing, kept, ?_⟩
  generalize marked.faultDropped i x.node (r.actuatorFault && !n.actuatorMark) = p at strings places
  have carried : (p.str i).inFlight = c.inFlight := by
    rw [State.str, strings, show marked.strings.get i = _ from str_replyMarked s i x.node n r]
  have carried' : ((p.setStr i d).str i).inFlight = (p.str i).inFlight := by
    rw [State.str_setStr_self, flight, carried]
  have before : ∀ v, ((p.setStr i d).placed i x r).unit v = (c.outcomeOf x.node r).elim (p.unit v) fun o => (p.ended i o false).unit v := fun v => by
    have same : ((p.setStr i d).str i).outcomeOf x.node r = c.outcomeOf x.node r := by
      unfold StringCtl.outcomeOf
      rw [carried', carried]
    rw [unit_placed, same]
    cases known : c.outcomeOf x.node r with
    | none => rfl
    | some o => exact unit_ended_congr (s := p.setStr i d) (t := p) (fun _ => rfl) carried' (outcomeOf_ne_doneLate known) false v
  rw [← outcome_eq] at before
  have at' : (p.setStr i d).unitAt i x.node = some u := (unitAt_of_places places i x.node).trans unitAt
  have reported : ∀ v, (((p.setStr i d).replyTaken i x r).wentOn i).unit v
      = (((p.setStr i d).placed i x r).reportTaken u r.door r.bolt r.inside).unit v := fun v => by
    rw [State.unit_congr (changes_wentOn _ i .units (by decide)), replyTaken_of_some at', State.unit_congr (units_presentationTaken ..)]
  clear_value outcome
  refine ⟨?_, fun v ne => ?_⟩
  · rw [reported, State.unit_reportTaken_self _ (State.isUnit_of_unitAt at_), before]
    cases outcome <;> rfl
  · rw [reported, State.unit_reportTaken_other _ ne, before]
    cases outcome <;> rfl

end Sys2Proof.Machine
end



section
/-! PROOF. An address joins a roster, and one leaves it (R125). -/

set_option Elab.async false

namespace Sys2Proof.Machine

variable {s t : State} {i j : StringId} {a b : Nat}

/-! ## The record of a node that joins -/

theorem insertNode_eq_takeWhile (n : NodeRecord) (nodes : List NodeRecord) :
    insertNode n nodes = nodes.takeWhile (·.addr ≤ n.addr) ++ n :: nodes.dropWhile (·.addr ≤ n.addr) := by
  induction nodes with
  | nil => rfl
  | cons m rest ih =>
    unfold insertNode
    by_cases below : n.addr < m.addr
    · have stops : decide (m.addr ≤ n.addr) = false := decide_eq_false (by omega)
      rw [if_pos below, List.takeWhile_cons, List.dropWhile_cons]
      simp only [stops]
      rfl
    · have goes : decide (m.addr ≤ n.addr) = true := decide_eq_true (by omega)
      rw [if_neg below, List.takeWhile_cons, List.dropWhile_cons]
      simp only [goes, ih]
      rfl

theorem find?_insertNode_other {n : NodeRecord} (ne : n.addr ≠ b) (nodes : List NodeRecord) :
    (insertNode n nodes).find? (·.addr == b) = nodes.find? (·.addr == b) := by
  have differs : (n.addr == b) = false := by simpa using ne
  induction nodes with
  | nil => simp [insertNode, differs]
  | cons m rest ih =>
    unfold insertNode
    split
    · rw [List.find?_cons, differs]
    · rw [List.find?_cons, List.find?_cons, ih]

theorem find?_insertNode_self {n : NodeRecord} {nodes : List NodeRecord} (fresh : nodes.find? (·.addr == n.addr) = none) :
    (insertNode n nodes).find? (·.addr == n.addr) = some n := by
  induction nodes with
  | nil => simp [insertNode]
  | cons m rest ih =>
    rw [List.find?_cons] at fresh
    unfold insertNode
    split
    · simp
    · split at fresh
      · cases fresh
      case h_2 differs => rw [List.find?_cons, differs, ih fresh]

/-! ## The string that enters a state, and that begins a round -/

/-- Entering a state starts a grant pass at most. -/
theorem arb_stringEnters (s : State) (i : StringId) (st : StringState) (pass : Bool) :
    { (s.stringEnters i st).arb with grantPass := pass } = { s.arb with grantPass := pass } := by
  by_cases same : (s.str i).state = st
  · rw [stringEnters_of_eq same]
  · rw [stringEnters_of_ne same]
    dsimp only
    split
    · rfl
    · exact congrArg (fun a : Arbiter => { a with grantPass := pass }) (State.post_arb ..)

theorem arb_wentOn (s : State) (i : StringId) : (s.wentOn i).arb = s.arb := changes_wentOn s i .arb (by decide)

theorem wentOn_of_busy {x : Exchange} (busy : (s.str i).exchange = some x) : s.wentOn i = s := by
  rw [← sendNext_eq_wentOn]
  exact sendNext_of_busy (by rw [busy]; rfl)

/-- A round that has a node to visit begins: it is in progress, and a frame on the line stays there (R129). -/
theorem str_beginRound (some_ : (s.str i).visited ≠ []) : ∃ cursor exchange last out,
    (s.beginRound i).str i = { s.str i with
      roundTimer := some s.roundPeriod, inRound := true, cursor := cursor, exchange := exchange, lastSettle := last, lineOut := out }
    ∧ ((s.str i).exchange.isSome → exchange = (s.str i).exchange) := by
  by_cases waits : (s.str i).exchange ≠ none ∨ (s.str i).held = true
  · rw [beginRound_of_waiting waits, StringCtl.openRound_of_some some_, State.str_setStr_self]
    exact ⟨_, _, _, _, rfl, fun _ => rfl⟩
  · obtain ⟨free, going⟩ := not_or.mp waits
    rw [beginRound_of_free (not_not.mp free) (by simpa using going), StringCtl.openRound_of_some some_, State.str_setStr_self]
    obtain ⟨cursor, exchange, last, out, chosen⟩ :=
      ({ s.str i with roundTimer := some s.roundPeriod, cursor := none, inRound := true } : StringCtl).chooses_line
    rw [chosen]
    exact ⟨_, _, _, _, rfl, fun busy => absurd busy (by simp [not_not.mp free])⟩

/-! ## An address joins -/

/-- A string whose roster an address has joined. -/
def StringCtl.joined (c : StringCtl) (a : Nat) : StringCtl := { c with nodes := insertNode (NodeRecord.added a) c.nodes }

/-- An IDLE string that an address has joined, up to its first round. -/
def State.woken (s : State) (i : StringId) (a : Nat) : State :=
  (s.setStr i { (s.str i).joined a with score := 0, roundCount := 0 }).stringEnters i .active

theorem str_woken (s : State) (i : StringId) (a : Nat) :
    (s.woken i a).str i = { (s.str i).joined a with score := 0, roundCount := 0, state := .active } := by
  rw [State.woken, str_stringEnters, State.str_setStr_self]

theorem visited_woken (s : State) (i : StringId) (a : Nat) : ((s.woken i a).str i).visited ≠ [] := by
  have all : ∀ n : NodeRecord, decide ((0 : Nat) = 0 ∨ n.presence ≠ .absent) = true := fun _ => decide_eq_true (.inl rfl)
  rw [str_woken, StringCtl.visited]
  dsimp only
  rw [List.filter_eq_self.mpr fun n _ => all n]
  exact insertNode_ne_nil _ _

theorem roundPeriod_woken (s : State) (i : StringId) (a : Nat) : (s.woken i a).roundPeriod = s.roundPeriod := roundPeriod_stringEnters _ _ _

theorem addNode_of_idle (idle : (s.str i).state = .idle) (a : Nat) : s.addNode i a = (s.woken i a).beginRound i := by
  unfold State.addNode
  dsimp only
  rw [if_pos idle, enterString_eq_stringEnters, State.str_setStr_self, State.setStr_setStr]
  rfl

theorem addNode_of_awake (awake : (s.str i).state ≠ .idle) (a : Nat) : s.addNode i a = s.setStr i ((s.str i).joined a) := by
  unfold State.addNode
  exact if_neg awake

theorem nodeJoins_of_idle (idle : (s.str i).state = .idle) (a : Nat) : s.nodeJoins i a =
    ((s.woken i a).setStr i { (s.woken i a).str i with roundTimer := some s.roundPeriod, cursor := none, inRound := true }).wentOn i := by
  unfold State.nodeJoins State.woken StringCtl.joined
  rw [insertNode_eq_takeWhile]
  exact if_pos idle

theorem addNode_eq_nodeJoins (s : State) (i : StringId) (a : Nat) : s.addNode i a = s.nodeJoins i a := by
  by_cases idle : (s.str i).state = .idle
  · rw [addNode_of_idle idle, nodeJoins_of_idle idle, beginRound_eq_wentOn (visited_woken s i a), roundPeriod_woken]
  · rw [addNode_of_awake idle]
    unfold State.nodeJoins StringCtl.joined
    rw [insertNode_eq_takeWhile]
    exact (if_neg idle).symm

/-- What a string has once an address has joined it (R125). -/
theorem str_nodeJoins (s : State) (i : StringId) (a : Nat) :
    ((s.nodeJoins i a).str i).nodes = insertNode (NodeRecord.added a) (s.str i).nodes
      ∧ ((s.str i).exchange.isSome → ((s.nodeJoins i a).str i).exchange = (s.str i).exchange)
      ∧ ((s.str i).state = .idle → ((s.nodeJoins i a).str i).state = .active ∧ ((s.nodeJoins i a).str i).score = 0
          ∧ ((s.nodeJoins i a).str i).roundCount = 0 ∧ ((s.nodeJoins i a).str i).inRound = true
          ∧ ((s.nodeJoins i a).str i).roundTimer = some s.roundPeriod) := by
  rw [← addNode_eq_nodeJoins]
  by_cases idle : (s.str i).state = .idle
  · obtain ⟨cursor, exchange, last, out, begun, line⟩ := str_beginRound (visited_woken s i a)
    rw [addNode_of_idle idle, begun, roundPeriod_woken]
    rw [str_woken] at line ⊢
    exact ⟨rfl, line, fun _ => ⟨rfl, rfl, rfl, rfl, rfl⟩⟩
  · rw [addNode_of_awake idle, State.str_setStr_self]
    exact ⟨rfl, fun _ => rfl, fun other => absurd other idle⟩

theorem str_nodeJoins_other (ne : j ≠ i) (s : State) (a : Nat) : (s.nodeJoins i a).str j = s.str j := by
  rw [← addNode_eq_nodeJoins]
  by_cases idle : (s.str i).state = .idle
  · rw [addNode_of_idle idle, str_beginRound_other ne, State.woken, str_stringEnters_other ne, State.str_setStr_other _ ne]
  · rw [addNode_of_awake idle, State.str_setStr_other _ ne]

theorem changes_nodeJoins (s : State) (i : StringId) (a : Nat) : Changes [.arb, .strings, .link, .notices, .counters] s (s.nodeJoins i a) := by
  rw [← addNode_eq_nodeJoins]
  simp

theorem arb_nodeJoins (s : State) (i : StringId) (a : Nat) (pass : Bool) :
    { (s.nodeJoins i a).arb with grantPass := pass } = { s.arb with grantPass := pass } := by
  by_cases idle : (s.str i).state = .idle
  · rw [nodeJoins_of_idle idle, arb_wentOn]
    exact arb_stringEnters _ _ _ _
  · rw [← addNode_eq_nodeJoins, addNode_of_awake idle]
    rfl

/-! ## An address leaves -/

/-- A string whose roster an address has left. -/
def StringCtl.left (c : StringCtl) (a : Nat) : StringCtl :=
  { c with
    nodes := c.nodes.filter fun n => n.addr != a
    exchange := c.exchange.map fun x => if x.node = a then { x with stale := true } else x }

/-- A string that its last address has left, but for its state. -/
def StringCtl.emptied (c : StringCtl) (a : Nat) : StringCtl :=
  { c.left a with score := 0, roundTimer := none, gapTimer := none, recoveryTimer := none, inRound := false, held := false }

theorem nodeLeaves_of_last (last : ((s.str i).left a).nodes = []) : s.nodeLeaves i a = (s.setStr i ((s.str i).emptied a)).stringEnters i .idle :=
  if_pos last

theorem nodeLeaves_of_more (more : ((s.str i).left a).nodes ≠ []) : s.nodeLeaves i a = (s.setStr i ((s.str i).left a)).wentOn i := if_neg more

theorem removeNode_eq_nodeLeaves (s : State) (i : StringId) (a : Nat) : s.removeNode i a = s.nodeLeaves i a := by
  unfold State.removeNode
  change (if ((s.str i).left a).nodes.isEmpty then
    ((s.setStr i ((s.str i).left a)).setStr i ((s.str i).emptied a)).enterString i .idle else (s.setStr i ((s.str i).left a)).sendNext i) = _
  by_cases last : ((s.str i).left a).nodes = []
  · rw [nodeLeaves_of_last last, if_pos (List.isEmpty_iff.mpr last), State.setStr_setStr, enterString_eq_stringEnters]
  · rw [nodeLeaves_of_more last, if_neg (mt List.isEmpty_iff.mp last), sendNext_eq_wentOn]

/-- What a string has once an address has left it (R125). -/
theorem str_nodeLeaves (s : State) (i : StringId) (a : Nat) :
    ((s.nodeLeaves i a).str i).nodes = (s.str i).nodes.filter (fun n => n.addr != a)
      ∧ (∀ x, (s.str i).exchange = some x → x.node = a → ((s.nodeLeaves i a).str i).exchange = some { x with stale := true })
      ∧ ((∀ n ∈ (s.str i).nodes, n.addr = a) →
          ((s.nodeLeaves i a).str i).state = .idle ∧ ((s.nodeLeaves i a).str i).score = 0 ∧ ((s.nodeLeaves i a).str i).nodes = []
          ∧ ((s.nodeLeaves i a).str i).roundTimer = none ∧ ((s.nodeLeaves i a).str i).gapTimer = none
          ∧ ((s.nodeLeaves i a).str i).recoveryTimer = none ∧ ((s.nodeLeaves i a).str i).inRound = false) := by
  have staled : ∀ x, (s.str i).exchange = some x → x.node = a → ((s.str i).left a).exchange = some { x with stale := true } := fun x line here => by
    unfold StringCtl.left
    rw [line]
    exact congrArg some (if_pos here)
  by_cases last : ((s.str i).left a).nodes = []
  · rw [nodeLeaves_of_last last, str_stringEnters, State.str_setStr_self]
    exact ⟨rfl, staled, fun _ => ⟨rfl, rfl, last, rfl, rfl, rfl, rfl⟩⟩
  · rw [nodeLeaves_of_more last]
    refine ⟨?_, fun x line here => ?_, fun all => absurd ?_ last⟩
    · rw [str_wentOn_nodes, State.str_setStr_self]
      rfl
    · have busy : ((s.setStr i ((s.str i).left a)).str i).exchange = some { x with stale := true } := by
        rw [State.str_setStr_self, staled x line here]
      rw [wentOn_of_busy busy, busy]
    · exact List.filter_eq_nil_iff.mpr fun n mem => by simp [all n mem]

theorem str_nodeLeaves_other (ne : j ≠ i) (s : State) (a : Nat) : (s.nodeLeaves i a).str j = s.str j := by
  by_cases last : ((s.str i).left a).nodes = []
  · rw [nodeLeaves_of_last last, str_stringEnters_other ne, State.str_setStr_other _ ne]
  · rw [nodeLeaves_of_more last, str_wentOn_other ne, State.str_setStr_other _ ne]

theorem changes_nodeLeaves (s : State) (i : StringId) (a : Nat) : Changes [.arb, .strings, .link, .notices, .counters] s (s.nodeLeaves i a) := by
  rw [← removeNode_eq_nodeLeaves]
  simp

theorem arb_nodeLeaves (s : State) (i : StringId) (a : Nat) (pass : Bool) :
    { (s.nodeLeaves i a).arb with grantPass := pass } = { s.arb with grantPass := pass } := by
  by_cases last : ((s.str i).left a).nodes = []
  · rw [nodeLeaves_of_last last]
    exact arb_stringEnters _ _ _ _
  · rw [nodeLeaves_of_more last, arb_wentOn]
    rfl

theorem find?_filter_self (nodes : List NodeRecord) (a : Nat) : (nodes.filter fun n => n.addr != a).find? (·.addr == a) = none := by
  simp [List.find?_eq_none]

theorem find?_filter_other (ne : b ≠ a) (nodes : List NodeRecord) :
    (nodes.filter fun n => n.addr != a).find? (·.addr == b) = nodes.find? (·.addr == b) := by
  rw [List.find?_filter]
  refine congrArg (List.find? · nodes) (funext fun n => ?_)
  rw [Bool.eq_iff_iff]
  simp only [bne_iff_ne, ne_eq, beq_iff_eq, decide_eq_true_eq, and_iff_right_iff_imp]
  rintro rfl
  exact ne

end Sys2Proof.Machine
end



section
/-! PROOF. The node of a unit that moves, and CONFIGURE_UNIT: O28 (R22, R125, R162). -/

set_option Elab.async false

namespace Sys2Proof.Machine

variable {s t : State} {u a d : Nat} {i j : StringId} {old : Option (StringId × Nat)}

/-! ## The drops of a unit's candidates -/

theorem drops_dropUnit (on : s.power.on = true) (k : SlotId) (u : Nat) (mark : Bool) : s.Drops k (s.offeredOn k u) mark (s.dropUnit k u mark) := by
  unfold State.Drops State.dropUnit State.offeredOn
  cases allStrings.find? fun i => ((s.slot k).offers.get i).elim false (·.unit == u) with
  | none => rfl
  | some i =>
    dsimp only
    rw [withdrawOffer_eq_offOffer]
    exact ⟨_, exec_sweepWalk ((congrArg Power.on (power_offOffer s k i mark)).trans on) k i, rfl⟩

theorem changes_dropped (s : State) (k : SlotId) (u : Nat) (mark : Bool) :
    Changes [.units, .dir, .arb, .sweeps, .link, .notices, .counters] s (s.dropUnit k u mark) := by
  simp

theorem on_dropUnit (on : s.power.on = true) (k : SlotId) (u : Nat) (mark : Bool) : (s.dropUnit k u mark).power.on = true :=
  (congrArg Power.on (changes_dropped s k u mark .power (by decide))).trans on

theorem strings_dropUnit (s : State) (k : SlotId) (u : Nat) (mark : Bool) : (s.dropUnit k u mark).strings = s.strings :=
  changes_dropped s k u mark .strings (by decide)

/-! ## A node that moves -/

/-- A unit's new address joins its roster, and the old one then leaves (R125). -/
def State.relocated (s : State) (old : Option (StringId × Nat)) (i : StringId) (a : Nat) : State :=
  match old with
  | none => s.nodeJoins i a
  | some (j, d) => (s.nodeJoins i a).nodeLeaves j d

theorem moveNode_of_moved (moved : old ≠ some (i, a)) (s : State) : s.moveNode old i a = s.relocated old i a := by
  unfold State.moveNode State.relocated
  rw [if_neg moved, addNode_eq_nodeJoins]
  cases old with
  | none => rfl
  | some place => exact removeNode_eq_nodeLeaves _ place.1 place.2

theorem node?_nodeJoins_self (fresh : s.node? i a = none) : (s.nodeJoins i a).node? i a = some (NodeRecord.added a) := by
  rw [State.node?, (str_nodeJoins s i a).1]
  exact find?_insertNode_self (n := NodeRecord.added a) fresh

theorem node?_nodeJoins_other (ne : (j, d) ≠ (i, a)) (s : State) : (s.nodeJoins i a).node? j d = s.node? j d := by
  by_cases same : j = i
  · subst same
    rw [State.node?, (str_nodeJoins s j a).1]
    exact find?_insertNode_other (n := NodeRecord.added a) (fun eq => ne (congrArg (Prod.mk j) eq.symm)) _
  · rw [State.node?, str_nodeJoins_other same, State.node?]

theorem node?_nodeLeaves_self (s : State) (i : StringId) (a : Nat) : (s.nodeLeaves i a).node? i a = none := by
  rw [State.node?, (str_nodeLeaves s i a).1]
  exact find?_filter_self _ a

theorem node?_nodeLeaves_other (ne : (j, d) ≠ (i, a)) (s : State) : (s.nodeLeaves i a).node? j d = s.node? j d := by
  by_cases same : j = i
  · subst same
    rw [State.node?, (str_nodeLeaves s j a).1]
    exact find?_filter_other (fun eq => ne (congrArg (Prod.mk j) eq)) _
  · rw [State.node?, str_nodeLeaves_other same, State.node?]

theorem node?_relocated_new (moved : old ≠ some (i, a)) (fresh : s.node? i a = none) : (s.relocated old i a).node? i a = some (NodeRecord.added a) := by
  cases old with
  | none => exact node?_nodeJoins_self fresh
  | some place => exact (node?_nodeLeaves_other (fun eq => moved (congrArg some eq.symm)) _).trans (node?_nodeJoins_self fresh)

theorem node?_relocated_old (there : old = some (j, d)) (s : State) (i : StringId) (a : Nat) : (s.relocated old i a).node? j d = none := by
  subst there
  exact node?_nodeLeaves_self _ j d

theorem node?_relocated_other (stays : old ≠ some (j, d)) (ne : (j, d) ≠ (i, a)) (s : State) : (s.relocated old i a).node? j d = s.node? j d := by
  cases old with
  | none => exact node?_nodeJoins_other ne s
  | some place => exact (node?_nodeLeaves_other (fun eq => stays (congrArg some eq.symm)) _).trans (node?_nodeJoins_other ne s)

/-- A string that no address leaves is as it was once the new address has joined. -/
theorem str_relocated_joined (stays : ∀ d, old ≠ some (j, d)) (s : State) (i : StringId) (a : Nat) :
    (s.relocated old i a).str j = (s.nodeJoins i a).str j := by
  cases old with
  | none => rfl
  | some place => exact str_nodeLeaves_other (fun eq => stays place.2 (by rw [eq])) _ _

theorem str_relocated_other (ne : j ≠ i) (stays : ∀ d, old ≠ some (j, d)) (s : State) (a : Nat) : (s.relocated old i a).str j = s.str j :=
  (str_relocated_joined stays s i a).trans (str_nodeJoins_other ne s a)

/-- A string that its last address leaves enters IDLE (R125). -/
theorem str_relocated_emptied (there : old = some (j, d)) (ne : j ≠ i) (last : ∀ n ∈ (s.str j).nodes, n.addr = d) :
    let b := (s.relocated old i a).str j
    b.state = .idle ∧ b.score = 0 ∧ b.nodes = [] ∧ b.roundTimer = none ∧ b.gapTimer = none ∧ b.recoveryTimer = none ∧ b.inRound = false := by
  subst there
  exact (str_nodeLeaves (s.nodeJoins i a) j d).2.2 (by rw [str_nodeJoins_other ne]; exact last)

/-- A frame to an address that leaves is stale (R125). -/
theorem str_relocated_stale {x : Exchange} (there : old = some (j, d)) (line : (s.str j).exchange = some x) (here : x.node = d) :
    ((s.relocated old i a).str j).exchange = some { x with stale := true } := by
  subst there
  refine (str_nodeLeaves (s.nodeJoins i a) j d).2.1 x ?_ here
  by_cases same : j = i
  · subst same
    rw [(str_nodeJoins s j a).2.1 (by rw [line]; rfl), line]
  · rw [str_nodeJoins_other same, line]

theorem changes_relocated (s : State) (old : Option (StringId × Nat)) (i : StringId) (a : Nat) :
    Changes [.arb, .strings, .link, .notices, .counters] s (s.relocated old i a) := by
  cases old with
  | none => exact changes_nodeJoins s i a
  | some place => exact (changes_nodeJoins s i a).trans (changes_nodeLeaves _ _ _)

theorem arb_relocated (s : State) (old : Option (StringId × Nat)) (i : StringId) (a : Nat) (pass : Bool) :
    { (s.relocated old i a).arb with grantPass := pass } = { s.arb with grantPass := pass } := by
  cases old with
  | none => exact arb_nodeJoins s i a pass
  | some place => exact (arb_nodeLeaves _ _ _ _).trans (arb_nodeJoins s i a pass)

/-! ## The record that CONFIGURE_UNIT writes -/

theorem UnitRecord.rewritten_eq {r : UnitRecord} {c : UnitConfig} {stays : Prop} [Decidable stays]
    (place : stays ↔ r.config.map (fun o => (o.string, o.node)) = some (c.string, c.node)) (idle : r.state ∈ [.unconfigured, .vacant, .withdrawn]) :
    r.rewritten c =
      { r with
        config := some c, dwell := 0, overstayReported := false, occupied := r.occupied && c.kind == .cabin && decide stays, occupancy := 0
        occupancyReported := false, uses := 0, tamper := false, last := none, door := if stays then r.door else none
        state := if r.state = .withdrawn then .withdrawn
          else if c.mode = .freeUse ∧ (r.occupied && c.kind == .cabin && decide stays) = true then .occupied else .vacant } := by
  have moved : (r.config.map (fun o => (o.string, o.node)) != some (c.string, c.node)) = !decide stays := by
    rw [Bool.eq_iff_iff]
    simp [place]
  have written : r.configured c =
      { r with
        config := some c, dwell := 0, overstayReported := false, occupied := r.occupied && c.kind == .cabin && decide stays, occupancy := 0
        occupancyReported := false, uses := 0, tamper := false, last := none, door := if stays then r.door else none
        state := if r.state = .unconfigured then .vacant else r.state } := by
    unfold UnitRecord.configured
    rw [moved]
    by_cases h : stays <;> simp [h]
  unfold UnitRecord.rewritten
  rw [written]
  dsimp only
  by_cases out : r.state = .withdrawn
  · rw [out]
    rfl
  · have vacant : (if r.state = .unconfigured then UnitState.vacant else r.state) = .vacant := by
      simp only [List.mem_cons, List.not_mem_nil, or_false] at idle
      rcases idle with state | state | state
      · rw [state]
        rfl
      · rw [state]
        rfl
      · exact absurd state out
    rw [if_neg out, if_pos vacant]
    have free : (({ r with
        config := some c, dwell := 0, overstayReported := false, occupied := r.occupied && c.kind == .cabin && decide stays, occupancy := 0
        occupancyReported := false, uses := 0, tamper := false, last := none, door := if stays then r.door else none
        state := if r.state = .unconfigured then .vacant else r.state } : UnitRecord).freeUse = true) ↔ c.mode = .freeUse := by
      simp [UnitRecord.freeUse]
    simp only [UnitRecord.adjusted, free]

end Sys2Proof.Machine
end



section
/-! PROOF. CONFIGURE_UNIT and REMOVE_UNIT accepted: O28, O29 (R22, R23, R125, R162). -/

set_option Elab.async false

namespace Sys2Proof.Machine

variable {s t : State} {u : Nat}

/-- Settles O28. -/
theorem configureUnitWritesTheUnit : Obligations.ConfigureUnitWritesTheUnit := by
  intro s tag unit kind string node zone mode interval c on i u r stays occupied written base joined moves one config quiet idle free fresh
  have answers : exec i s = .next (s.answered i (configureUnit unit kind string node zone mode interval (s.taken i))) :=
    exec_configureUnit on tag unit kind string node zone mode interval
  have alone : (s.taken i).addressTaken u c.string c.node = false := by
    rw [State.addressTaken_taken]
    exact (addressTaken_eq_false_iff s _ _ _).mpr free
  have accepted : configureUnit unit kind string node zone mode interval (s.taken i) = ((s.taken i).applyConfig u c).ok [] := by
    rw [configureUnit_of_sound one config, State.taken_arb, State.taken_unit, if_neg (not_not.mpr quiet), if_neg (not_not.mpr idle),
      if_neg (by rw [alone]; decide)]
  have record : ((s.taken i).unit u).rewritten c = written := by
    rw [State.taken_unit]
    exact UnitRecord.rewritten_eq (stays := stays) Iff.rfl idle
  have touched : Changes [.units, .link, .notices, .counters] s base :=
    ((changes_taken s i).mono (by decide)).trans ((changes_setUnit u written (by decide)).mpr Changes.refl)
  have strings : base.strings = s.strings := touched .strings (by decide)
  have str : ∀ j, base.str j = s.str j := fun j => congrArg (PerString.get · j) strings
  have node_ : ∀ j a, base.node? j a = s.node? j a := fun j a => by rw [State.node?, str, State.node?]
  have period : base.roundPeriod = s.roundPeriod := by
    unfold State.roundPeriod
    rw [touched .params (by decide)]
  have units : base.unit u = written ∧ ∀ v, v ≠ u → base.unit v = s.unit v :=
    ⟨State.unit_setUnit_self _ one _, fun v ne => by rw [State.unit_setUnit_other _ _ ne, State.taken_unit]⟩
  rw [accepted, State.applyConfig_eq _ one, record, State.unitNode_taken] at answers
  generalize moved : base.moveNode (s.unitNode u) c.string c.node = b
  have kept : stays → b = base := fun here => by
    rw [← moved]
    exact if_pos here
  have relocated : ¬stays → b = base.relocated (s.unitNode u) c.string c.node := fun away => by
    rw [← moved]
    exact moveNode_of_moved away base
  have unlisted : ¬stays → base.node? c.string c.node = none := fun away => by
    rw [node_, ← Option.not_isSome_iff_eq_none, fresh, decide_eq_true_iff]
    exact away
  have arbBase : base.arb = s.arb := touched .arb (by decide)
  have blocks : Changes [.units, .arb, .strings, .link, .notices, .counters] s b
      ∧ { b.arb with grantPass := s.arb.grantPass } = s.arb ∧ b.units = base.units := by
    by_cases here : stays
    · rw [kept here, arbBase]
      exact ⟨touched.mono (by decide), rfl, rfl⟩
    · rw [relocated here, arb_relocated, arbBase]
      have later := changes_relocated base (s.unitNode u) c.string c.node
      exact ⟨(touched.mono (by decide)).trans (later.mono (by decide)), rfl, later .units (by decide)⟩
  obtain ⟨changed, arb, same⟩ := blocks
  have on_ : b.power.on = true := (congrArg Power.on (changed .power (by decide))).trans on
  refine ⟨b, b.dropUnit .evacuation u true, (b.dropUnit .evacuation u true).dropUnit .closing u true, ?_, drops_dropUnit on_ _ _ _,
    drops_dropUnit (on_dropUnit on_ _ _ _) _ _ _, ?_, (State.unit_congr same u).trans units.1, fun v ne => (State.unit_congr same v).trans (units.2 v ne),
    fun here => ?_, fun away => ⟨?_, fun j a there => ?_⟩, fun j a still ne => ?_, fun j ne still => ?_, fun away idle still => ?_,
    fun j a move ne last => ?_, fun j a x move line here => ?_, arb, changed .sweeps (by decide), changed, by rw [strings_dropUnit, strings_dropUnit]⟩
  · rw [← moved]
    exact answers
  · by_cases here : stays
    · rw [if_pos here, kept here]
    · rw [if_neg here, relocated here]
      cases s.unitNode u <;> rfl
  · rw [kept here, strings]
  · rw [relocated away]
    exact node?_relocated_new away (unlisted away)
  · rw [relocated away]
    exact node?_relocated_old there _ _ _
  · by_cases here : stays
    · rw [kept here, node_]
    · rw [relocated here, node?_relocated_other (fun there => still ⟨there, here⟩) ne, node_]
  · by_cases here : stays
    · rw [kept here, str]
    · rw [relocated here, str_relocated_other ne (fun d there => still d ⟨there, here⟩), str]
  · rw [relocated away, str_relocated_joined (fun d there => still d ⟨there, away⟩), ← period]
    exact (str_nodeJoins base c.string c.node).2.2 (by rw [str]; exact idle)
  · rw [relocated move.2]
    exact str_relocated_emptied move.1 ne (by rw [str]; exact last)
  · rw [relocated move.2]
    exact str_relocated_stale move.1 (by rw [str]; exact line) here

/-! ## A unit without a place takes no part in a walk -/

theorem unit_guestWithdrawn_other {v : Nat} (ne : u ≠ v) (s : State) (why : WithdrawReason) : (s.guestWithdrawn v why).unit u = s.unit u := by
  unfold State.guestWithdrawn
  split
  · rfl
  · dsimp only
    rw [State.post_unit, State.unit_withdrawn_other _ ne]
    rfl

theorem unit_supersede_other {v : Nat} (ne : u ≠ v) (s : State) (k : SlotId) : (s.supersede k v).unit u = s.unit u := by
  rw [supersede_eq_visited]
  cases k with
  | evacuation => exact unit_guestWithdrawn_other ne s _
  | closing => rfl

theorem unit_releasedOpen_other {v : Nat} (ne : u ≠ v) (s : State) (k : SlotId) : (s.releasedOpen k v).unit u = s.unit u := by
  have told : (if (s.unit v).holder = none then s
      else s.post (s.unitNotice .unitReleased v (s.unit v).holder (.released true) (some (s.unit v).dwell))).unit u = s.unit u := by
    split
    · rfl
    · exact State.post_unit _ _ _
  unfold State.releasedOpen
  dsimp only
  rw [State.unit_setDir, State.unit_setSlot, State.unit_setUnit_other _ _ ne, told]

theorem unit_walkOver_placeless {k : SlotId} {i : StringId} {as : List Nat} (placeless : s.unitNode u = none) :
    (walkOver k i as s).unit u = s.unit u := by
  induction as generalizing s with
  | nil => exact State.unit_setSlot ..
  | cons a rest ih =>
    unfold walkOver
    cases at_ : s.unitAt i a with
    | none => exact ih placeless
    | some v =>
      have ne : u ≠ v := by
        rintro rfl
        rw [unitNode_of_unitAt at_] at placeless
        cases placeless
      have visited : (s.supersede k v).unit u = s.unit u := unit_supersede_other ne s k
      have placeless' : (s.supersede k v).unitNode u = none := by
        rw [State.unitNode, visited]
        exact placeless
      dsimp only
      split
      · rw [← visited]
        generalize s.supersede k v = t at placeless'
        split
        · exact ih placeless'
        · have released : (t.releaseAtOnce k v).unit u = t.unit u := by
            rw [releaseAtOnce_eq_releasedOpen _ _ (State.isUnit_of_unitAt at_), unit_releasedOpen_other ne]
          rw [ih (by rw [State.unitNode, released]; exact placeless'), released]
        · have marked : (t.markRepeat k v).unit u = t.unit u := State.unit_setSlot ..
          rw [ih (by rw [State.unitNode, marked]; exact placeless'), marked]
        · exact State.unit_congr ((show Changes [.arb, .sweeps] t ((t.putOffer k i v).setCursor k i rest.head?) by simp) .units (by decide)) u
      · exact ih placeless

theorem unit_dropUnit_placeless (placeless : s.unitNode u = none) (k : SlotId) (v : Nat) (mark : Bool) : (s.dropUnit k v mark).unit u = s.unit u := by
  unfold State.dropUnit
  split
  · rfl
  case h_2 i _ =>
    have off : (s.withdrawOffer k i mark).unit u = s.unit u :=
      State.unit_congr ((show Changes [.arb, .sweeps] s (s.withdrawOffer k i mark) by simp) .units (by decide)) u
    have tested : ∀ b : State, (b.testPass k).unit u = b.unit u := fun b =>
      State.unit_congr ((show Changes [.arb, .sweeps, .link, .notices, .counters] b (b.testPass k) by simp) .units (by decide)) u
    rw [← off]
    unfold State.walk
    dsimp only
    split
    · rw [tested, unit_walkOver_placeless (by rw [State.unitNode, off]; exact placeless)]
    · exact tested _

/-! ## REMOVE_UNIT -/

theorem exec_removeUnit (on : s.power.on = true) (tag unit : Byte) :
    let i := Instr.removeUnit tag unit
    exec i s = .next (s.answered i (removeUnit unit (s.taken i))) := congrArg Host.Outcome.next (whenOn_takeInHand on rfl _)

/-- A slot whose marks and visit set a removed unit has left (R162). -/
def SweepSlot.without (x : SweepSlot) (u : Nat) : SweepSlot := { x with marks := x.marks.filter (· != u), visit := x.visit.filter (· != u) }

theorem forgetUnit_both (s : State) (u : Nat) : (s.forgetUnit .evacuation u).forgetUnit .closing u =
    { s with sweeps := { s.sweeps with evacuation := s.sweeps.evacuation.without u, closing := s.sweeps.closing.without u } } := rfl

theorem leaveNode_eq (s : State) (old : Option (StringId × Nat)) :
    s.leaveNode old = match old with | none => s | some (j, a) => s.nodeLeaves j a := by
  unfold State.leaveNode
  cases old with
  | none => rfl
  | some place => exact removeNode_eq_nodeLeaves _ _ _

/-- Settles O29. -/
theorem removeUnitTakesItOut : Obligations.RemoveUnitTakesItOut := by
  intro s tag unit on i u st refused base gone out
  have answers : exec i s = .next (s.answered i (removeUnit unit (s.taken i))) := exec_removeUnit on tag unit
  have refuses : ∀ {code}, removeUnit unit (s.taken i) = (s.taken i).refuse code → refused code := fun h => by rw [h] at answers; exact answers
  have service : (s.taken i).arb.service = s.arb.service := by rw [State.taken_arb]
  have state : ((s.taken i).unit unit.toNat).state = st := by rw [State.taken_unit]
  unfold removeUnit at answers refuses
  dsimp only at answers refuses
  rw [service, state] at answers refuses
  refine ⟨fun other => refuses (if_pos other), fun one busy => refuses ?_, fun one quiet none_ => refuses ?_, fun one quiet used => refuses ?_,
    fun one quiet idle => ?_⟩
  · rw [if_neg (not_not.mpr one), if_pos busy]
  · rw [if_neg (not_not.mpr one), if_neg (not_not.mpr quiet), if_pos none_]
  · simp only [List.mem_cons, List.not_mem_nil, or_false, not_or] at used
    rw [if_neg (not_not.mpr one), if_neg (not_not.mpr quiet), if_neg used.1, if_pos (not_or.mpr used.2)]
  · simp only [List.mem_cons, List.not_mem_nil, or_false] at idle
    have configured : st ≠ .unconfigured := fun none_ => by simp [none_] at idle
    rw [if_neg (not_not.mpr one), if_neg (not_not.mpr quiet), if_neg configured, if_neg (not_not.mpr idle), State.removeConfig_eq,
      State.unitNode_taken, leaveNode_eq, forgetUnit_both] at answers
    have touched : Changes [.units, .link, .notices, .counters] s base :=
      ((changes_taken s i).mono (by decide)).trans ((changes_setUnit u UnitRecord.cold (by decide)).mpr Changes.refl)
    have strings : base.strings = s.strings := touched .strings (by decide)
    have str : ∀ j, base.str j = s.str j := fun j => congrArg (PerString.get · j) strings
    have node_ : ∀ j a, base.node? j a = s.node? j a := fun j a => by rw [State.node?, str, State.node?]
    have arbBase : base.arb = s.arb := touched .arb (by decide)
    have still : (∀ j a, s.unitNode u ≠ some (j, a)) → gone = base := fun none_ => by
      cases at_ : s.unitNode u with
      | none => simp only [gone, at_]
      | some place => exact absurd at_ (none_ place.1 place.2)
    have left : ∀ {j a}, s.unitNode u = some (j, a) → gone = base.nodeLeaves j a := fun at_ => by simp only [gone, at_]
    have later : Changes [.arb, .strings, .link, .notices, .counters] base gone ∧ { gone.arb with grantPass := s.arb.grantPass } = s.arb := by
      cases at_ : s.unitNode u with
      | none => rw [still (by simp [at_]), arbBase]; exact ⟨Changes.refl, rfl⟩
      | some place => rw [left at_, arb_nodeLeaves, arbBase]; exact ⟨changes_nodeLeaves _ _ _, rfl⟩
    obtain ⟨later, arb⟩ := later
    have changed : Changes [.units, .arb, .strings, .link, .notices, .counters] s gone := (touched.mono (by decide)).trans (later.mono (by decide))
    have sweeps : gone.sweeps = s.sweeps := changed .sweeps (by decide)
    have units : ∀ v, gone.unit v = base.unit v := fun v => State.unit_congr (later .units (by decide)) v
    have unit : gone.unit u = UnitRecord.cold := (units u).trans (State.unit_setUnit_self _ one _)
    let b : State := { gone with sweeps := { s.sweeps with evacuation := out s.sweeps.evacuation, closing := out s.sweeps.closing } }
    have forgot : b = { gone with sweeps :=
        { gone.sweeps with evacuation := gone.sweeps.evacuation.without u, closing := gone.sweeps.closing.without u } } := by
      rw [sweeps]
      rfl
    have answered : exec i s = .next (i.reply s ((b.dropUnit .evacuation u false).dropUnit .closing u false) .ok []) := by
      rw [forgot]
      exact answers
    have on_ : b.power.on = true := (congrArg Power.on (changed .power (by decide))).trans on
    have placeless : b.unitNode u = none := by
      rw [State.unitNode, show b.unit u = UnitRecord.cold from unit]
      rfl
    have cold : (b.dropUnit .evacuation u false).unit u = UnitRecord.cold := (unit_dropUnit_placeless placeless _ _ _).trans unit
    refine ⟨b, b.dropUnit .evacuation u false, (b.dropUnit .evacuation u false).dropUnit .closing u false, answered, drops_dropUnit on_ _ _ _,
      drops_dropUnit (on_dropUnit on_ _ _ _) _ _ _, rfl, unit, fun v ne => ?_, fun j a there => ?_, fun j a away => ?_, fun j away => ?_,
      fun j a there last => ?_, fun j a x there line here => ?_, fun k => ?_, arb, ?_, ?_, by rw [strings_dropUnit, strings_dropUnit]⟩
    · exact (units v).trans (by rw [State.unit_setUnit_other _ _ ne, State.taken_unit])
    · exact (congrArg (State.node? · j a) (left there)).trans (node?_nodeLeaves_self base j a)
    · refine (show gone.node? j a = base.node? j a from ?_).trans (node_ j a)
      cases at_ : s.unitNode u with
      | none => rw [still (by simp [at_])]
      | some place => rw [left at_, node?_nodeLeaves_other (fun eq => away (by rw [at_, eq]))]
    · refine (show gone.str j = base.str j from ?_).trans (str j)
      cases at_ : s.unitNode u with
      | none => rw [still (by simp [at_])]
      | some place => rw [left at_, str_nodeLeaves_other fun eq => away place.2 (by rw [at_, eq])]
    · have emptied := (str_nodeLeaves base j a).2.2 (by rw [str]; exact last)
      rw [← left there] at emptied
      exact emptied
    · exact (congrArg (fun t => (State.str t j).exchange) (left there)).trans ((str_nodeLeaves base j a).2.1 x (by rw [str]; exact line) here)
    · cases k <;> rfl
    · exact (changed.mono (by decide)).trans ((changes_setSweeps _ (by decide)).mpr Changes.refl)
    · rw [unit_dropUnit_placeless (by rw [State.unitNode, cold]; rfl), cold]

end Sys2Proof.Machine
end



section
/-! PROOF. The acts of a decision: O51, O52 (R60 to R78). -/

set_option Elab.async false

namespace Sys2Proof.Machine

variable {s t : State}

/-! ## The end of a decision -/

/-- The outcomes counted accepted, as R78 lists them. -/
theorem PresentationOutcome.accepted_iff (o : PresentationOutcome) :
    o.accepted = true ↔ o ∈ [PresentationOutcome.acceptedLock, .acceptedOpen, .staffRelease, .cleaned] := by
  cases o <;> decide

theorem PresentationOutcome.indicator_eq (o : PresentationOutcome) : o.indicator =
    if o ∈ [PresentationOutcome.acceptedLock, .acceptedOpen, .staffRelease, .cleaned] then Indicator.green
    else if o ∈ [PresentationOutcome.serviceSuspended, .unitBusy, .queueFull] then .amber else .red := by
  cases o <;> rfl

theorem writePending_eq (s : State) (i : StringId) (a : Nat) (code : Indicator) :
    s.writePending i a code =
      if s.presence i a = .absent then s
      else s.setStr i { s.str i with
        nodes := updateNode (s.str i).nodes a fun n => { n with pending := code }
        exchange := (s.str i).exchange.map fun x => if x.node = a then { x with replaced := true } else x } := by
  unfold State.writePending
  dsimp only
  rw [State.modNode, State.str_setStr_self, State.setStr_setStr]
  rfl

/-- The state of a decision's end once its code is written and its notices are posted (R73, R74, R76, R77). -/
def State.told (s : State) (d : Decision) (o : PresentationOutcome) : State :=
  ((s.writePending d.str d.node o.indicator).postSighting d o).postPresentation d o

theorem told_decisions (s : State) (d : Decision) (o : PresentationOutcome) : (s.told d o).decisions = s.decisions :=
  (show Changes [.strings, .link, .notices, .counters] s (s.told d o) by simp [State.told]) .decisions (by decide)

theorem endDecision_eq (s : State) (d : Decision) (o : PresentationOutcome) : s.endDecision d o =
    { s.told d o with
      counters :=
        if o.accepted then { (s.told d o).counters with accepted := tally (s.told d o).counters.accepted }
        else { (s.told d o).counters with refused := tally (s.told d o).counters.refused }
      decisions := s.decisions.filter fun e => !(e.str == d.str && e.node == d.node) } :=
  congrArg (fun ds : List Decision => ({ s.told d o with
      counters :=
        if o.accepted then { (s.told d o).counters with accepted := tally (s.told d o).counters.accepted }
        else { (s.told d o).counters with refused := tally (s.told d o).counters.refused }
      decisions := ds.filter fun e => !(e.str == d.str && e.node == d.node) } : State)) (told_decisions s d o)

theorem endDecision_eq_decided (s : State) (d : Decision) (o : PresentationOutcome) : s.endDecision d o = s.decided d o := by
  have value : (if d.admitted then d.seq + 256 else d.seq) = d.seq + if d.admitted then 256 else 0 := by split <;> rfl
  have others : (fun e : Decision => !(e.str == d.str && e.node == d.node)) = fun e => decide ¬(e.str = d.str ∧ e.node = d.node) := by
    funext e
    rw [Bool.eq_iff_iff]
    simp
  have accepted : ∀ (x y : Counters), (if o.accepted then x else y)
      = if o ∈ [PresentationOutcome.acceptedLock, .acceptedOpen, .staffRelease, .cleaned] then x else y := fun _ _ =>
    if_congr o.accepted_iff rfl rfl
  rw [endDecision_eq, others, accepted, State.told, State.postPresentation, value, State.postSighting, writePending_eq, PresentationOutcome.indicator_eq]
  rfl

/-! ## Step 1 -/

theorem step1_eq (s : State) (d : Decision) (staff : Bool) : s.step1 d staff = s.suspendedFor d staff := by
  rw [Bool.eq_iff_iff]
  simp [State.step1, State.suspendedFor, State.suspended, State.alarmHolds, State.sweepActive, State.slot, or_assoc]

/-! ## The lookup and the admission -/

/-- A decision is written anew in its place on the list. -/
def State.goesOn (s : State) (ds : List Decision) (d : Decision) : State :=
  { s with decisions := ds.map fun e => if e.str = d.str ∧ e.node = d.node then d else e }

/-- A decision whose band has an entry goes on to the unit act, or ends BAND_LOST (R63, R70). -/
theorem afterLookup_eq (s : State) (d : Decision) (e : Band) (admitted : Bool) : s.afterLookup d e admitted =
    if e.lost = true then s.decided { d with admitted := admitted } .bandLost
    else s.goesOn s.decisions { d with stage := .unitAct, staff := e.cls == .staff, admitted := admitted } := by
  rw [← endDecision_eq_decided]
  rfl

/-- Settles O51. -/
theorem presentationsAreLookedUp : Obligations.PresentationsAreLookedUp := by
  intro s i a on standing goes found
  have found_ : ∀ (t : State) d e b, t.decisions = s.decisions → t.afterLookup d e b = found t d e b := fun t d e b same => by
    rw [afterLookup_eq, same]
    rfl
  refine ⟨(next_whenOn on _).trans (congrArg Host.Outcome.next ?_), (next_whenOn on _).trans (congrArg Host.Outcome.next ?_)⟩
  · rw [State.decide, State.decision?, show (s.decisions.find? fun d => d.str == i && d.node == a && d.stage == .lookup) = standing .lookup from rfl]
    cases standing .lookup with
    | none => rfl
    | some d =>
      dsimp only
      unfold State.lookupAct
      dsimp only
      rw [step1_eq, endDecision_eq_decided, State.band?]
      refine if_congr Iff.rfl rfl ?_
      cases s.dir.find? (·.id == d.band) with
      | some e => exact found_ s d e false rfl
      | none =>
        dsimp only
        rw [endDecision_eq_decided, ← ite_not]
        refine if_congr ?_ rfl rfl
        have link : s.link.state = .standalone ↔ ¬s.link.state = .linked := by cases s.link.state <;> decide
        rw [link, not_or, not_or, Bool.not_eq_false]
  · rw [State.decide, State.decision?, show (s.decisions.find? fun d => d.str == i && d.node == a && d.stage == .admission) = standing .admission from rfl]
    cases standing .admission with
    | none => rfl
    | some d =>
      dsimp only
      unfold State.admissionAct
      rw [State.band?]
      cases s.dir.find? (·.id == d.band) with
      | some e => exact found_ s d e false rfl
      | none =>
        dsimp only
        rw [endDecision_eq_decided, insertBand_eq_takeWhile]
        exact if_congr Iff.rfl rfl (found_ _ d _ true rfl)

end Sys2Proof.Machine
end



section
/-! PROOF. The unit act: O52 (R60, R64 to R72, R6). -/

set_option Elab.async false

namespace Sys2Proof.Machine

variable {s : State} {d : Decision}

/-- What the unit act does once its outcome is known: the outcome takes effect, and the decision ends (R60). -/
def State.concluded (s : State) (d : Decision) (o : PresentationOutcome) : State := (s.presented d o).decided d o

/-- The outcome of the staff step (R70 to R72). -/
def State.staffVerdict (s : State) (d : Decision) : PresentationOutcome :=
  match (s.unit d.unit).state with
  | .jammed | .forfeited => if 32 ≤ s.arb.queue.length then .queueFull else .staffRelease
  | .cleaning => .cleaned
  | .vacant | .occupied => .staffNoHold
  | .held | .openHeld => .notHolder
  | .locking | .unlocking | .verify => .unitBusy
  | .unconfigured | .withdrawn => .outOfService

/-- The outcome at a VACANT unit (R65). -/
def State.vacantVerdict (s : State) (d : Decision) (e : Band) : PresentationOutcome :=
  let kind := (s.unit d.unit).config.elim UnitKind.locker (·.kind)
  if e.expired = true then .bandExpired
  else if (s.unit d.unit).door = some .opened then .doorOpen
  else if e.lost = true then .bandLost
  else if (match kind with | .locker => e.lockers | .cabin => e.cabins) ≤ s.heldOf e.holdings kind then .allowanceUsed
  else if 32 ≤ s.arb.queue.length then .queueFull
  else .acceptedLock

/-- The outcome of steps 5 to 11 (R64 to R68). -/
def State.guestVerdict (s : State) (d : Decision) (e : Band) : PresentationOutcome :=
  let r := s.unit d.unit
  if r.state ∈ [.unconfigured, .withdrawn, .jammed, .forfeited, .cleaning] then .outOfService
  else if r.freeUse = true ∨ r.state = .occupied then .notBookable
  else if r.state ∈ [.locking, .unlocking, .verify] then .unitBusy
  else if r.state = .vacant then s.vacantVerdict d e
  else if ¬(r.holder = some d.band ∨ ∃ h ∈ r.holder, s.mates d.band h = true) then .notHolder
  else if r.state = .held then if 32 ≤ s.arb.queue.length then .queueFull else .acceptedOpen
  else if r.door = some .opened then .doorOpen
  else if 32 ≤ s.arb.queue.length then .queueFull
  else .acceptedLock

theorem verdict_eq (s : State) (d : Decision) : s.verdict d =
    if s.suspendedFor d d.staff = true then .serviceSuspended
    else (s.band? d.band).elim .unknownBand fun e => if d.staff = true then s.staffVerdict d else s.guestVerdict d e := by
  unfold State.verdict State.band?
  dsimp only
  refine if_congr Iff.rfl rfl ?_
  cases s.dir.find? (·.id == d.band) <;> rfl

theorem queueFull_iff (s : State) : s.queueFull = true ↔ 32 ≤ s.arb.queue.length := decide_eq_true_iff

/-- An act that a full queue refuses (R82). -/
theorem concluded_of_queue {o : PresentationOutcome} {t : State} (accepted : t = s.concluded d o) :
    (if s.queueFull then s.endDecision d .queueFull else t) = s.concluded d (if 32 ≤ s.arb.queue.length then .queueFull else o) := by
  rw [apply_ite (s.concluded d), accepted]
  exact if_congr (queueFull_iff s) (endDecision_eq_decided s d .queueFull) rfl

/-! ## Staff (R70 to R72) -/

theorem isUnit_of_state {u : Nat} {st : UnitState} (state : (s.unit u).state = st) (ne : st ≠ .unconfigured) : isUnit u := by
  by_contra other
  rw [State.unit, dif_neg other] at state
  exact ne state.symm

theorem staffSteps_eq (s : State) (d : Decision) : s.staffSteps d = s.concluded d (s.staffVerdict d) := by
  have release : (s.admitRecord d.unit .staff (some .freeUnit) (some d.band) none).endDecision d .staffRelease = s.concluded d .staffRelease := by
    rw [endDecision_eq_decided, State.admitRecord_eq]
    rfl
  unfold State.staffSteps State.staffVerdict
  cases state : (s.unit d.unit).state with
  | jammed => exact concluded_of_queue release
  | forfeited => exact concluded_of_queue release
  | cleaning =>
    dsimp only
    rw [endDecision_eq_decided, State.cleanUnit_eq s (isUnit_of_state state (by decide))]
    rfl
  | vacant => exact endDecision_eq_decided ..
  | occupied => exact endDecision_eq_decided ..
  | held => exact endDecision_eq_decided ..
  | openHeld => exact endDecision_eq_decided ..
  | locking => exact endDecision_eq_decided ..
  | unlocking => exact endDecision_eq_decided ..
  | verify => exact endDecision_eq_decided ..
  | unconfigured => exact endDecision_eq_decided ..
  | withdrawn => exact endDecision_eq_decided ..

/-! ## Guests (R64 to R68) -/

theorem groupMates_eq_mates (s : State) (b h : BandId) : s.groupMates b h = s.mates b h := by
  unfold State.groupMates State.mates State.band?
  cases s.dir.find? (·.id == b) with
  | none => rfl
  | some x =>
    cases s.dir.find? (·.id == h) with
    | none => rfl
    | some y =>
      dsimp only
      rw [Bool.eq_iff_iff]
      simp [and_assoc]

theorem ownsUnit_iff (s : State) (d : Decision) : s.ownsUnit d = true ↔
    ((s.unit d.unit).holder = some d.band ∨ ∃ h ∈ (s.unit d.unit).holder, s.mates d.band h = true) := by
  unfold State.ownsUnit
  cases (s.unit d.unit).holder with
  | none => simp
  | some h => simp [groupMates_eq_mates]

/-- A guest lock binds the band to a VACANT unit, and leaves an OPEN_HELD one with its holder (R6, R65, R67). -/
theorem acceptedLock_eq (s : State) (d : Decision) (b : State)
    (bound : b = if (s.unit d.unit).state = .vacant then s.bind d.unit d.band else s) :
    (b.admitRecord d.unit .guestLock none (some d.band) none).endDecision d .acceptedLock = s.concluded d .acceptedLock := by
  have written : s.bind d.unit d.band =
      { s.setUnit d.unit { s.unit d.unit with holder := some d.band, dwell := 0 } with
        dir := s.dir.map fun e => if e.id = d.band then { e with holdings := e.holdings ++ [d.unit] } else e } := by
    rw [State.bind_eq]
    unfold State.setUnit
    split <;> rfl
  rw [endDecision_eq_decided, State.admitRecord_eq, bound, written]
  rfl

theorem stepHeld_eq (s : State) (d : Decision) : s.stepHeld d = s.concluded d (if 32 ≤ s.arb.queue.length then .queueFull else .acceptedOpen) := by
  refine concluded_of_queue ?_
  rw [endDecision_eq_decided, State.admitRecord_eq]
  rfl

theorem stepOpenHeld_eq (state : (s.unit d.unit).state = .openHeld) : s.stepOpenHeld d =
    s.concluded d (if (s.unit d.unit).door = some .opened then .doorOpen else if 32 ≤ s.arb.queue.length then .queueFull else .acceptedLock) := by
  unfold State.stepOpenHeld
  rw [apply_ite (s.concluded d)]
  refine if_congr Iff.rfl (endDecision_eq_decided ..) (concluded_of_queue (acceptedLock_eq s d s ?_))
  rw [state]
  rfl

theorem stepVacant_eq {e : Band} (entry : s.band? d.band = some e) (state : (s.unit d.unit).state = .vacant) :
    s.stepVacant d e = s.concluded d (s.vacantVerdict d e) := by
  have kind : (s.unitKind d.unit).getD .locker = (s.unit d.unit).config.elim .locker (·.kind) := by
    unfold State.unitKind
    cases (s.unit d.unit).config <;> rfl
  unfold State.stepVacant State.vacantVerdict
  dsimp only
  rw [apply_ite (s.concluded d), apply_ite (s.concluded d)]
  by_cases expired : e.expired = true
  · rw [if_pos expired, if_pos expired]
    exact endDecision_eq_decided ..
  · rw [if_neg expired, if_neg expired]
    refine if_congr Iff.rfl (endDecision_eq_decided ..) ?_
    unfold State.appendRefusal
    rw [entry, kind]
    dsimp only
    by_cases lost : e.lost = true
    · rw [if_pos lost, if_pos lost]
      exact endDecision_eq_decided ..
    · rw [if_neg lost, if_neg lost, if_neg expired, kindCount_eq_heldOf]
      have allowance : e.allowance ((s.unit d.unit).config.elim .locker (·.kind)) =
          match (s.unit d.unit).config.elim UnitKind.locker (·.kind) with | .locker => e.lockers | .cabin => e.cabins := by
        cases (s.unit d.unit).config.elim UnitKind.locker (·.kind) <;> rfl
      rw [allowance]
      by_cases used : (match (s.unit d.unit).config.elim UnitKind.locker (·.kind) with | .locker => e.lockers | .cabin => e.cabins)
          ≤ s.heldOf e.holdings ((s.unit d.unit).config.elim .locker (·.kind))
      · rw [if_pos used]
        exact (endDecision_eq_decided s d .allowanceUsed).trans (congrArg (s.concluded d) (if_pos used).symm)
      · rw [if_neg used]
        refine (concluded_of_queue (acceptedLock_eq s d _ ?_)).trans (congrArg (s.concluded d) (if_neg used).symm)
        rw [if_pos state]

/-- A unit in FREE_USE takes no band (R68). -/
theorem concluded_of_booking {o : PresentationOutcome} {t : State} {st : UnitState} (other : st ≠ .occupied) (rest : t = s.concluded d o) :
    (if (s.unit d.unit).freeUse then s.endDecision d .notBookable else t)
      = s.concluded d (if (s.unit d.unit).freeUse = true ∨ st = .occupied then .notBookable else o) := by
  rw [apply_ite (s.concluded d), rest]
  exact if_congr (or_iff_left other).symm (endDecision_eq_decided s d .notBookable) rfl

/-- A HELD or OPEN_HELD unit serves its holder and the group-mates of it (R35, R66, R67). -/
theorem concluded_of_owner {o : PresentationOutcome} {t : State} (owns : t = s.concluded d o) :
    (if s.ownsUnit d then t else s.endDecision d .notHolder)
      = s.concluded d (if ¬((s.unit d.unit).holder = some d.band ∨ ∃ h ∈ (s.unit d.unit).holder, s.mates d.band h = true) then .notHolder else o) := by
  rw [apply_ite (s.concluded d), owns, ite_not]
  exact if_congr (ownsUnit_iff s d) rfl (endDecision_eq_decided s d .notHolder)

theorem guestSteps_eq {e : Band} (entry : s.band? d.band = some e) : s.guestSteps d e = s.concluded d (s.guestVerdict d e) := by
  have vacant : (s.unit d.unit).state = .vacant → s.stepVacant d e = s.concluded d (s.vacantVerdict d e) := stepVacant_eq entry
  have openHeld : (s.unit d.unit).state = .openHeld → _ := stepOpenHeld_eq (s := s) (d := d)
  unfold State.guestSteps State.guestVerdict
  dsimp only
  cases state : (s.unit d.unit).state with
  | unconfigured => exact endDecision_eq_decided ..
  | withdrawn => exact endDecision_eq_decided ..
  | jammed => exact endDecision_eq_decided ..
  | forfeited => exact endDecision_eq_decided ..
  | cleaning => exact endDecision_eq_decided ..
  | locking => exact concluded_of_booking (st := .locking) (by decide) (endDecision_eq_decided s d .unitBusy)
  | unlocking => exact concluded_of_booking (st := .unlocking) (by decide) (endDecision_eq_decided s d .unitBusy)
  | verify => exact concluded_of_booking (st := .verify) (by decide) (endDecision_eq_decided s d .unitBusy)
  | vacant => exact concluded_of_booking (st := .vacant) (by decide) (vacant state)
  | held => exact concluded_of_booking (st := .held) (by decide) (concluded_of_owner (stepHeld_eq s d))
  | openHeld => exact concluded_of_booking (st := .openHeld) (by decide) (concluded_of_owner (openHeld state))
  | occupied =>
    have shut : ∀ o : PresentationOutcome, (if (s.unit d.unit).freeUse = true ∨ UnitState.occupied = .occupied then .notBookable else o) = .notBookable :=
      fun o => if_pos (.inr rfl)
    refine Eq.trans ?_ (congrArg (s.concluded d) (shut _).symm)
    dsimp only
    rw [ite_self]
    exact endDecision_eq_decided ..

/-- Settles O52. -/
theorem presentationsAreDecidedAtTheUnit : Obligations.PresentationsAreDecidedAtTheUnit := by
  intro s i a on
  refine (next_whenOn on _).trans (congrArg Host.Outcome.next ?_)
  rw [State.decide, State.decision?]
  cases s.decisions.find? fun d => d.str == i && d.node == a && d.stage == .unitAct with
  | none => rfl
  | some d =>
    change s.unitAct d = s.concluded d (s.verdict d)
    unfold State.unitAct
    rw [verdict_eq, step1_eq, apply_ite (s.concluded d)]
    refine if_congr Iff.rfl (endDecision_eq_decided ..) ?_
    cases entry : s.band? d.band with
    | none => exact endDecision_eq_decided ..
    | some e =>
      rw [Option.elim_some, apply_ite (s.concluded d)]
      exact if_congr Iff.rfl (staffSteps_eq s d) (guestSteps_eq entry)

end Sys2Proof.Machine
end
